-- ==== Sys2Proof/Word.lean ====
section
/-! DEFINITION. The word types of the HGZ-1088-LC module and their plainest arithmetic: bytes, little-endian numbers
(R3), bit fields (R2) and sequence-number comparison (R318, R505). -/

namespace Sys2Proof

/-- One byte. -/
abbrev Byte := BitVec 8
/-- A 64-bit register or word. -/
abbrev W64 := BitVec 64
/-- A stored WIDE partial or a spire instruction, 128 bits. -/
abbrev W128 := BitVec 128
/-- A ring entry, command or descriptor of 64 bytes. -/
abbrev W512 := BitVec 512

/-- The little-endian bytes of a number, `n` of them (R3). -/
def bytesLE : Nat → Nat → List Byte
  | 0, _ => []
  | n + 1, v => BitVec.ofNat 8 v :: bytesLE n (v / 256)

/-- The number that little-endian bytes spell (R3). -/
def natLE : List Byte → Nat
  | [] => 0
  | b :: bs => b.toNat + 256 * natLE bs

/-- Bits [hi:lo] of a number (R2). -/
def bitsOf (v hi lo : Nat) : Nat := (v >>> lo) % 2 ^ (hi + 1 - lo)

/-- Bit `i` of a number. -/
def bitOf (v i : Nat) : Bool := v.testBit i

/-- Bits [hi:lo] of a number read as two's complement. -/
def sbitsOf (v hi lo : Nat) : Int :=
  let w := hi + 1 - lo
  let x := bitsOf v hi lo
  if x.testBit (w - 1) then (x : Int) - (2 ^ w : Nat) else x

/-- `v` with bits [hi:lo] replaced by `x`. -/
def setBits (v hi lo x : Nat) : Nat :=
  v - (bitsOf v hi lo <<< lo) + ((x % 2 ^ (hi + 1 - lo)) <<< lo)

/-- Bits [hi:lo] of a 64-bit word, as a number. -/
def W64.get (w : W64) (hi lo : Nat) : Nat := bitsOf w.toNat hi lo

/-- A 64-bit word with bits [hi:lo] replaced. -/
def W64.put (w : W64) (hi lo x : Nat) : W64 := BitVec.ofNat 64 (setBits w.toNat hi lo x)

/-- R318: `a` is after `b` when (a − b) mod 2^64 lies between 1 and 2^63 − 1. -/
def seqAfter (a b : W64) : Bool := 1 ≤ (a - b).toNat && (a - b).toNat ≤ 2 ^ 63 - 1

/-- `a` is behind `b` (R318). -/
def seqBehind (a b : W64) : Bool := seqAfter b a

/-- `n` divided by `d`, rounded up. -/
def ceilDiv (n d : Nat) : Nat := (n + d - 1) / d

/-- The numbers `a`, `a + 1`, …, `n` of them. -/
def upFrom : Nat → Nat → List Nat
  | _, 0 => []
  | a, n + 1 => a :: upFrom (a + 1) n

end Sys2Proof
end

