-- ==== Sys2Proof/Syntax.lean ====
section
/-! DEFINITION. The commands of the block: one constructor of `Instr` per row of spec/opcode_table.json, and the types of
their operands. A spire instruction's operand is the spire and the instruction's fields (R94 to R97); an event's operand
names what it happens to and carries what comes from outside the module. -/

namespace Sys2Proof

/-! ## Unit numbers (R10) -/

/-- A spire. -/
abbrev Sp := Fin 256
/-- A near-tier channel, and the basin beside it. -/
abbrev Chan := Fin 256
/-- A memory port: near-tier channel 0 to 255, then far-tier controllers 0 to 7 as 256 to 263. -/
abbrev PortUnit := Fin 264
/-- A canal. -/
abbrev Canal := Fin 24
/-- A host port: 0 is N, 1 is S. -/
abbrev Port := Fin 2
/-- A tower: 0 is north, 1 is south. -/
abbrev Tower := Fin 2
/-- A function: 64 × port + function number (R311). -/
abbrev Fn := Fin 128
/-- A queue (R317). -/
abbrev Qn := Fin 4096
/-- A virtual device, 0 to 62 (R285). -/
abbrev Vd := Fin 63
/-- A node identifier (R252). -/
abbrev Node := BitVec 16
/-- A barge channel (R375). -/
abbrev BargeCh := Fin 1024

/-! ## Spire instruction formats (R94 to R97), opcode left out: the constructor names it -/

/-- Format S (R94). -/
structure FmtS where
  gp : BitVec 3
  gn : BitVec 1
  rd : BitVec 5
  rs1 : BitVec 5
  rs2 : BitVec 5
  rs3 : BitVec 5
  rm : BitVec 3
  pd : BitVec 3
  sz : BitVec 2
  im : BitVec 1
  x : BitVec 1
  aux : BitVec 6
  rsv : BitVec 16
  imm : BitVec 64
deriving DecidableEq, Repr

/-- Format M (R95). -/
structure FmtM where
  gp : BitVec 3
  gn : BitVec 1
  acc : BitVec 1
  init : BitVec 2
  ta : BitVec 4
  tb : BitVec 4
  tp : BitVec 4
  ks : BitVec 5
  ki : BitVec 16
  frame : BitVec 10
  rsv : BitVec 70
deriving DecidableEq, Repr

/-- Format V (R96): slot 0, then the bits of slot 1. -/
structure FmtV where
  gp : BitVec 3
  gn : BitVec 1
  td : BitVec 4
  in0 : BitVec 5
  in1 : BitVec 5
  in2 : BitVec 5
  sc0 : BitVec 5
  sc1 : BitVec 5
  sc2 : BitVec 5
  sc3 : BitVec 5
  str : BitVec 5
  rm : BitVec 3
  red : BitVec 2
  tr : BitVec 4
  noout : BitVec 1
  wframe : BitVec 10
  rsv : BitVec 52
  ext : BitVec 8
  stages : BitVec 120
deriving DecidableEq, Repr

/-- Format X (R97). -/
structure FmtX where
  gp : BitVec 3
  gn : BitVec 1
  td : BitVec 4
  ts : BitVec 4
  ti : BitVec 4
  rb : BitVec 5
  sc : BitVec 1
  pan : BitVec 1
  fin : BitVec 1
  red : BitVec 2
  frame : BitVec 10
  grp : BitVec 12
  rsv : BitVec 72
deriving DecidableEq, Repr

/-- The tile queues (R33). -/
inductive TileQ where
  | mq | vq | tq
deriving DecidableEq, Repr

/-! ## What comes from outside -/

/-- The answer of a read of host memory: its bytes, or a bus error (R364). What the host's memory holds is the host's. -/
inductive HostAns where
  | data (bytes : List Byte)
  | busError
deriving DecidableEq, Repr

/-- What the check bits and the MAC of an access find (R175, R181): whether DRAM cells have failed is the memory's. -/
inductive Ecc where
  | clean
  /-- a correctable error -/
  | corrected
  /-- an uncorrectable error -/
  | uncorrectable
  /-- the block as the DRAM returns it, where it is not as the port last wrote it: 256 bytes of ciphertext and the stored MAC (R179, R181) -/
  | stored (cipher : List Byte) (mac : Nat)
deriving DecidableEq, Repr

/-- A unit that moors and wakes on its own (R448). -/
inductive MoorUnit where
  | spire (sp : Sp)
  | port (u : PortUnit)
  | basin (c : Chan)
  | canal (c : Canal)
  | hostPort (p : Port)
deriving DecidableEq, Repr

/-- What a release or initialising fill works on (R172, R182): a near-tier channel or a far-tier segment. -/
inductive FillUnit where
  | channel (c : Chan)
  | segment (e : Fin 64)
deriving DecidableEq, Repr

/-- The SRAM arrays of R494, by code. -/
inductive SramArray where
  | scratchpad | accumulator | register | dataCache | translation | basinRing | landing | canalBuffer | ledger
  | firmware | journal
deriving DecidableEq, Repr

/-- A unit with logic checks (R495). -/
inductive LogicUnit where
  | spire (sp : Sp)
  | cluster (k : Fin 16)
  | basin (c : Chan)
  | tower (t : Tower)
  /-- the belfry or the charge arbiter; does the good copy of the journal and the charge record suffice? -/
  | belfry (goodCopy : Bool)
deriving DecidableEq, Repr

/-- A queue whose head may retire, and whether the host's bus reports an error for its completion ring (R320). -/
structure Retirement where
  queue : Qn
  busError : Bool
deriving DecidableEq, Repr

/-- A command whose time has run out (R502): on a queue, or the command that a basin runs. -/
inductive TimedOut where
  | queue (q : Qn) (seq : W64)
  | basin (c : Chan)
deriving DecidableEq, Repr

/-- What a run of the traffic generator found in the cells (R197): mismatching words, corrected errors, and the first
mismatch as offset and difference. -/
structure TgErrors where
  words : Nat
  corrected : Nat
  first : Nat
  diff : W64
deriving DecidableEq, Repr

/-- Who writes a register (R5, R469, R491): firmware over the towpath, or a host function at a BAR0 offset. -/
inductive Writer where
  | firmware
  | host (fn : Fn)
deriving DecidableEq, Repr

/-! ## Canal traffic (R241 to R248) -/

/-- A packet: the header of R247 with TYPE left out, and the payload. -/
structure Packet where
  fin : BitVec 1
  vl : BitVec 2
  len : BitVec 7
  rsv1 : BitVec 1
  dst : BitVec 16
  src : BitVec 16
  agent : BitVec 11
  cls : BitVec 3
  rsv2 : BitVec 2
  seq : BitVec 32
  tag : BitVec 20
  red : BitVec 2
  frame : BitVec 10
  addr : BitVec 48
  grp : BitVec 12
  hops : BitVec 4
  payload : List Byte
deriving DecidableEq, Repr

/-- A control flit (R244). -/
structure ControlFlit where
  fnum : BitVec 16
  rxok : BitVec 16
  rplf : BitVec 16
  rplq : BitVec 8
  rsv7 : BitVec 8
  credit0 : BitVec 16
  credit1 : BitVec 16
  credit2 : BitVec 16
  credit3 : BitVec 16
  rcl : BitVec 8
  /-- does the CRC of bytes 60 to 63 match? -/
  crcOk : Bool
deriving DecidableEq, Repr

/-- One flit of a codeword, by its tag (R242). -/
inductive Flit where
  | idle
  | stream (bytes : List Byte)
  | reserved
  | control (f : ControlFlit)
deriving DecidableEq, Repr

/-- A received codeword of ten flits, and what its Reed-Solomon decoder found (R241). -/
structure Codeword where
  /-- does a replay begin with this codeword? How a receiver tells is the link layer's (log 67) -/
  replay : Bool
  corrected : Bool
  uncorrectable : Bool
  flits : List Flit
deriving DecidableEq, Repr

/-! ## Power, meter, start-up and service -/

/-- What the power core's bus and sensors read at a tick (R441, R443): watts, rails over budget or warning, temperatures. -/
structure Telemetry where
  inputW : Nat
  railW : List Nat
  warn : List Bool
  railOff : List Bool
  die : Int
  dieTowerN : Int
  dieTowerS : Int
  hbm : Int
  car : Int
  statusWord : BitVec 16
  vin : Nat
  iin : Nat
deriving DecidableEq, Repr

/-- What the meter's own bus reads at the end of an interval (R441, R453): energy of each rail in µJ, the module input,
and the regulators that did not answer. -/
structure MeterReading where
  railUJ : List Nat
  inputUJ : Nat
  silent : List Bool
  /-- activity of each virtual device by meter group, as the units count it -/
  activity : List (Nat × Nat × Nat)
deriving DecidableEq, Repr

/-- The wake events of R449. -/
inductive WakeCause where
  | doorbell (q : Qn) | canalTraffic (c : Canal) | timer | register | pin
deriving DecidableEq, Repr

/-- What start-up finds outside the module's own state (R462 to R474, R529): units that fail their self-test, their training or the image's
bring-up test, lock crossings that fail to train, whether what trains trains at its first attempt, whether the boot flash answers, FL_HOLD_L
as sampled, and the number that the meter draws for MTRBOOT (R457). A near-tier channel is 0 to 255, a far-tier controller 256 to 263; spares are spires 256 to 263. -/
structure BringUp where
  failedSpires : List Nat
  failedPorts : List Nat
  failedTests : List Nat
  failedCrossings : List Nat
  firstTry : Bool
  flashOk : Bool
  flHoldLow : Bool
  boot : BitVec 32
  /-- ADDR1 and ADDR0 as tied on the baseboard, read at step 1 (R525) -/
  addr : BitVec 2 := 0
deriving DecidableEq, Repr

/-- What a programmer does on J12 (R529). -/
inductive FlashOp where
  | read (addr : Nat) (n : Nat)
  | write (addr : Nat) (data : List Byte)
deriving DecidableEq, Repr

/-- What a debugger does through the J11 TAP (R528). -/
inductive TapOp where
  | halt (sp : Sp)
  | resume (sp : Sp)
  | step (sp : Sp)
  | readReg (sp : Sp) (r : Fin 32)
  | readMem (addr : Nat) (n : Nat)
  | writeMem (addr : Nat) (data : List Byte)
  /-- a scratchpad read or written -/
  | readSpad (sp : Sp) (off : Nat) (n : Nat)
  | writeSpad (sp : Sp) (off : Nat) (data : List Byte)
  /-- a register by its BAR0 offset, and one of the registers of R437 in their order -/
  | readPlace (off : Nat)
  | readSecurity (k : Fin 12)
  | readFuses
deriving DecidableEq, Repr

/-- The commands, one constructor per row of spec/opcode_table.json. -/
inductive Instr where
  | add (sp : Sp) (f : FmtS)  -- ADD, R98
  | sub (sp : Sp) (f : FmtS)  -- SUB, R98
  | andS (sp : Sp) (f : FmtS)  -- AND, R98
  | orS (sp : Sp) (f : FmtS)  -- OR, R98
  | xor (sp : Sp) (f : FmtS)  -- XOR, R98
  | sll (sp : Sp) (f : FmtS)  -- SLL, R98
  | srl (sp : Sp) (f : FmtS)  -- SRL, R98
  | sra (sp : Sp) (f : FmtS)  -- SRA, R98
  | minS (sp : Sp) (f : FmtS)  -- MIN, R98
  | maxS (sp : Sp) (f : FmtS)  -- MAX, R98
  | minu (sp : Sp) (f : FmtS)  -- MINU, R98
  | maxu (sp : Sp) (f : FmtS)  -- MAXU, R98
  | mul (sp : Sp) (f : FmtS)  -- MUL, R98
  | mulh (sp : Sp) (f : FmtS)  -- MULH, R98
  | mulhu (sp : Sp) (f : FmtS)  -- MULHU, R98
  | sel (sp : Sp) (f : FmtS)  -- SEL, R98
  | div (sp : Sp) (f : FmtS)  -- DIV, R100
  | divu (sp : Sp) (f : FmtS)  -- DIVU, R100
  | rem (sp : Sp) (f : FmtS)  -- REM, R100
  | remu (sp : Sp) (f : FmtS)  -- REMU, R100
  | cmp (sp : Sp) (f : FmtS)  -- CMP, R101
  | plog (sp : Sp) (f : FmtS)  -- PLOG, R101
  | pmov (sp : Sp) (f : FmtS)  -- PMOV, R101
  | fadd (sp : Sp) (f : FmtS)  -- FADD, R102
  | fsub (sp : Sp) (f : FmtS)  -- FSUB, R102
  | fmul (sp : Sp) (f : FmtS)  -- FMUL, R102
  | ffma (sp : Sp) (f : FmtS)  -- FFMA, R102
  | fmin (sp : Sp) (f : FmtS)  -- FMIN, R102
  | fmax (sp : Sp) (f : FmtS)  -- FMAX, R102
  | fcmp (sp : Sp) (f : FmtS)  -- FCMP, R102
  | fcvt (sp : Sp) (f : FmtS)  -- FCVT, R102
  | ld (sp : Sp) (f : FmtS)  -- LD, R103
  | st (sp : Sp) (f : FmtS)  -- ST, R103
  | lda (sp : Sp) (f : FmtS)  -- LDA, R117
  | cinv (sp : Sp) (f : FmtS)  -- CINV, R117
  | fset (sp : Sp) (f : FmtS)  -- FSET, R119
  | br (sp : Sp) (f : FmtS)  -- BR, R104
  | jal (sp : Sp) (f : FmtS)  -- JAL, R104
  | tdr (sp : Sp) (f : FmtS)  -- TDR, R106
  | tdw (sp : Sp) (f : FmtS)  -- TDW, R106
  | csrr (sp : Sp) (f : FmtS)  -- CSRR, R105
  | csrw (sp : Sp) (f : FmtS)  -- CSRW, R105
  | aget (sp : Sp) (f : FmtS)  -- AGET, R106
  | aput (sp : Sp) (f : FmtS)  -- APUT, R106
  | vexpr (sp : Sp) (f : FmtV)  -- VEXPR, R111
  | mma (sp : Sp) (f : FmtM)  -- MMA, R107
  | tmove (sp : Sp) (f : FmtX)  -- TMOVE, R112
  | vgather (sp : Sp) (f : FmtX)  -- VGATHER, R115
  | bcmd (sp : Sp) (f : FmtS)  -- BCMD, R123
  | twait (sp : Sp) (f : FmtS)  -- TWAIT, R116
  | waitf (sp : Sp) (f : FmtS)  -- WAITF, R118
  | fsignal (sp : Sp) (f : FmtS)  -- FSIGNAL, R120
  | fwait (sp : Sp) (f : FmtS)  -- FWAIT, R121
  | bar (sp : Sp) (f : FmtS)  -- BAR, R122
  | phase (sp : Sp) (f : FmtS)  -- PHASE, R445
  | epoch (sp : Sp) (f : FmtS)  -- EPOCH, R399
  | nop (sp : Sp) (f : FmtS)  -- NOP, R125
  | eok (sp : Sp) (f : FmtS)  -- EOK, R125
  | brk (sp : Sp) (f : FmtS)  -- BRK, R125
  | ext (sp : Sp)  -- EXT, R93
  | tileStart (sp : Sp) (q : TileQ)  -- TILE_START, R35
  | tileComplete (sp : Sp) (q : TileQ) (k : Nat) (host : List HostAns)  -- TILE_COMPLETE, R34
  | loadDataReturn (id : Nat)  -- LOAD_DATA_RETURN, R27
  | writeAckArrival (id : Nat)  -- WRITE_ACK_ARRIVAL, R535
  | waitfPoll (sp : Sp)  -- WAITF_POLL, R118
  | waitfTimeout (sp : Sp)  -- WAITF_TIMEOUT, R118
  | fwaitComplete (sp : Sp)  -- FWAIT_COMPLETE, R121
  | fwaitTimeout (sp : Sp)  -- FWAIT_TIMEOUT, R121
  | spireHalt (sp : Sp)  -- SPIRE_HALT, R129
  | spireSave (sp : Sp)  -- SPIRE_SAVE, R56
  | spireMoor (sp : Sp)  -- SPIRE_MOOR, R448
  | unitWake (u : MoorUnit)  -- UNIT_WAKE, R448
  | basinAppend (id : Nat)  -- BASIN_APPEND, R133
  | basinNop (c : Chan)  -- BASIN_NOP, R136
  | basinFill (c : Chan)  -- FILL, R153
  | basinCopy (c : Chan)  -- BASIN_COPY, R154
  | convert (c : Chan)  -- CONVERT, R154
  | checksum (c : Chan)  -- CHECKSUM, R155
  | gather (c : Chan)  -- GATHER, R152
  | scatter (c : Chan)  -- SCATTER, R152
  | opt (c : Chan)  -- OPT, R147
  | opttab (c : Chan)  -- OPTTAB, R144
  | wincfg (c : Chan)  -- WINCFG, R143
  | repair (c : Chan) (bad : List Nat)  -- REPAIR, R157
  | basinCommandComplete (c : Chan)  -- BASIN_COMMAND_COMPLETE, R137
  | reducingWriteLand (c : Chan)  -- REDUCING_WRITE_LAND, R138
  | basinMoor (c : Chan)  -- BASIN_MOOR, R162
  | replicaRepair (c : Chan) (off : Nat) (spared : Bool)  -- REPLICA_REPAIR, R156
  | memoryRead (id : Nat) (ecc : Ecc)  -- MEMORY_READ, R132
  | memoryWrite (id : Nat) (ecc : Ecc)  -- MEMORY_WRITE, R177
  | mergeEntryClose (port : Nat) (k : Nat)  -- MERGE_ENTRY_CLOSE, R217
  | fillDone (u : FillUnit)  -- FILL_DONE, R172
  | refresh (u : PortUnit)  -- REFRESH, R186
  | refreshRateChange (u : PortUnit) (temp : Int)  -- REFRESH_RATE_CHANGE, R186
  | refreshManagement (u : PortUnit) (row : Nat)  -- REFRESH_MANAGEMENT, R187
  | retrainingWindow (u : PortUnit)  -- RETRAINING_WINDOW, R188
  | retrainingEnd (u : PortUnit) (converged : Bool)  -- RETRAINING_END, R188
  | dramScrub (u : PortUnit) (ecc : Ecc)  -- DRAM_SCRUB, R190
  | sramScrub (array : SramArray) (unit : Nat) (off : Nat) (ecc : Ecc)  -- SRAM_SCRUB, R191
  | scrubWake (u : PortUnit)  -- SCRUB_WAKE, R192
  | channelMoor (u : PortUnit)  -- CHANNEL_MOOR, R448
  | tgStart (u : PortUnit)  -- TG_START, R197
  | tgStop (u : PortUnit)  -- TG_STOP, R197
  | tgRunEnd (u : PortUnit) (err : TgErrors)  -- TG_RUN_END, R197
  | scratchpadWriteArrival (id : Nat)  -- SCRATCHPAD_WRITE_ARRIVAL, R223
  | landingAdd (id : Nat)  -- LANDING_ADD, R211
  | routerCombine (a : Nat) (b : Nat) (router : Sp)  -- ROUTER_COMBINE, R212
  | combineWaitExpiry (id : Nat)  -- COMBINE_WAIT_EXPIRY, R212
  | combinedAck (id : Nat)  -- COMBINED_ACK, R214
  | multicastDeliver (sp : Sp) (off : Nat) (data : List Byte)  -- MULTICAST_DELIVER, R219
  | lockReplay (toSouth : Bool) (x : Fin 16) (flits : Nat)  -- LOCK_REPLAY, R220
  | lockCrossingOut (x : Fin 16)  -- LOCK_CROSSING_OUT, R221
  | barrierArrival (sp : Sp)  -- BARRIER_ARRIVAL, R208
  | codewordReceive (c : Canal) (cw : Codeword)  -- CODEWORD_RECEIVE, R241
  | controlFlitSend (c : Canal)  -- CONTROL_FLIT_SEND, R244
  | controlFlitReceive (c : Canal) (f : ControlFlit)  -- CONTROL_FLIT_RECEIVE, R244
  | writePacket (c : Canal) (p : Packet)  -- WRITE, R254
  | writeRedPacket (c : Canal) (p : Packet)  -- WRITE_RED, R254
  | readPacket (c : Canal) (p : Packet)  -- READ, R248
  | readRspPacket (c : Canal) (p : Packet)  -- READ_RSP, R248
  | basinPacket (c : Canal) (p : Packet)  -- BASIN, R254
  | fencePacket (c : Canal) (p : Packet)  -- FENCE, R254
  | ackPacket (c : Canal) (p : Packet)  -- ACK, R256
  | nakPacket (c : Canal) (p : Packet)  -- NAK, R253
  | resyncPacket (c : Canal) (p : Packet)  -- RESYNC, R258
  | packetForward (c : Canal) (typ : BitVec 5) (p : Packet)  -- PACKET_FORWARD, R264
  | ackTimer (node : Node)  -- ACK_TIMER, R256
  | retransmitTimeout (node : Node) (seq : W64)  -- RETRANSMIT_TIMEOUT, R257
  | holdTimeout (node : Node) (seq : W64)  -- HOLD_TIMEOUT, R260
  | recalibration (c : Canal) (lane : Fin 4)  -- RECALIBRATION, R266
  | recalDone (c : Canal) (ok : Bool)  -- RECAL_DONE, R266
  | canalTrainingRetry (c : Canal)  -- CANAL_TRAINING_RETRY, R470
  | cableRemoved (c : Canal)  -- CABLE_REMOVED, R520
  | poolStage (q : Qn)  -- STAGE, R277
  | poolCommit (q : Qn)  -- COMMIT, R277
  | poolAbort (q : Qn)  -- ABORT, R278
  | poolGet (q : Qn)  -- GET, R272
  | poolReturn (q : Qn)  -- RETURN, R272
  | poolFree (q : Qn)  -- FREE, R272
  | pdata (c : Canal) (p : Packet)  -- PDATA, R274
  | paccept (c : Canal) (p : Packet)  -- PACCEPT, R277
  | prule (c : Canal) (p : Packet)  -- PRULE, R279
  | pstatus (c : Canal) (p : Packet)  -- PSTATUS, R274
  | poolResponseTimeout (e : Tower) (tag : Nat)  -- POOL_RESPONSE_TIMEOUT, R278
  | poolProbe (e : Tower) (pool : Node)  -- POOL_PROBE, R280
  | poolLoss (e : Tower) (pool : Node)  -- POOL_LOSS, R280
  | vdCreate (q : Qn)  -- VD_CREATE, R294
  | vdSet (q : Qn)  -- VD_SET, R290
  | vdDestroy (q : Qn)  -- VD_DESTROY, R294
  | sliceBind (q : Qn)  -- SLICE_BIND, R296
  | sliceUnbind (q : Qn)  -- SLICE_UNBIND, R297
  | carveBind (q : Qn)  -- CARVE_BIND, R300
  | carveSeal (q : Qn)  -- CARVE_SEAL, R301
  | evac (q : Qn)  -- EVAC, R302
  | evacAbort (q : Qn)  -- EVAC_ABORT, R306
  | vdPeer (q : Qn)  -- VD_PEER, R295
  | vdBarrier (q : Qn)  -- VD_BARRIER, R208
  | graceExpiry (v : Vd) (slice : Nat)  -- GRACE_EXPIRY, R297
  | evacChunkDone (e : Fin 4) (chunk : Nat)  -- EVAC_CHUNK_DONE, R303
  | evacSwitch (e : Fin 4)  -- EVAC_SWITCH, R304
  | doorbell (fn : Fn) (q : Qn) (off : Nat) (width : Nat) (v : W64)  -- DOORBELL, R319
  | commandFetch (q : Qn) (ans : HostAns)  -- COMMAND_FETCH, R319
  | commandRetire (r : Retirement)  -- COMMAND_RETIRE, R320
  | completionConsumerWrite (fn : Fn) (q : Qn) (width : Nat) (v : W64)  -- COMPLETION_CONSUMER_WRITE, R319
  | statusRingEnable (fn : Fn) (off : Nat) (v : W64)  -- STATUS_RING_ENABLE, R322
  | statusConsumerWrite (fn : Fn) (v : W64)  -- STATUS_CONSUMER_WRITE, R322
  | controlQueueCreate (fn : Fn) (off : Nat) (v : W64)  -- CONTROL_QUEUE_CREATE, R340
  | fwRequestProducer (fn : Fn) (v : W64)  -- FW_REQUEST_PRODUCER, R325
  | fwResponseConsumer (fn : Fn) (v : W64)  -- FW_RESPONSE_CONSUMER, R325
  | bar0ReadLatch (fn : Fn) (off : Nat) (width : Nat)  -- BAR0_READ_LATCH, R315
  | bar4Read (fn : Fn) (off : Nat) (n : Nat)  -- BAR4_READ, R326
  | bar4Write (fn : Fn) (off : Nat) (data : List Byte)  -- BAR4_WRITE, R326
  | msixModerationExpiry (q : Qn)  -- MSIX_MODERATION_EXPIRY, R323
  | functionLevelReset (fn : Fn)  -- FUNCTION_LEVEL_RESET, R312
  | linkDown (port : Port)  -- LINK_DOWN, R312
  | regWrite (q : Qn)  -- REG_WRITE, R328
  | peerReset (q : Qn)  -- PEER_RESET, R328
  | chargeMove (q : Qn)  -- CHARGE_MOVE, R328
  | registerWrite (who : Writer) (off : Nat) (v : W64)  -- REGISTER_WRITE, R5
  | ctxCreate (q : Qn)  -- CTX_CREATE, R344
  | ctxDestroy (q : Qn)  -- CTX_DESTROY, R350
  | teardownDrainExpiry (ctx : Fin 256)  -- TEARDOWN_DRAIN_EXPIRY, R350
  | qCreate (q : Qn)  -- Q_CREATE, R341
  | qStop (q : Qn)  -- Q_STOP, R344
  | qStart (q : Qn)  -- Q_START, R344
  | qReset (q : Qn)  -- Q_RESET, R344
  | memCreate (q : Qn)  -- MEM_CREATE, R344
  | memMap (q : Qn)  -- MEM_MAP, R344
  | memUnmap (q : Qn)  -- MEM_UNMAP, R343
  | fenceCreate (q : Qn)  -- FENCE_CREATE, R346
  | fenceLink (q : Qn)  -- FENCE_LINK, R347
  | fenceReset (q : Qn)  -- FENCE_RESET, R346
  | eventCreate (q : Qn)  -- EVENT_CREATE, R343
  | fenceNotify (q : Qn)  -- FENCE_NOTIFY, R349
  | exportObj (q : Qn)  -- EXPORT, R339
  | importObj (q : Qn)  -- IMPORT, R339
  | releaseObj (q : Qn)  -- RELEASE, R338
  | vdGrant (q : Qn)  -- VD_GRANT, R344
  | vdFreeze (q : Qn)  -- VD_FREEZE, R351
  | vdSave (q : Qn)  -- VD_SAVE, R352
  | vdRestore (q : Qn) (image : HostAns)  -- VD_RESTORE, R353
  | vdThaw (q : Qn)  -- VD_THAW, R351
  | workNop (q : Qn)  -- WORK_NOP, R342
  | fenceSignalApply (id : Nat)  -- FENCE_SIGNAL_APPLY, R346
  | fenceAck (id : Nat)  -- FENCE_ACK, R534
  | inval (q : Qn)  -- INVAL, R368
  | invalAbort (k : Nat)  -- INVAL_ABORT, R369
  | invalComplete (k : Nat)  -- INVAL_COMPLETE, R368
  | translationWalk (t : Tower)  -- TRANSLATION_WALK, R359
  | walkReadReturn (w : Fin 32) (ans : HostAns)  -- WALK_READ_RETURN, R359
  | hostReadTimeout (w : Fin 32)  -- HOST_READ_TIMEOUT, R364
  | brun (q : Qn)  -- BRUN, R376
  | bargeChannelAssign (q : Qn) (first : HostAns)  -- BARGE_CHANNEL_ASSIGN, R377
  | bargeNop (b : BargeCh) (host : List HostAns)  -- BARGE_NOP, R379
  | bargeCopy (b : BargeCh) (host : List HostAns)  -- BARGE_COPY, R379
  | bargeReduce (b : BargeCh) (host : List HostAns)  -- BARGE_REDUCE, R379
  | bargeBasin (b : BargeCh) (host : List HostAns)  -- BARGE_BASIN, R379
  | descriptorRecord (b : BargeCh)  -- DESCRIPTOR_RECORD, R384
  | dispatch (q : Qn)  -- DISPATCH, R394
  | jobBegin (q : Qn)  -- JOB_BEGIN, R391
  | jobEnd (q : Qn)  -- JOB_END, R391
  | queueEpoch (q : Qn)  -- QUEUE_EPOCH, R398
  | certRead (q : Qn)  -- CERT_READ, R413
  | attest (q : Qn)  -- ATTEST, R415
  | sessionOpen (q : Qn) (host : HostAns)  -- SESSION_OPEN, R419
  | sessionClose (q : Qn)  -- SESSION_CLOSE, R419
  | bounceIn (q : Qn) (host : HostAns)  -- BOUNCE_IN, R422
  | bounceOut (q : Qn)  -- BOUNCE_OUT, R422
  | migrateTarget (q : Qn) (host : HostAns)  -- MIGRATE_TARGET, R426
  | debugChallenge (q : Qn)  -- DEBUG_CHALLENGE, R433
  | debugOpen (q : Qn) (host : HostAns)  -- DEBUG_OPEN, R433
  | lcAdvance (q : Qn) (host : HostAns) (b : BringUp)  -- LC_ADVANCE, R429
  | ownerSet (q : Qn) (host : HostAns)  -- OWNER_SET, R428
  | debugMailbox (cert : List Byte)  -- DEBUG_MAILBOX, R528
  | powerControlTick (t : Telemetry) (b : BringUp)  -- POWER_CONTROL_TICK, R443
  | droopStretch (t : Tower) (cycles : Nat)  -- DROOP_STRETCH, R444
  | hintExpiry (sp : Sp)  -- HINT_EXPIRY, R445
  | thermalTrip  -- THERMAL_TRIP, R452
  | meterInterval (m : MeterReading)  -- METER_INTERVAL, R453
  | meterInterim (v : Vd)  -- METER_INTERIM, R455
  | meterSign  -- METER_SIGN, R456
  | meterRead (q : Qn)  -- METER_READ, R457
  | meterAck (q : Qn)  -- METER_ACK, R457
  | meterInspectRead (off : Nat) (n : Nat)  -- METER_INSPECT_READ, R458
  | meterCalibrationWrite (rail : Fin 7) (v : BitVec 32)  -- METER_CALIBRATION_WRITE, R458
  | moduleMoor  -- MODULE_MOOR, R449
  | moduleWake (cause : WakeCause)  -- MODULE_WAKE, R449
  | statusWord  -- STATUS_WORD, R459
  | readEin  -- READ_EIN, R459
  | readVin  -- READ_VIN, R459
  | readIin  -- READ_IIN, R459
  | readPin  -- READ_PIN, R459
  | readTemperature1  -- READ_TEMPERATURE_1, R459
  | readTemperature2  -- READ_TEMPERATURE_2, R459
  | readTemperature3  -- READ_TEMPERATURE_3, R459
  | mfrPowerCap (w : Option Nat)  -- MFR_POWER_CAP, R459
  | sensorCalibration  -- SENSOR_CALIBRATION, R508
  | wearLevelling  -- WEAR_LEVELLING, R508
  | powerUp (b : BringUp)  -- POWER_UP, R462
  | fwInfo (port : Port)  -- FW_INFO, R486
  | flashWrite (port : Port) (host : HostAns) (good : Bool)  -- FLASH_WRITE, R486
  | flashActivate (port : Port)  -- FLASH_ACTIVATE, R486
  | fwUpdate (port : Port)  -- FW_UPDATE, R485
  | procRestart (port : Port)  -- PROC_RESTART, R483
  | logLevel (port : Port)  -- LOG_LEVEL, R488
  | restartAlone (p : Fin 32)  -- RESTART_ALONE, R483
  | watchdogWrite (p : Fin 32)  -- WATCHDOG_WRITE, R484
  | watchdogExpiry (p : Fin 32)  -- WATCHDOG_EXPIRY, R484
  | logicCheckFail (u : LogicUnit) (b : BringUp)  -- LOGIC_CHECK_FAIL, R495
  | spireReset (sp : Sp)  -- SPIRE_RESET, R59
  | clusterReset (k : Fin 16)  -- CLUSTER_RESET, R496
  | sliceReset (v : Vd) (slice : Nat)  -- SLICE_RESET, R496
  | vdReset (v : Vd)  -- VD_RESET, R497
  | sampleAbandon (sp : Sp)  -- SAMPLE_ABANDON, R503
  | towerReset (t : Tower)  -- TOWER_RESET, R496
  | warmDeviceReset (b : BringUp)  -- WARM_DEVICE_RESET, R496
  | coldDeviceReset (b : BringUp)  -- COLD_DEVICE_RESET, R496
  | resetCommand (q : Qn) (b : BringUp)  -- RESET, R500
  | commandTimeout (w : TimedOut)  -- COMMAND_TIMEOUT, R502
  | monitorSnap (t : Tower) (m : Fin 64) (clr : Bool)  -- MONITOR_SNAP, R506
  | modRstAssert  -- MOD_RST_ASSERT, R527
  | modRstRelease (b : BringUp)  -- MOD_RST_RELEASE, R527
  | perstAssert (port : Port)  -- PERST_ASSERT, R527
  | perstRelease (port : Port)  -- PERST_RELEASE, R463
  | undervoltage  -- UNDERVOLTAGE, R526
  | overvoltage (mV : Nat)  -- OVERVOLTAGE, R526
  | v54Removed  -- V54_REMOVED, R526
  | overcurrent  -- OVERCURRENT, R526
  | cableSeated (c : Canal)  -- CABLE_SEATED, R520
  | v54Restored (b : BringUp)  -- V54_RESTORED, R526
  | droopRecover (t : Tower)  -- DROOP_RECOVER, R444
  | hostLinkUp (port : Port)  -- HOST_LINK_UP, R463
  | canalTrainingDone (c : Canal) (lanes : BitVec 4)  -- CANAL_TRAINING_DONE, R470
  | vfEnable (port : Port) (n : Fin 64)  -- VF_ENABLE, R311
  | flashProgrammerAccess (op : FlashOp)  -- FLASH_PROGRAMMER_ACCESS, R529
  | debugTapAccess (op : TapOp)  -- DEBUG_TAP_ACCESS, R528
deriving DecidableEq, Repr

end Sys2Proof
end

