-- ==== Sys2Proof/Config.lean ====
section
/-! DEFINITION. What the spec leaves open or takes from outside: free values (constants with no body, so that no proof can
see them) and the signature and key encapsulation functions of R7, kept uninterpreted (log 21). -/

namespace Sys2Proof

/-- The k-th free value of a run: a value the spec leaves open, fresh at each use (log 2). -/
opaque Config.free : Nat → Nat

/-- The code of the status RANGE on control, compute and copy queues: chapters 13, 16 and 17 name the status, and no table gives its
code (log 50). -/
opaque Config.rangeStatus : Nat

/-- R178: byte i of the AES-256-XTS key pair, 64 bytes, and of the MAC key, 32 bytes, that the security core draws for a key slot, by the
drawn number that the slot holds. -/
opaque Config.xtsKeyByte : Nat → Nat → Byte
opaque Config.macKeyByte : Nat → Nat → Byte

/-- R196: the parity of the device row that holds an offset of a port, as the controller's own mapping has it. -/
opaque Config.rowOdd : Nat → Nat → Bool

/-- R114, R379, R248: the format of the elements of a windowed reducing barge descriptor or canal packet: neither has a field for it.
0 FP32, 1 BF16, 2 WIDE, modulo 3 (log 58). -/
opaque Config.windowedSource : Nat

/-- R84: what the module's reciprocal, reciprocal square root, exp2 and log2 answer, by operation (0 to 3), width of the
format in bits and operand pattern. R60 makes it a function of the operand; R84 bounds it, and the operation that uses it
keeps the bound (log 20). -/
opaque Config.approx : Nat → Nat → Nat → Nat

/-- R74: the pattern of a finite element of a block with a NaN or an infinity, whose scale byte is 0xFF: by format code and rounding mode of the
output, width of the intermediate format, the block in that format, and the element's place (log 35). -/
opaque Config.mxPattern : Nat → Nat → Nat → List Nat → Nat → Nat

/-- R148: the rounding mode of the CVT stages of a user-composed entry, modulo 6, by the codes of its two store modes (log 48). -/
opaque Config.userRounding : Nat → Nat → Nat

/-- Falcon-1024 (R7): the public key, 1,793 bytes, of the key pair that a seed generates (R411). -/
opaque Config.falconKeyByte : List Byte → Nat → Byte
/-- Falcon-1024: byte i of the padded signature, 1,280 bytes, under the key of a seed over a message. -/
opaque Config.falconSigByte : List Byte → List Byte → Nat → Byte
/-- Falcon-1024: does a signature verify under a public key over a message? -/
opaque Config.falconVerify : List Byte → List Byte → List Byte → Bool

/-- The Falcon-1024 public key generated from a seed. -/
def falconKey (seed : List Byte) : List Byte := (upFrom 0 1793).map (Config.falconKeyByte seed)
/-- The Falcon-1024 signature by the key of a seed. -/
def falconSign (seed m : List Byte) : List Byte := (upFrom 0 1280).map (Config.falconSigByte seed m)

/-- ML-KEM-1024 (R7): byte i of the encapsulation key, 1,568 bytes, of the pair that a drawn number names. -/
opaque Config.kemKeyByte : Nat → Nat → Byte
/-- ML-KEM-1024: byte i of the shared secret, 32 bytes, decapsulated from a ciphertext under the pair of a drawn number.
A malformed ciphertext is rejected implicitly (R419): some secret results. -/
opaque Config.kemSecretByte : Nat → List Byte → Nat → Byte
/-- ML-KEM-1024: byte i of the ciphertext, 1,568 bytes, of an encapsulation to a key under a drawn number. -/
opaque Config.kemCipherByte : List Byte → Nat → Nat → Byte
/-- ML-KEM-1024: byte i of the secret, 32 bytes, of that encapsulation. -/
opaque Config.kemSharedByte : List Byte → Nat → Nat → Byte

/-- R414: SHAKE256-256 of the root key, held in the boot ROM. -/
opaque Config.rootDigest : List Byte
/-- R480: the development key digest held in the boot ROM. -/
opaque Config.devDigest : List Byte
/-- R411: the device-unique secret of the fuses. -/
opaque Config.dus : List Byte
/-- R411: the meter's own fused secret. -/
opaque Config.meterSecret : List Byte

/-! R352 names what the image of a virtual device holds and gives no layout for its 16-byte extent records and 64-byte object records:
how their bytes spell the fields, and how a reader takes the fields from the bytes, is open (log 92). -/

/-- R352, R416: byte i of the record of an extent: kind (0 channel, 1 set, 2 segment), channels or segment, length. -/
opaque Config.extentRecordByte : Nat → List Nat → Nat → Nat → Byte
/-- R353: the kind and the length that an extent record spells. -/
opaque Config.extentRecordKind : List Byte → Nat
opaque Config.extentRecordLen : List Byte → Nat
/-- R352: byte i of the record of an object, by its fields. -/
opaque Config.objRecordByte : List Nat → Nat → Byte
/-- R353: field k that an object record spells. -/
opaque Config.objRecordField : List Byte → Nat → Nat

/-- R432, R464: does an address of the flash's last region lie in the maker test area? The region holds the log and spare blocks as well, and no
table divides it (log 98). -/
opaque Config.makerTest : Nat → Bool

/-- R459: how a value reads over PMBus, by command code: the number of bytes, and byte i. The spec names the command codes of PMBus and no data
format (log 101). -/
opaque Config.pmbusLen : Nat → Nat
opaque Config.pmbusByte : Nat → Int → Nat → Byte

/-- R458: what an offset of the meter inspection port names: a record (0), a meter register (1) or a byte of the meter certificate (2), modulo 3;
which one; and the byte of it. The spec lays no map of that port (log 102). -/
opaque Config.inspectKind : Nat → Nat
opaque Config.inspectIndex : Nat → Nat
opaque Config.inspectByte : Nat → Nat

/-- R266: the node identifier at the far end of a canal. The cabling fixes it; no register of this module holds it (log 70). -/
opaque Config.farNode : Nat → BitVec 16

/-- R426: does the chain of another module's attestation certificate verify to the root? A report carries that certificate alone, and the certificate
of that module's identity key lies in that module (log 110). -/
opaque Config.chainVerifies : List Byte → Bool

end Sys2Proof
end

