-- ==== Sys2Proof/Machine/Mesh.lean ====
section
/-! DEFINITION. Places on the mesh (R9 to R12) and the distance of two routers (R203). -/

namespace Sys2Proof.Machine

/-- A router: tower, column, row. -/
structure Router where
  tower : Nat
  x : Nat
  y : Nat
deriving DecidableEq, Repr

/-- R11: the router of a spire. -/
def spireRouter (sp : Nat) : Router :=
  let q := sp / 16 % 8
  let p := sp % 16
  ⟨sp / 128, 4 * (q % 4) + p % 4, 4 * (q / 4) + p / 4⟩

/-- R12: the edge router of a near-tier channel. -/
def channelRouter (ch : Nat) : Router := ⟨ch / 128, 4 * (ch / 32 % 4) + ch % 32 / 8, if ch < 128 then 0 else 7⟩

/-- R12: the edge router of a far-tier controller. -/
def farRouter (f : Nat) : Router := ⟨f / 4, if f % 4 < 2 then 0 else 15, if f < 4 then 0 else 7⟩

/-- R12: the edge router of a canal. -/
def canalRouter (c : Nat) : Router := ⟨c / 12, if c % 12 < 6 then 0 else 15, c % 6 + 1⟩

/-- R12: the edge router of a host port. -/
def hostRouter (p : Nat) : Router := ⟨p, 0, if p = 0 then 7 else 0⟩

/-- R375: the router where a barge engine joins the mesh. -/
def engineRouter (e : Nat) : Router := if e < 32 then ⟨0, e / 2, 0⟩ else ⟨1, e % 32 / 2, 7⟩

def absDiff (a b : Nat) : Nat := (a - b) + (b - a)

/-- R201, R203: hops, turn and lock crossings of the path between two routers, as L = 16 + h + 2t + 12c. -/
def distance (a b : Router) : Nat :=
  let dx := absDiff a.x b.x
  if a.tower = b.tower then
    let dy := absDiff a.y b.y
    16 + dx + dy + (if dx ≠ 0 ∧ dy ≠ 0 then 2 else 0)
  else
    -- to the lock row (7 of the north tower, 0 of the south), across, and along the same column
    let up (r : Router) : Nat := if r.tower = 0 then 7 - r.y else r.y
    16 + dx + up a + up b + (if dx ≠ 0 then 2 else 0) + 12

/-- R199: are two spires mesh neighbours, joined by a direct link? -/
def neighbours (a b : Nat) : Bool :=
  let p := spireRouter a
  let q := spireRouter b
  p.tower = q.tower && absDiff p.x q.x + absDiff p.y q.y = 1

/-- R534: the cluster whose bank holds a fence. -/
def fenceBank (slot : Nat) : Nat := slot % 16

end Sys2Proof.Machine
end

