-- ==== Sys2Proof/Machine/Table.lean ====
section
/-! DEFINITION. Sparse tables and byte memories as plain data, each in one canonical form, with the operations that read
and write them. A table holds what differs from its default; a memory lists the bytes that are not zero. -/

namespace Sys2Proof.Machine

/-- A sparse table: (key, value) pairs, keys strictly rising. What it does not list is at the reader's default. -/
structure Tab (α : Type) where
  cells : List (Nat × α)
deriving DecidableEq, Repr, Inhabited

/-- The table that lists nothing. -/
def Tab.empty {α : Type} : Tab α := ⟨[]⟩

/-- The value listed for a key. -/
def lookupCell {α : Type} (k : Nat) : List (Nat × α) → Option α
  | [] => none
  | (a, v) :: r => if a = k then some v else lookupCell k r

/-- A rising list of pairs with the pair (k, v) put in its place. -/
def insertCell {α : Type} (k : Nat) (v : α) : List (Nat × α) → List (Nat × α)
  | [] => [(k, v)]
  | (a, w) :: r =>
    if k < a then (k, v) :: (a, w) :: r
    else if k = a then (k, v) :: r
    else (a, w) :: insertCell k v r

/-- A rising list of pairs without the key k. -/
def eraseCell {α : Type} (k : Nat) (l : List (Nat × α)) : List (Nat × α) := l.filter (fun c => c.1 ≠ k)

/-- What the table lists for a key. -/
def Tab.find? {α : Type} (t : Tab α) (k : Nat) : Option α := lookupCell k t.cells

/-- The value of a key, `d` where none is listed. -/
def Tab.get {α : Type} (t : Tab α) (d : α) (k : Nat) : α := (t.find? k).getD d

/-- The table with the value `v` at key `k`. -/
def Tab.set {α : Type} (t : Tab α) (k : Nat) (v : α) : Tab α := ⟨insertCell k v t.cells⟩

/-- The table with nothing listed at key `k`. -/
def Tab.erase {α : Type} (t : Tab α) (k : Nat) : Tab α := ⟨eraseCell k t.cells⟩

/-- The keys the table lists. -/
def Tab.keys {α : Type} (t : Tab α) : List Nat := t.cells.map (·.1)

/-- Keys strictly rising. -/
def risingKeys {α : Type} : List (Nat × α) → Bool
  | [] => true
  | [_] => true
  | (a, _) :: (b, w) :: r => decide (a < b) && risingKeys ((b, w) :: r)

/-- The canonical form of a table. -/
def Tab.wf {α : Type} (t : Tab α) : Bool := risingKeys t.cells

/-- A byte memory: the bytes that are not zero, addresses strictly rising. What is not listed reads as zero: the release
fill (R172, R499) and the spire's zeroing (R59) leave zeros. -/
structure Memory where
  cells : List Host.Cell
deriving DecidableEq, Repr, Inhabited

/-- The memory in which every byte reads zero. -/
def Memory.zero : Memory := ⟨[]⟩

/-- What an unlisted address reads as. -/
def Memory.unlisted : Byte := 0#8

/-- The byte at an address. -/
def Memory.read (m : Memory) (a : Nat) : Byte := (lookupCell a m.cells).getD Memory.unlisted

/-- The memory after a write of one byte. -/
def Memory.write (m : Memory) (a : Nat) (b : Byte) : Memory :=
  if b = Memory.unlisted then ⟨eraseCell a m.cells⟩ else ⟨insertCell a b m.cells⟩

/-- `n` bytes from an address upward. -/
def Memory.readN (m : Memory) (a n : Nat) : List Byte := (upFrom a n).map m.read

/-- The memory after a write of bytes from an address upward. -/
def Memory.writeN (m : Memory) (a : Nat) : List Byte → Memory
  | [] => m
  | b :: bs => (m.write a b).writeN (a + 1) bs

/-- The memory with the addresses lo, …, hi − 1 zeroed. -/
def Memory.clear (m : Memory) (lo hi : Nat) : Memory := ⟨m.cells.filter (fun c => ¬ (lo ≤ c.1 ∧ c.1 < hi))⟩

/-- The memory with the `len` addresses from `base` upward taken from those of another memory from `off` upward. -/
def Memory.splice (m : Memory) (base len : Nat) (src : Memory) (off : Nat) : Memory :=
  ⟨m.cells.filter (fun c => c.1 < base)
    ++ (src.cells.filter (fun c => off ≤ c.1 ∧ c.1 < off + len)).map (fun c => (c.1 - off + base, c.2))
    ++ m.cells.filter (fun c => base + len ≤ c.1)⟩

/-- The table with the `len` keys from `base` upward taken from those of another table from `off` upward. -/
def Tab.splice {α : Type} (t : Tab α) (base len : Nat) (src : Tab α) (off : Nat) : Tab α :=
  ⟨t.cells.filter (fun c => c.1 < base)
    ++ (src.cells.filter (fun c => off ≤ c.1 ∧ c.1 < off + len)).map (fun c => (c.1 - off + base, c.2))
    ++ t.cells.filter (fun c => base + len ≤ c.1)⟩

/-- The little-endian number of `n` bytes from an address (R3). -/
def Memory.readLE (m : Memory) (a n : Nat) : Nat := natLE (m.readN a n)

/-- The memory after a write of the `n` low bytes of a number (R3). -/
def Memory.writeLE (m : Memory) (a n v : Nat) : Memory := m.writeN a (bytesLE n v)

/-- The canonical form: addresses strictly rising, no listed byte equal to what an unlisted address reads as. -/
def Memory.wf (m : Memory) : Bool := risingKeys m.cells && m.cells.all (fun c => c.2 ≠ Memory.unlisted)

end Sys2Proof.Machine
end

