-- ==== Sys2Proof/Machine/BargeState.lean ====
section
/-! DEFINITION. The state of barge channels (chapter 15): the BRUN a channel runs, its descriptors in flight, its records. -/

namespace Sys2Proof.Machine

/-- A descriptor in flight, or ended and not yet recorded (R381, R384). -/
structure BDesc where
  idx : Nat
  raw : W512
  /-- writes and remote reads not yet answered, as (id, offset from SRC) -/
  waiting : List (Nat × Nat)
  /-- bytes that remote reads have brought: offset, bytes -/
  got : List (Nat × List Byte)
  status : Nat
  cause : Nat
  bytes : Nat
  value : W64
  /-- have its writes been made? -/
  sent : Bool
deriving DecidableEq, Repr

/-- A write group of a channel (R229, R383): its descriptors that have begun and not yet made their writes, its writes not yet acknowledged, whether
one of them failed, and the descriptor whose final-held writes end it. -/
structure BGroup where
  grp : Nat
  due : List Nat
  ids : List Nat
  bad : Bool
  last : Option Nat
deriving DecidableEq, Repr

/-- A barge channel's BRUN (R376). -/
structure BargeRun where
  queue : Nat
  cseq : W64
  ctx : Nat
  vd : Nat
  dlist : W64
  raddr : W64
  n : Nat
  stopBad : Bool
  /-- next descriptor to start, and records written -/
  next : Nat
  recorded : Nat
  flight : List BDesc
  bad : Nat
  /-- record STATUS of the lowest-indexed bad descriptor -/
  firstBad : Nat
  /-- the write groups whose final-held writes have not been made, in order -/
  groups : List BGroup
  /-- stopping (R387), and whether its BRUN has already retired -/
  stopping : Bool
  /-- ending with BUS once the writes it has made have ended (R386, R235) -/
  dying : Bool
  /-- the next descriptor, fetched, that waits for translations or a memory port -/
  ahead : Option W512
deriving DecidableEq, Repr

end Sys2Proof.Machine
end

