-- ==== Sys2Proof/Machine/Float.lean ====
section
/-! DEFINITION. Number formats and exact arithmetic (03_arithmetic.md): element formats, special values, rounding,
conversions, the WIDE format, the stochastic generator, and the functions of R84. Every finite value is an exact
m × 2^e until one rounding narrows it. -/

namespace Sys2Proof.Machine

/-- The arithmetic flags in the bit order of ASTATUS (R55): NV DZ OF UF NX IXA WOV WUN SAT. -/
abbrev Flags := BitVec 9

def Flags.none : Flags := 0#9
def Flags.nv : Flags := 0x001#9
def Flags.dz : Flags := 0x002#9
def Flags.ovf : Flags := 0x004#9
def Flags.unf : Flags := 0x008#9
def Flags.nx : Flags := 0x010#9
def Flags.ixa : Flags := 0x020#9
def Flags.wov : Flags := 0x040#9
def Flags.wun : Flags := 0x080#9
def Flags.sat : Flags := 0x100#9

/-- A flag set when a condition holds. -/
def Flags.cond (b : Bool) (f : Flags) : Flags := if b then f else Flags.none

/-- The rounding modes of R68. -/
inductive RM where
  | rne | rtz | rdn | rup | rna | sr
deriving DecidableEq, Repr

/-- R68: the mode a 3-bit field names; 6 and 7 are reserved. -/
def RM.ofCode : Nat → Option RM
  | 0 => some .rne | 1 => some .rtz | 2 => some .rdn | 3 => some .rup | 4 => some .rna | 5 => some .sr
  | _ => none

/-- R68: the code of a mode. -/
def RM.code : RM → Nat
  | .rne => 0 | .rtz => 1 | .rdn => 2 | .rup => 3 | .rna => 4 | .sr => 5

/-- The element formats of R30. -/
inductive Fmt where
  | fp32 | fp64 | fp16 | bf16 | e4m3 | e5m2 | e3m2 | e2m3 | e2m1 | int8 | wide | int32
deriving DecidableEq, Repr

/-- R30: the format a 4-bit code names; 0xC to 0xF are reserved. -/
def Fmt.ofCode : Nat → Option Fmt
  | 0x0 => some .fp32 | 0x1 => some .fp64 | 0x2 => some .fp16 | 0x3 => some .bf16 | 0x4 => some .e4m3
  | 0x5 => some .e5m2 | 0x6 => some .e3m2 | 0x7 => some .e2m3 | 0x8 => some .e2m1 | 0x9 => some .int8
  | 0xA => some .wide | 0xB => some .int32 | _ => none

/-- R30: the code of a format. -/
def Fmt.code : Fmt → Nat
  | .fp32 => 0x0 | .fp64 => 0x1 | .fp16 => 0x2 | .bf16 => 0x3 | .e4m3 => 0x4 | .e5m2 => 0x5 | .e3m2 => 0x6 | .e2m3 => 0x7
  | .e2m1 => 0x8 | .int8 => 0x9 | .wide => 0xA | .int32 => 0xB

/-- Bits of one element (R30, R62). -/
def Fmt.bits : Fmt → Nat
  | .fp32 => 32 | .fp64 => 64 | .fp16 => 16 | .bf16 => 16 | .e4m3 => 8 | .e5m2 => 8 | .e3m2 => 6 | .e2m3 => 6
  | .e2m1 => 4 | .int8 => 8 | .wide => 128 | .int32 => 32

/-- Is it FP6, four elements to three bytes? -/
def Fmt.isFp6 : Fmt → Bool
  | .e3m2 => true | .e2m3 => true | _ => false

/-- Is it FP4, two elements to a byte? -/
def Fmt.isFp4 : Fmt → Bool
  | .e2m1 => true | _ => false

/-- Bytes of one element, 1 for the packed FP6 and FP4 (the alignment unit of R31). -/
def Fmt.size (f : Fmt) : Nat := if f.isFp6 || f.isFp4 then 1 else f.bits / 8

/-- Bytes of `n` consecutive elements of a row. -/
def Fmt.rowBytes (f : Fmt) (n : Nat) : Nat := ceilDiv (n * f.bits) 8

/-- The block-scalable formats, codes 0x4 to 0x9 (R31, R63). -/
def Fmt.mxOk : Fmt → Bool
  | .e4m3 => true | .e5m2 => true | .e3m2 => true | .e2m3 => true | .e2m1 => true | .int8 => true | _ => false

/-- A floating-point layout (R61): exponent and mantissa bits, bias, the largest finite pattern below the sign, and
whether it has infinities and NaNs as IEEE 754 lays them out. -/
structure FLayout where
  eb : Nat
  mb : Nat
  bias : Int
  maxPat : Nat
  ieee : Bool
  nan : Option Nat
deriving DecidableEq, Repr

/-- R61, R66: the layouts of the floating-point formats, with the canonical NaN. -/
def Fmt.layout : Fmt → Option FLayout
  | .fp32 => some ⟨8, 23, 127, 0x7F7FFFFF, true, some 0x7FC00000⟩
  | .fp64 => some ⟨11, 52, 1023, 0x7FEFFFFFFFFFFFFF, true, some 0x7FF8000000000000⟩
  | .fp16 => some ⟨5, 10, 15, 0x7BFF, true, some 0x7E00⟩
  | .bf16 => some ⟨8, 7, 127, 0x7F7F, true, some 0x7FC0⟩
  | .e4m3 => some ⟨4, 3, 7, 0x7E, false, some 0x7F⟩
  | .e5m2 => some ⟨5, 2, 15, 0x7B, true, some 0x7E⟩
  | .e3m2 => some ⟨3, 2, 3, 0x1F, false, none⟩
  | .e2m3 => some ⟨2, 3, 1, 0x1F, false, none⟩
  | .e2m1 => some ⟨2, 1, 1, 0x7, false, none⟩
  | .int8 => none
  | .wide => none
  | .int32 => none

/-- An exact value: a NaN (signalling or not), an infinity, or (−1)^neg × m × 2^e, with signed zeros. -/
inductive Val where
  | nan (signalling : Bool)
  | inf (neg : Bool)
  | fin (neg : Bool) (m : Nat) (e : Int)
deriving DecidableEq, Repr

/-- The value of an integer. -/
def Val.ofInt (x : Int) : Val := .fin (decide (x < 0)) x.natAbs 0

/-- Positive zero. -/
def Val.zero : Val := .fin false 0 0

/-- m × 2^k for an integer exponent that may be negative, rounded toward zero. -/
def shiftNat (m : Nat) (k : Int) : Nat := if 0 ≤ k then m <<< k.toNat else m >>> (-k).toNat

/-- Two's complement of width w. -/
def toSigned (w x : Nat) : Int := if x.testBit (w - 1) then (x : Int) - (2 ^ w : Nat) else x

/-- The w-bit pattern of an integer. -/
def ofSigned (w : Nat) (x : Int) : Nat := (x % (2 ^ w : Nat)).toNat

/-- R75: the invalid mark and the overflow marks of WIDE, and the largest finite magnitude. -/
def wideInvalid : Nat := 0x80000000000000000000000000000000
def wideNegOvf : Nat := 0x80000000000000000000000000000001
def widePosOvf : Nat := 0x7FFFFFFFFFFFFFFFFFFFFFFFFFFFFFFF
def wideMax : Nat := 2 ^ 127 - 2

/-- R75, R81: the value of a WIDE pattern under frame exponent E; the marks stand for a NaN and for infinities. -/
def wideVal (frame : Int) (w : Nat) : Val :=
  if w = wideInvalid then .nan false
  else if w = wideNegOvf then .inf true
  else if w = widePosOvf then .inf false
  else let x := toSigned 128 w; .fin (decide (x < 0)) x.natAbs (frame - 88)

/-- R61: the value of an element pattern. WIDE patterns are read under `frame`. A NaN of FP64, FP32, FP16 or BF16 whose
top mantissa bit is 0 signals (R65). -/
def unpack (f : Fmt) (frame : Int) (x : Nat) : Val :=
  match f.layout with
  | some L =>
    let s := x.testBit (L.eb + L.mb)
    let ex := bitsOf x (L.eb + L.mb - 1) L.mb
    let m := x % 2 ^ L.mb
    if L.ieee && ex = 2 ^ L.eb - 1 then
      if m = 0 then .inf s else .nan (f.bits ≥ 16 && ! m.testBit (L.mb - 1))
    else if f = .e4m3 && x % 128 = 0x7F then .nan false
    else if ex = 0 then .fin s m (1 - L.bias - L.mb)
    else .fin s (2 ^ L.mb + m) (ex - L.bias - L.mb)
  | none =>
    match f with
    | .int8 => Val.ofInt (toSigned 8 (x % 256))
    | .int32 => Val.ofInt (toSigned 32 (x % 2 ^ 32))
    | _ => wideVal frame x

/-- Whether the magnitude is rounded up, for the remainder `rem` of a division by 2^sh (R68, R70): `odd` is the kept
part's low bit, `r` the 32-bit value of the generator. -/
def roundUp (rm : RM) (neg odd : Bool) (rem sh r : Nat) : Bool :=
  if rem = 0 then false
  else match rm with
    | .rne => 2 ^ sh < 2 * rem || (2 * rem = 2 ^ sh && odd)
    | .rtz => false
    | .rdn => neg
    | .rup => ! neg
    | .rna => 2 ^ sh ≤ 2 * rem
    | .sr => 2 ^ 32 ≤ (rem <<< 32) >>> sh + r

/-- m × 2^e rounded to a multiple of 2^q: the multiple, and whether it is inexact. -/
def roundAt (rm : RM) (neg : Bool) (m : Nat) (e q : Int) (r : Nat) : Nat × Bool :=
  if q ≤ e then (m <<< (e - q).toNat, false)
  else
    let sh := (q - e).toNat
    let k := m >>> sh
    let rem := m % 2 ^ sh
    (if roundUp rm neg (k % 2 = 1) rem sh r then k + 1 else k, decide (rem ≠ 0))

/-- The exponent of the leading bit of m × 2^e. -/
def topExp (m : Nat) (e : Int) : Int := (Nat.log2 m : Int) + e

/-- What R73 gives for a finite value beyond the largest finite: infinity or the largest, by mode and sign. -/
def overflowToInf (rm : RM) (neg : Bool) : Bool :=
  match rm with
  | .rne => true | .rna => true | .sr => true | .rtz => false | .rdn => neg | .rup => ! neg

/-- R73: a finite nonzero value rounded to a floating-point layout. -/
def roundFinite (f : Fmt) (L : FLayout) (rm : RM) (r : Nat) (neg : Bool) (m : Nat) (e : Int) : Nat × Flags :=
  let sbit := if neg then 2 ^ (L.eb + L.mb) else 0
  let emin := 1 - L.bias
  let q := max (topExp m e) emin - L.mb
  let (k, inexact) := roundAt rm neg m e q r
  -- the biased pattern: a carry out of the mantissa moves into the exponent field
  let pat := if k < 2 ^ L.mb then k else ((q + L.mb + L.bias - 1).toNat <<< L.mb) + k
  if L.maxPat < pat then
    if L.ieee && f ≠ .e5m2 then
      (sbit + (if overflowToInf rm neg then (2 ^ L.eb - 1) <<< L.mb else L.maxPat), Flags.ovf ||| Flags.nx)
    else (sbit + L.maxPat, Flags.sat ||| Flags.nx)
  else
    -- tininess after rounding, as if the exponent range were unbounded (R67)
    let (ku, _) := roundAt rm neg m e (topExp m e - L.mb) r
    let tiny := decide (topExp ku (topExp m e - L.mb) < emin)
    (sbit + pat, Flags.cond inexact Flags.nx ||| Flags.cond (inexact && tiny) Flags.unf)

/-- R73: a finite value rounded to a two's complement integer between lo and hi, saturating. -/
def roundInt (rm : RM) (r : Nat) (neg : Bool) (m : Nat) (e : Int) (lo hi : Int) : Int × Flags :=
  let (k, inexact) := roundAt rm neg m e 0 r
  let x : Int := if neg then -(k : Int) else k
  if x < lo then (lo, Flags.sat ||| Flags.nx)
  else if hi < x then (hi, Flags.sat ||| Flags.nx)
  else (x, Flags.cond inexact Flags.nx)

/-- What a conversion into WIDE finds (R75, R76): the pattern, whether nonzero bits were discarded, whether the value was
out of range, whether it was a NaN or an infinity. -/
structure WideConv where
  pat : Nat
  lost : Bool
  ovr : Bool
  invalid : Bool
deriving DecidableEq, Repr

/-- R75, R87: a value truncated toward zero to a multiple of 2^(E − 88); out of range gives the overflow mark of its sign,
a NaN or an infinity the invalid mark. -/
def toWide (frame : Int) : Val → WideConv
  | .nan _ => ⟨wideInvalid, false, false, true⟩
  | .inf _ => ⟨wideInvalid, false, false, true⟩
  | .fin neg m e =>
    let q := frame - 88
    let k := shiftNat m (e - q)
    let lost := decide (e < q ∧ m % 2 ^ (q - e).toNat ≠ 0)
    if wideMax < k then ⟨if neg then wideNegOvf else widePosOvf, false, true, false⟩
    else ⟨ofSigned 128 (if neg then -(k : Int) else k), lost, false, false⟩

/-- R76: the sum of two WIDE terms, with its sticky marks, and whether this sum itself passed into an overflow mark. -/
def wideAdd (a b : Nat) : Nat × Bool :=
  if a = wideInvalid || b = wideInvalid then (wideInvalid, false)
  else
    let ao := a = wideNegOvf || a = widePosOvf
    let bo := b = wideNegOvf || b = widePosOvf
    if ao && bo then (if a = b then a else wideInvalid, false)
    else if ao then (a, false)
    else if bo then (b, false)
    else
      let x := toSigned 128 a + toSigned 128 b
      if (wideMax : Int) < x then (widePosOvf, true)
      else if x < -(wideMax : Int) then (wideNegOvf, true)
      else (ofSigned 128 x, false)

/-- R73, R75, R81: a value converted to a format, with its flags. A WIDE target takes the overflow mark for an infinity
(the row of R73). `r` is the generator's value for SR. -/
def convert (f : Fmt) (frame : Int) (rm : RM) (r : Nat) (v : Val) : Nat × Flags :=
  match f.layout with
  | some L =>
    let sbit (neg : Bool) := if neg then 2 ^ (L.eb + L.mb) else 0
    match v with
    | .nan s => match L.nan with
      | some c => (c, Flags.cond s Flags.nv)
      | none => (0, Flags.nv)
    | .inf neg =>
      if L.ieee then (sbit neg + ((2 ^ L.eb - 1) <<< L.mb), Flags.none)
      else (sbit neg + L.maxPat, Flags.sat)
    | .fin neg 0 _ => (sbit neg, Flags.none)
    | .fin neg m e => roundFinite f L rm r neg m e
  | none =>
    match f with
    | .wide =>
      match v with
      | .nan s => (wideInvalid, Flags.nv ||| Flags.cond s Flags.nv)
      | .inf neg => (if neg then wideNegOvf else widePosOvf, Flags.none)
      | .fin _ _ _ =>
        let c := toWide frame v
        (c.pat, Flags.cond c.lost Flags.wun ||| Flags.cond c.ovr Flags.wov)
    | _ =>
      let w := f.bits
      let lo : Int := -(2 ^ (w - 1) : Nat)
      let hi : Int := (2 ^ (w - 1) : Nat) - 1
      match v with
      | .nan _ => (0, Flags.nv)
      | .inf neg => (ofSigned w (if neg then lo else hi), Flags.sat)
      | .fin neg m e => let (x, fl) := roundInt rm r neg m e lo hi; (ofSigned w x, fl)

/-! ## Exact operations -/

/-- Is the value a signalling NaN? -/
def Val.snan : Val → Bool
  | .nan s => s | _ => false

/-- Is the value a NaN? -/
def Val.isNan : Val → Bool
  | .nan _ => true | _ => false

/-- The sign of a value. -/
def Val.neg? : Val → Bool
  | .nan _ => false | .inf n => n | .fin n _ _ => n

/-- A signed magnitude as an integer at exponent e (which is at most the value's own). -/
def scaled (neg : Bool) (m : Nat) (e e0 : Int) : Int :=
  let k : Int := (m <<< (e - e0).toNat : Nat)
  if neg then -k else k

/-- The NaN an operation produces, with NV when an input signals (R65). -/
def nanOf (l : List Val) : Val × Flags := (.nan false, Flags.cond (l.any Val.snan) Flags.nv)

/-- The exact sum of two values. An exact zero is +0, or −0 under RDN, unless both terms are zeros of one sign. -/
def vadd (rm : RM) (a b : Val) : Val × Flags :=
  match a, b with
  | .nan _, _ => nanOf [a, b]
  | _, .nan _ => nanOf [a, b]
  | .inf x, .inf y => if x = y then (.inf x, Flags.none) else (.nan false, Flags.nv)
  | .inf x, _ => (.inf x, Flags.none)
  | _, .inf y => (.inf y, Flags.none)
  | .fin x m e, .fin y n g =>
    let e0 := min e g
    let s := scaled x m e e0 + scaled y n g e0
    if s = 0 then (.fin (if m = 0 && n = 0 && x = y then x else decide (rm = .rdn)) 0 0, Flags.none)
    else (.fin (decide (s < 0)) s.natAbs e0, Flags.none)

/-- The opposite value. -/
def vneg : Val → Val
  | .nan s => .nan s | .inf n => .inf (! n) | .fin n m e => .fin (! n) m e

/-- The magnitude. -/
def vabs : Val → Val
  | .nan s => .nan s | .inf _ => .inf false | .fin _ m e => .fin false m e

/-- The exact product of two values. -/
def vmul (a b : Val) : Val × Flags :=
  match a, b with
  | .nan _, _ => nanOf [a, b]
  | _, .nan _ => nanOf [a, b]
  | .inf x, .inf y => (.inf (x != y), Flags.none)
  | .inf x, .fin y n _ => if n = 0 then (.nan false, Flags.nv) else (.inf (x != y), Flags.none)
  | .fin x m _, .inf y => if m = 0 then (.nan false, Flags.nv) else (.inf (x != y), Flags.none)
  | .fin x m e, .fin y n g => (.fin (x != y) (m * n) (e + g), Flags.none)

/-- The exact a × b + c. -/
def vfma (rm : RM) (a b c : Val) : Val × Flags :=
  if a.isNan || b.isNan || c.isNan then nanOf [a, b, c]
  else
    let (p, f) := vmul a b
    if p.isNan then (p, f) else vadd rm p c

/-- Compare two numbers: −1, 0 or 1; none when either is a NaN. Zeros compare equal. -/
def vcmp (a b : Val) : Option Int :=
  match a, b with
  | .nan _, _ => none
  | _, .nan _ => none
  | .inf x, .inf y => some (if x = y then 0 else if x then -1 else 1)
  | .inf x, _ => some (if x then -1 else 1)
  | _, .inf y => some (if y then 1 else -1)
  | .fin x m e, .fin y n g =>
    let e0 := min e g
    let d := scaled x m e e0 - scaled y n g e0
    some (if d < 0 then -1 else if d = 0 then 0 else 1)

/-- R65: does a order below b for minimumNumber (−0 below +0)? -/
def vless (a b : Val) : Bool :=
  match vcmp a b with
  | some c => c < 0 || (c = 0 && a.neg? && ! b.neg?)
  | none => false

/-- R65: minimumNumber. A NaN is ignored when the other operand is a number. -/
def vmin (a b : Val) : Val × Flags :=
  if a.isNan && b.isNan then nanOf [a, b]
  else if a.isNan then (b, (nanOf [a, b]).2)
  else if b.isNan then (a, (nanOf [a, b]).2)
  else (if vless b a then b else a, Flags.none)

/-- R65: maximumNumber. -/
def vmax (a b : Val) : Val × Flags :=
  if a.isNan && b.isNan then nanOf [a, b]
  else if a.isNan then (b, (nanOf [a, b]).2)
  else if b.isNan then (a, (nanOf [a, b]).2)
  else (if vless a b then b else a, Flags.none)

/-- The integer square root, bit by bit from bit k downward. -/
def isqrtFrom (n : Nat) : Nat → Nat → Nat
  | 0, acc => acc
  | k + 1, acc =>
    let t := acc + 2 ^ k
    isqrtFrom n k (if t * t ≤ n then t else acc)

/-- The integer square root. -/
def isqrt (n : Nat) : Nat := isqrtFrom n (Nat.log2 n / 2 + 1) 0

/-- R147: the square root, carried to 64 bits with a sticky bit below, so that its one rounding is correct. -/
def vsqrt (v : Val) : Val × Flags :=
  match v with
  | .nan _ => nanOf [v]
  | .inf false => (.inf false, Flags.none)
  | .inf true => (.nan false, Flags.nv)
  | .fin n 0 _ => (.fin n 0 0, Flags.none)
  | .fin true _ _ => (.nan false, Flags.nv)
  | .fin false m e =>
    -- m × 2^e = (m × 2^j) × 2^(e − j) with e − j even and m × 2^j of at least 128 bits
    let j := 128 + (e % 2).toNat
    let s := isqrt (m <<< j)
    let exact := s * s = m <<< j
    (.fin false (2 * s + if exact then 0 else 1) ((e - j) / 2 - 1), Flags.none)

/-! ## The functions of R84

The spec bounds these results and does not fix them: the value is `Config.approx` where that lies within the bound, and
otherwise the candidate that a direct computation gives. -/

/-- One unit in the last place of a layout at a value with top exponent t. -/
def ulpExp (L : FLayout) (t : Int) : Int := max t (1 - L.bias) - L.mb

/-- |a/b − x| ≤ n × 2^u for a finite pattern value x = ±m × 2^e and the positive ratio num × 2^ne ÷ den. -/
def withinUlp (num den : Nat) (ne : Int) (m : Nat) (e : Int) (n : Nat) (u : Int) : Bool :=
  -- compare |num × 2^ne − m × den × 2^e| with n × den × 2^u at a common exponent
  let e0 := min (min ne e) u
  let a : Int := (num <<< (ne - e0).toNat : Nat)
  let b : Int := ((m * den) <<< (e - e0).toNat : Nat)
  decide ((a - b).natAbs ≤ (n * den) <<< (u - e0).toNat)

/-- Is a pattern zero or subnormal? -/
def FLayout.small (L : FLayout) (pat : Nat) : Bool := decide (pat % 2 ^ (L.eb + L.mb) < 2 ^ L.mb)

/-- R67: the flags of an answer `y`, where the exact result rounds to `exact` with its flags: those where the two agree; else NX, with UF where
the exact result is tiny. -/
def approxFlags (L : FLayout) (y : Nat) (exact : Nat × Flags) (tiny : Bool) : Flags :=
  if y = exact.1 then exact.2 else Flags.nx ||| (exact.2 &&& Flags.unf) ||| Flags.cond (tiny && L.small exact.1) Flags.unf

/-- |r × 2^re − y| ≤ 2^b for a pattern value y = ±k × 2^g. -/
def withinAbs (r re : Int) (yn : Bool) (k : Nat) (g b : Int) : Bool :=
  let e0 := min (min re g) b
  decide ((scaled (decide (r < 0)) r.natAbs re e0 - scaled yn k g e0).natAbs ≤ 2 ^ (b - e0).toNat)

/-- A quotient num ÷ den × 2^ne to 128 bits with a sticky bit: a value whose one rounding is correct. -/
def quotVal (neg : Bool) (num den : Nat) (ne : Int) : Val :=
  let k := 128 + Nat.log2 den
  let q := (num <<< k) / den
  .fin neg (2 * q + if (num <<< k) % den = 0 then 0 else 1) (ne - k - 1)

/-- The exponent of the leading bit of the quotient num × 2^ne ÷ den. -/
def quotTop (num den : Nat) (ne : Int) : Int :=
  let t : Int := (Nat.log2 num : Int) - Nat.log2 den + ne
  if den <<< Nat.log2 num ≤ num <<< Nat.log2 den then t else t - 1

/-- Reciprocal (R84): within 1 ulp; exact powers of two may be answered exactly or one ulp off, as the bound allows. -/
def vrcp (f : Fmt) (L : FLayout) (x : Nat) : Nat × Flags :=
  let v := unpack f 0 x
  let sbit := if v.neg? then 2 ^ (L.eb + L.mb) else 0
  match v with
  | .nan s => (L.nan.getD 0, Flags.cond s Flags.nv)
  | .inf _ => (sbit, Flags.none)
  | .fin _ 0 _ => (sbit + ((2 ^ L.eb - 1) <<< L.mb), Flags.dz)
  | .fin neg m e =>
    let exact := convert f 0 .rne 0 (quotVal neg 1 m (-e))
    let y := Config.approx 0 f.bits x % 2 ^ f.bits
    match unpack f 0 y with
    | .fin yn n g =>
      let u := ulpExp L (quotTop 1 m (-e))
      if yn = neg && withinUlp 1 m (-e) n g 1 u then
        (y, approxFlags L y exact true)
      else exact
    | _ => exact

/-- Reciprocal square root (R84): within 1 ulp, tested on squares. -/
def vrsq (f : Fmt) (L : FLayout) (x : Nat) : Nat × Flags :=
  let v := unpack f 0 x
  let infPat := (2 ^ L.eb - 1) <<< L.mb
  match v with
  | .nan s => (L.nan.getD 0, Flags.cond s Flags.nv)
  | .inf true => (L.nan.getD 0, Flags.nv)
  | .inf false => (0, Flags.none)
  | .fin neg 0 _ => ((if neg then 2 ^ (L.eb + L.mb) else 0) + infPat, Flags.dz)
  | .fin true _ _ => (L.nan.getD 0, Flags.nv)
  | .fin false m e =>
    -- 1 ÷ √x = √(x) ÷ x; the root is carried to 64 bits beyond the point of any format
    let rt := vsqrt (.fin false m e)
    match rt.1 with
    | .fin _ s g =>
      let exact := convert f 0 .rne 0 (quotVal false s m (g - e))
      let y := Config.approx 1 f.bits x % 2 ^ f.bits
      match unpack f 0 y with
      | .fin false n h =>
        if withinUlp s m (g - e) n h 1 (ulpExp L (quotTop s m (g - e))) then (y, approxFlags L y exact false)
        else exact
      | _ => exact
    | _ => (0, Flags.none)

/-- ln 2 × 2^128, rounded down. -/
def ln2Fix : Nat := 0xB17217F7D1CF79ABC9E3B39803F2F6AF

/-- The Taylor series of e^y − 1 for y in units of 2^−128: `n` further terms from term k with value t. -/
def expTerms (y : Nat) : Nat → Nat → Nat → Nat
  | 0, _, _ => 0
  | n + 1, k, t =>
    let t' := (t * y) >>> 128
    let t'' := t' / k
    t'' + expTerms y n (k + 1) t''

/-- 2^f × 2^128 for f in units of 2^−128, 0 ≤ f < 2^128, to about 120 bits. -/
def exp2Frac (fr : Nat) : Nat := 2 ^ 128 + expTerms ((fr * ln2Fix) >>> 128) 40 1 (2 ^ 128)

/-- The bits of m × 2^e below 2^0 that the shift to a whole number drops: is one of them set? -/
def dropsBits (m : Nat) (e : Int) : Bool := decide (shiftNat m e * 2 ^ (-e).toNat ≠ m * 2 ^ e.toNat)

/-- exp2 (R84): within 2 ulp where the answer is normal; an answer that is subnormal or zero, to an operand whose exact result lies below the
normal range, the spec does not bound, and it is free (log 20). -/
def vexp2 (f : Fmt) (L : FLayout) (x : Nat) : Nat × Flags :=
  let y := Config.approx 2 f.bits x % 2 ^ f.bits
  match unpack f 0 x with
  | .nan s => (L.nan.getD 0, Flags.cond s Flags.nv)
  | .inf true => (0, Flags.none)
  | .inf false => ((2 ^ L.eb - 1) <<< L.mb, Flags.none)
  | .fin neg m e =>
    if m ≠ 0 ∧ 16 ≤ topExp m e then
      -- |x| ≥ 2^16: the exact result lies beyond every format here
      let exact := convert f 0 .rne 0 (.fin false 3 (if neg then -0x20000 else 0x20000))
      if neg && L.small y && decide (y < 2 ^ (L.eb + L.mb)) then (y, approxFlags L y exact true) else exact
    else
      -- x in units of 2^−128, then its floor and fraction; `lost` where x has bits below
      let lost := dropsBits m (e + 128)
      let xi : Int := let k : Int := shiftNat m (e + 128); if neg then -k - (if lost then 1 else 0) else k
      let n := xi / (2 ^ 128 : Nat)
      let fr := (xi % (2 ^ 128 : Nat)).toNat
      let num := exp2Frac fr
      let whole : Bool := fr = 0 && ! lost
      let exact := convert f 0 .rne 0 (.fin false (if whole then 2 ^ 128 else 2 * num + 1) (if whole then n - 128 else n - 129))
      let below := decide (n < 1 - L.bias)
      match unpack f 0 y with
      | .fin false k g =>
        if (below && L.small y) || withinUlp num 1 (n - 128) k g 2 (ulpExp L n) then (y, approxFlags L y exact below) else exact
      | _ => exact

/-- The series of 2 × artanh(z) for z in units of 2^−128: z + z³/3 + z⁵/5 + …, `n` terms from odd k with power t. -/
def artanhTerms (z2 : Nat) : Nat → Nat → Nat → Nat
  | 0, _, _ => 0
  | n + 1, k, t => t / k + artanhTerms z2 n (k + 2) ((t * z2) >>> 128)

/-- log2(c) × 2^120 for c = m ÷ 2^(bits of m − 1) in [1, 2). -/
def log2Frac (m : Nat) : Nat :=
  let t := Nat.log2 m
  -- z = (c − 1) ÷ (c + 1)
  let z := ((m - 2 ^ t) <<< 128) / (m + 2 ^ t)
  let ln := 2 * artanhTerms ((z * z) >>> 128) 60 1 z
  (ln <<< 120) / ln2Fix

/-- log2 (R84): within 2 ulp, or, for inputs in [0.5, 2], within an absolute error of 2^−22 (FP32) or 2^−51 (FP64). -/
def vlog2 (f : Fmt) (L : FLayout) (x : Nat) : Nat × Flags :=
  let y := Config.approx 3 f.bits x % 2 ^ f.bits
  match unpack f 0 x with
  | .nan s => (L.nan.getD 0, Flags.cond s Flags.nv)
  | .inf true => (L.nan.getD 0, Flags.nv)
  | .inf false => ((2 ^ L.eb - 1) <<< L.mb, Flags.none)
  | .fin _ 0 _ => (2 ^ (L.eb + L.mb) + ((2 ^ L.eb - 1) <<< L.mb), Flags.dz)
  | .fin true _ _ => (L.nan.getD 0, Flags.nv)
  | .fin false m e =>
    let t := topExp m e
    let r : Int := t * (2 ^ 120 : Nat) + log2Frac m
    let pow2 := m = 2 ^ Nat.log2 m
    let exact := convert f 0 .rne 0
      (if pow2 then Val.ofInt t else .fin (decide (r < 0)) (2 * r.natAbs + 1) (-121))
    let near := decide (t = -1 ∨ t = 0 ∨ (t = 1 ∧ pow2))
    let absErr : Int := if f.bits = 64 then -51 else -22
    match unpack f 0 y with
    | .fin yn k g =>
      let same := yn = decide (r < 0) || k = 0
      let u := ulpExp L (topExp r.natAbs (-120))
      if (same && withinUlp r.natAbs 1 (-120) k g 2 u) || (near && withinAbs r (-120) yn k g absErr) then (y, approxFlags L y exact false)
      else exact
    | _ => exact

/-! ## The stochastic generator (R71) -/

/-- One of the four turns of R71 on (x, k). -/
def mixTurn (xk : W64 × W64) : W64 × W64 :=
  let x := xk.1 + xk.2
  let x := x ^^^ (x >>> 31)
  let x := x * 0x9E6C63D0676A9A99#64
  let x := x ^^^ (x >>> 29)
  (x, (xk.2 <<< 17) ||| (xk.2 >>> 47))

/-- R71: mix(seed, ident, idx), a 32-bit value. -/
def mix (seed : W64) (ident idx : Nat) : Nat :=
  let x0 : W64 := BitVec.ofNat 64 (idx % 2 ^ 48) ^^^ BitVec.ofNat 64 (ident <<< 48)
  ((mixTurn (mixTurn (mixTurn (mixTurn (x0, seed))))).1 >>> 32).toNat

/-! ## Checks (R155) -/

/-- One bit step of CRC-32C, reflected Castagnoli. -/
def crc32cBit (c : Nat) : Nat := if c % 2 = 1 then (c >>> 1) ^^^ 0x82F63B78 else c >>> 1

/-- One byte of CRC-32C. -/
def crc32cByte (c : Nat) (b : Byte) : Nat := Nat.repeat crc32cBit 8 (c ^^^ b.toNat)

/-- R155: CRC-32C of bytes in increasing address order. -/
def crc32c (bs : List Byte) : Nat := (bs.foldl crc32cByte 0xFFFFFFFF) ^^^ 0xFFFFFFFF

/-- One bit step of CRC-64 (ECMA-182), not reflected. -/
def crc64Bit (c : Nat) : Nat :=
  if c.testBit 63 then ((c <<< 1) % 2 ^ 64) ^^^ 0x42F0E1EBA9EA3693 else (c <<< 1) % 2 ^ 64

/-- One byte of CRC-64. -/
def crc64Byte (c : Nat) (b : Byte) : Nat := Nat.repeat crc64Bit 8 (c ^^^ (b.toNat <<< 56))

/-- R155: CRC-64 of bytes in increasing address order. -/
def crc64 (bs : List Byte) : Nat := bs.foldl crc64Byte 0

end Sys2Proof.Machine
end

