-- ==== Sys2Proof/Machine/NetState.lean ====
section
/-! DEFINITION. What is in flight between the units: read, write and reducing requests, their answers and
acknowledgements, fence signals, appends of basin commands, merge entries, barrier rounds (chapters 7 and 8). -/

namespace Sys2Proof.Machine

/-- Who made a request. -/
inductive Agent where
  | spire (sp : Nat)
  | basin (c : Nat)
  | barge (b : Nat)
  /-- a packet delivered from the fabric: source node and 64-bit sequence number, or request tag -/
  | canal (node : Nat) (seq : W64)
  | host (fn : Nat)
  | pool (e : Nat)
  | evac (e : Nat)
  /-- a queue command: queue and sequence number -/
  | command (q : Nat) (seq : W64)
  | firmware
deriving DecidableEq, Repr

/-- Where a request goes. Device memory is named by the physical address after windows and relocations (R169, R305). -/
inductive Target where
  | dev (addr : Nat)
  | spad (sp : Nat) (off : Nat)
  | host (port : Nat) (bus : Nat)
deriving DecidableEq, Repr

/-- The kinds of reducing write (R114). -/
inductive Red where
  | fp32 | bf16 | windowed
deriving DecidableEq, Repr

/-- A reducing contribution: kind, frame exponent, format of the elements, their patterns, and the flag bits of each
element (R213). -/
structure RedData where
  red : Red
  frame : Int
  fmt : Fmt
  elems : List Nat
  flags : List Flags
deriving DecidableEq, Repr

/-- What a request asks. -/
inductive ReqKind where
  | read (len : Nat)
  | write (data : List Byte)
  | reduce (d : RedData)
deriving DecidableEq, Repr

/-- How far a request has come. -/
inductive Stage where
  /-- not yet left its source: a release or a final-held write, or a granule order, holds it -/
  | held
  /-- on its way -/
  | net
  /-- in the combining buffer of a router (R212) -/
  | router (sp : Nat)
  /-- held at its port by a window, a switch or a chunk being copied (R188, R303, R304), in arrival order -/
  | port (order : Nat)
deriving DecidableEq, Repr

/-- A request. -/
structure Req where
  id : Nat
  agent : Agent
  vd : Nat
  cls : Nat
  target : Target
  /-- the address as its source names it (R305, R126) -/
  named : Nat
  kind : ReqKind
  grp : Nat
  fin : Bool
  /-- requests that must be acknowledged before it leaves -/
  deps : List Nat
  /-- TQ instructions of its spire, by program order, that must complete before it leaves (R119, R231) -/
  tdeps : List Nat
  /-- is it discarded when one of them fails (R232)? -/
  strict : Bool
  stage : Stage
  /-- the requests that it combines (R214) -/
  srcs : List (Nat × Agent)
  /-- the router where it was last combined (R212) -/
  passed : Option Nat
deriving DecidableEq, Repr

/-- The outcome of an access, a packet or a signal, by the codes of R253. -/
inductive AccStatus where
  | ok | reserved | tag | range | permission | poison | code | handle | fenceOrder | busy | noroute | down | aborted | bus
deriving DecidableEq, Repr

/-- The status codes of R253. -/
def AccStatus.num : AccStatus → Nat
  | .ok => 0x00 | .reserved => 0x01 | .tag => 0x03 | .range => 0x04 | .permission => 0x05 | .poison => 0x06 | .code => 0x07
  | .handle => 0x08 | .fenceOrder => 0x09 | .busy => 0x0A | .noroute => 0x0B | .down => 0x0C | .aborted => 0x0D | .bus => 0x0E

/-- The answer of a read on its way back. -/
structure Resp where
  id : Nat
  agent : Agent
  bytes : List Byte
  status : AccStatus
deriving DecidableEq, Repr

/-- The acknowledgement of a write on its way back. -/
structure Ack where
  id : Nat
  agent : Agent
  status : AccStatus
deriving DecidableEq, Repr

/-- A fence signal on its way to its bank (R346, R534). -/
structure Signal where
  id : Nat
  agent : Agent
  vd : Nat
  /-- fence slot and generation that the handle named -/
  slot : Nat
  gen : Nat
  value : W64
  /-- does the signaller hold the fence's storage (R338), so that a free does not part it from the fence? -/
  holds : Bool
  deps : List Nat
deriving DecidableEq, Repr

/-- The bank's answer to a signalling spire (R534): 0 applied, 1 freed, 2 lower value, with the fence's status. -/
structure SigAck where
  id : Nat
  agent : Agent
  result : Nat
  status : BitVec 32
deriving DecidableEq, Repr

/-- An append of basin commands (R133). -/
structure Append where
  id : Nat
  agent : Agent
  vd : Nat
  gen : W64
  basin : Nat
  cmds : List W512
deriving DecidableEq, Repr

/-- A merge entry of a memory port (R217). -/
structure Merge where
  port : Nat
  addr : Nat
  len : Nat
  vd : Nat
  ids : List (Nat × Agent)
  bytes : List Byte
  status : AccStatus
deriving DecidableEq, Repr

/-- The number of a spire's ejection port among the ports that keep merge entries: channels and controllers come first. -/
def mergeSpire : Nat := 1024

/-- A write held for the release of a barrier entry (R208): a new EXPECT, or the entry's removal. -/
inductive HeldWrite where
  | expect (n : Nat)
  | removal
deriving DecidableEq, Repr

/-- The round of a barrier entry beside its register (R208): the spires that have arrived, and a held write. -/
structure Round where
  arrived : List Nat
  held : Option HeldWrite
deriving DecidableEq, Repr, Inhabited

/-- Everything in flight. -/
structure Net where
  reqs : List Req
  resps : List Resp
  acks : List Ack
  signals : List Signal
  sigAcks : List SigAck
  appends : List Append
  merges : List Merge
  rounds : Tab Round
  /-- BTIME of the replays of each crossing in the last ms (R221) -/
  replays : Tab (List W64)
  /-- combined packets not yet acknowledged, with the packets each stands for (R214) -/
  combined : List (Nat × List (Nat × Agent))
  /-- arrivals of BAR on their way to their entry: spire -/
  arrivals : List Nat
  /-- transfers that failed, of write groups whose final-held writes have not been made: spire, group, place in program order (R232) -/
  badGroups : List (Nat × Nat × Nat)
deriving DecidableEq, Repr

def Net.reset : Net := ⟨[], [], [], [], [], [], [], .empty, .empty, [], [], []⟩

end Sys2Proof.Machine
end

