-- ==== Sys2Proof/Machine/BasinState.lean ====
section
/-! DEFINITION. The state of basins (chapter 5): ring, running command, tables, landing queue, mooring. BSEQA to BSPARE stand
in their registers. -/

namespace Sys2Proof.Machine

/-- A command in a ring (R133, R135): acceptance number, words, virtual device and generation; the fence slots whose storage it
holds once its head checks have passed (R134, R337); BTIME when it reached the head (R502). -/
structure BCmd where
  num : W64
  raw : W512
  vd : Nat
  gen : W64
  checked : Bool
  sigf : Option Nat
  waitf : Option Nat
  since : W64
  /-- an uncorrectable error stands in its ring entry (R494 code 5) -/
  poisoned : Bool
  /-- has an error status released its WAIT (R346)? -/
  released : Bool := false
deriving DecidableEq, Repr

/-- The running command: the status it has come to, and its writes outside the channel still unacknowledged. -/
structure BRun where
  status : Nat
  waiting : List Nat
deriving DecidableEq, Repr

/-- A window-table slot (R143). -/
structure WinSlot where
  off : Nat
  len : Nat
  map : Nat
deriving DecidableEq, Repr

/-- A replica-table entry (R156): offset, length, device-physical address of the replica. -/
structure Replica where
  off : Nat
  len : Nat
  addr : Nat
deriving DecidableEq, Repr

/-- A basin. -/
structure Basin where
  ring : List BCmd
  run : Option BRun
  wins : Tab WinSlot
  /-- operation-table entries, as the body of their OPTTAB -/
  ops : Tab W512
  /-- landing queue, oldest first -/
  land : List Req
  /-- the replica table: 16 entries, by number (R131, R156) -/
  replicas : Tab Replica
  moored : Bool
  waking : Bool
  /-- the landing queue's urgency wire (R142, R407) -/
  urgent : Bool
deriving DecidableEq, Repr

def Basin.reset : Basin := ⟨[], none, .empty, .empty, [], .empty, false, false, false⟩

end Sys2Proof.Machine
end

