-- ==== Sys2Proof/Machine/CanalState.lean ====
section
/-! DEFINITION. The state of the canals (chapter 9): links, send and receive state of every peer node, held packets. The send
number, the landed frontier and DOWN of a node stand in CNPEER. -/

namespace Sys2Proof.Machine

/-- A packet with its TYPE. -/
structure Pkt where
  typ : BitVec 5
  p : Packet
deriving DecidableEq, Repr

/-- A packet that waits at a canal: the canal whose buffer still holds it, with its lane and units, when it is forwarded (R249), and whether its
trailer is to be sent inverted (R264). -/
structure OutPkt where
  pkt : Pkt
  origin : Option (Nat × Nat × Nat)
  bad : Bool
deriving DecidableEq, Repr

/-- One canal's link (R244 to R250, R266). -/
structure Link where
  /-- number of the next numbered flit, and the flits the peer has not covered -/
  txNum : Nat
  replay : List (Nat × Flit)
  /-- what has been put on the cable and is not covered by the peer, in order: number, tag, bytes (R242). A replay puts flits there again (R245) -/
  wire : List (Nat × BitVec 2 × List Byte)
  /-- numbered flits since the last control flit (R244) -/
  sinceControl : Nat
  /-- credits held for VL0 to VL3 -/
  credits : List Nat
  /-- packets that wait for credits or for room in the replay buffer, each behind those of its lane (R249) -/
  out : List OutPkt
  /-- bytes of the packet stream that do not fill a flit yet -/
  txTail : List Byte
  /-- number of the next flit expected; is everything discarded until it comes (R245)? -/
  rxNum : Nat
  discarding : Bool
  askReplay : Bool
  /-- flits from here on have never been received: control flits replayed before it have been obeyed already (R245) -/
  rxHigh : Nat
  /-- bytes of a packet not yet whole, the numbers of the flits that hold them, and the bytes of the first of them that a
  replay brings again -/
  rxTail : List Byte
  rxMarks : List Nat
  rxSkip : Nat
  /-- packets received and not yet delivered or forwarded, with the credits each holds -/
  rxBuf : List (Pkt × Nat)
  /-- units that the packets received hold of the buffer of VL0 to VL3, and the urgency wire of the receiver (R407) -/
  fill : List Nat
  urgent : Bool
  /-- credits to be returned -/
  owed : List Nat
  /-- the lane being recalibrated and the step of RCL that this end sends: 1 request, 2 grant, 3 done (R266); this end's own lane that waits for
  the peer's to be done -/
  recal : Option (Nat × Nat)
  recalNext : Option Nat
  /-- has the canal gone DOWN after it carried flits? Only a device reset trains it again (R243) -/
  spent : Bool
deriving DecidableEq, Repr

def Link.reset : Link :=
  { txNum := 0, replay := [], wire := [], sinceControl := 0, credits := [1024, 1024, 1024, 1024], out := [], txTail := [], rxNum := 0,
    discarding := false, askReplay := false, rxHigh := 0, rxTail := [], rxMarks := [], rxSkip := 0, rxBuf := [],
    fill := [0, 0, 0, 0], urgent := false, owed := [0, 0, 0, 0], recal := none, recalNext := none, spent := false }

/-- A packet its source still answers for (R257): a sequenced packet, a READ by its tag, or a RESYNC. -/
structure Unretired where
  id : Nat
  /-- end-to-end number, or request tag -/
  seq : W64
  pkt : Pkt
  agent : Agent
  vd : Nat
  sends : Nat
  /-- the canal it last left by -/
  canal : Nat
deriving DecidableEq, Repr

/-- The sending side towards a node. -/
structure Peer where
  /-- has RESYNC been sent since the cold reset or PEER_RESET (R258)? -/
  synced : Bool
  unretired : List Unretired
  /-- packets that wait for a number (R251), or FENCE packets that wait for their agent's earlier packets (R261) -/
  waiting : List Unretired
deriving DecidableEq, Repr

def Peer.reset : Peer := ⟨false, [], []⟩

/-- A packet accepted and not yet resolved: the requests it became, and the worst of their outcomes (R254). -/
structure Busy where
  seq : W64
  pkt : Pkt
  canal : Nat
  /-- units that it still holds of its canal's buffer (R249, R254) -/
  units : Nat
  ids : List Nat
  status : AccStatus
deriving DecidableEq, Repr

/-- A packet of a write group, resolved: is it final-held, and did it land (R259)? -/
structure GroupMark where
  agent : Nat
  grp : Nat
  seq : W64
  fin : Bool
  ok : Bool
deriving DecidableEq, Repr

/-- The receiving side from a node (R255, R256, R259, R260). -/
structure Inbound where
  /-- does it hold an active window, and the resolved numbers above the frontier -/
  window : Bool
  marks : List W64
  busy : List Busy
  /-- final-held packets -/
  held : List Busy
  /-- resolved packets of write groups: those above the frontier, and those of a group with a refused packet (R259) -/
  grouped : List GroupMark
  overflow : Option W64
  sinceAck : Nat
deriving DecidableEq, Repr

def Inbound.reset : Inbound := ⟨false, [], [], [], [], none, 0⟩

/-- A pool request outstanding (R270): its node, number and canal, and whether a response ends it. -/
structure PoolReq where
  node : Nat
  seq : W64
  canal : Nat
  answered : Bool
  id : Nat
deriving DecidableEq, Repr

/-- All canals. -/
structure Fabric where
  links : Tab Link
  peers : Tab Peer
  inbound : Tab Inbound
  /-- round-robin places of SPRAY, by routing entry (R263) -/
  spray : Tab Nat
  poolReqs : List PoolReq
  /-- next request tag of READ -/
  nextTag : BitVec 32
deriving DecidableEq, Repr

def Fabric.reset : Fabric := ⟨.empty, .empty, .empty, .empty, [], 0⟩

end Sys2Proof.Machine
end

