-- ==== Sys2Proof/Machine/CoreState.lean ====
section
/-! DEFINITION. The state of the belfry, the security core, the power core, the meter, the firmware processors, the monitors and
the pins (chapters 17 to 22) beside their registers. -/

namespace Sys2Proof.Machine

/-! ## Life cycle and keys (chapter 17) -/

/-- The security core and the fuses. -/
structure Sec where
  /-- blown copies of the life-cycle fuses: logical fuse b has copies 3b, 3b + 1, 3b + 2 (R430) -/
  fuses : BitVec 24
  /-- blown SVN fuses (R480) -/
  svn : Nat
  serial : W64
  /-- the fused owner digest, 32 bytes little-endian as OWNERD0 to OWNERD3 -/
  ownerd : List Byte
  /-- fused MTRCAL of each rail -/
  cal : List Nat
  /-- the secrets and trims are erased (R432 T4) -/
  erased : Bool
  /-- the challenge of the last DEBUG_CHALLENGE, while it may be honoured -/
  challenge : Option (List Byte)
  /-- D_DBG, or zeros (R416) -/
  dbgDigest : List Byte
  /-- D_SEC, D_PWR, D_SCH, D_CLU of the running set, and D_IMG -/
  digests : List (List Byte)
  imgDigest : List Byte
  /-- seed of AK as last derived (R411) -/
  akSeed : List Byte
  /-- key slots that hold a key: slot, number of the drawn key (R178) -/
  keys : Tab Nat
deriving DecidableEq, Repr

def Sec.reset : Sec :=
  { fuses := 0, svn := 0, serial := 0, ownerd := List.replicate 32 0, cal := List.replicate 7 0, erased := false,
    challenge := none, dbgDigest := List.replicate 32 0, digests := List.replicate 4 (List.replicate 32 0),
    imgDigest := List.replicate 32 0, akSeed := [], keys := .empty }

/-! ## Power, clocks and pins (chapters 18, 19, 22) -/

/-- Where the module stands (R462, R523, R526). -/
inductive Life where
  /-- less than 38 V -/
  | off
  /-- in reset: VBELL is up, start-up before step 9, undervoltage, MOD_RST_L low, no firmware slot, flash held -/
  | held
  | running
  /-- after a thermal trip: off until 54 V is removed (R452) -/
  | tripped
  /-- the input switch is open until V54 falls below 38 V (R526) -/
  | opened
  /-- SCRAPPED (R436) -/
  | scrapped
deriving DecidableEq, Repr

/-- Power, clocks and pins. -/
structure Power where
  life : Life
  /-- MOD_RST_L is low -/
  modRst : Bool
  /-- V54 is outside what the module runs on, but above 38 V (R526) -/
  low : Bool
  /-- FL_HOLD_L was low when last sampled: the flash bus is switched to J12 (R529) -/
  flToJ12 : Bool
  /-- PERST_L of N and S is released, and their links are up -/
  perst : List Bool
  linkUp : List Bool
  /-- a cable is seated, by canal (R520) -/
  cables : BitVec 24
  /-- THERM_L is driven low -/
  therm : Bool
  /-- clock of a tower is stretched now (R444) -/
  stretch : List Bool
  /-- die throttle in force until 3 °C below THLIM, and each stack above 105 °C until below 102 °C (R451) -/
  dieHot : Bool
  stackHot : Bool
  /-- the whole module is moored (R449) -/
  moored : Bool
  /-- last readings: input mV and mA, STATUS_WORD, energy so far in µJ -/
  vin : Nat
  iin : Nat
  statusWord : BitVec 16
  ein : Nat
  /-- rails whose warning has been reported (R510) -/
  warned : List Bool
  /-- towers held in reset by a lost core rail (R510) -/
  railOff : List Bool
  /-- ADDR1 and ADDR0 as step 1 of start-up read them (R525) -/
  addr : BitVec 2
deriving DecidableEq, Repr

def Power.reset : Power :=
  { life := .held, modRst := false, low := false, flToJ12 := false, perst := [false, false], linkUp := [false, false],
    cables := BitVec.allOnes 24, therm := false, stretch := [false, false], dieHot := false, stackHot := false, moored := false,
    vin := 0, iin := 0, statusWord := 0, ein := 0, warned := List.replicate 7 false, railOff := [false, false], addr := 0 }

/-- R447, R506: a monitor's live set. -/
structure MonLive where
  min : Nat
  max : Nat
  cnt : Nat
  hist : Tab Nat
deriving DecidableEq, Repr

def MonLive.reset : MonLive := ⟨2 ^ 48 - 1, 0, 0, .empty⟩

/-! ## The meter (R453 to R457) -/

/-- An open job, or one that closes in the current interval. -/
structure Job where
  vd : Nat
  ctx : Nat
  fn : Nat
  jobid : W64
  gen : W64
  tBegin : Option W64
  tEnd : W64
  core : Nat
  mem : Nat
  io : Nat
  ovh : Nat
  gap : Bool
  sat : Bool
  /-- FINAL, RESET and TRIP bits once it has closed -/
  closed : Option Nat
  /-- BTIME of its last record, or of its beginning -/
  lastRec : W64
deriving DecidableEq, Repr

/-- A record in the ring: its number, bytes 0 to 127, and the signature once made. -/
structure MRec where
  seq : W64
  body : List Byte
  sig : Option (List Byte)
deriving DecidableEq, Repr

/-- The meter island. -/
structure Meter where
  jobs : List Job
  carry : Nat
  ring : List MRec
deriving DecidableEq, Repr

def Meter.reset : Meter := ⟨[], 0, []⟩

/-! ## Firmware (chapter 20) and settings of the image (chapter 19) -/

/-- The firmware processors and the flash. -/
structure Fw where
  flash : Memory
  /-- times of the watchdog expiries of each processor within the last hour (R484) -/
  expiries : Tab (List W64)
  /-- the log ring by slot 0 to 16,383 (R488) -/
  log : Tab (List Byte)
  /-- SLOTSEQ, IFACE and SVN of the running set (R479) -/
  slotSeq : W64
  iface : Nat
  /-- BAR0 offsets marked dynamic by the image (R469) -/
  dyn : List Nat
  /-- TotalVFs, BAR4 size field and disable of ports N and S (R467) -/
  hostCfg : List (Nat × Nat × Bool)
  /-- VFs enabled, by port (R311) -/
  vfs : List Nat
  /-- firmware rings: request producer and consumer, response producer and consumer, by port (R325) -/
  reqProd : List W64
  reqCons : List W64
  rspProd : List W64
  rspCons : List W64
  /-- the ring area of each PF: requests at 0, responses at 0x4000 (R325) -/
  rings : Tab Memory
deriving DecidableEq, Repr

def Fw.reset : Fw :=
  { flash := .zero, expiries := .empty, log := .empty, slotSeq := 0, iface := 0, dyn := [],
    hostCfg := [(63, 0, false), (63, 0, false)], vfs := [0, 0], reqProd := [0, 0], reqCons := [0, 0], rspProd := [0, 0],
    rspCons := [0, 0], rings := .empty }

end Sys2Proof.Machine
end

