-- ==== Sys2Proof/Machine/ObjState.lean ====
section
/-! DEFINITION. The object slots (chapter 13): contexts, queues with their fetched commands, memory objects, fences, event
sources, notifications and apertures. Ring registers of a queue stand in QCBASE to QSTAT. -/

namespace Sys2Proof.Machine

/-- What every object slot holds (R336 to R339): generation, HREF, DREF, KEY, owning context, importing contexts (one entry
a reference), and whether the object has been freed while its storage is still held. -/
structure Head where
  gen : Nat
  href : Nat
  dref : Nat
  key : BitVec 32
  owner : Nat
  imports : List Nat
  freed : Bool
  /-- fences that RELEASE signals when the storage is released: slot, generation, value (R344) -/
  farewell : List (Nat × Nat × W64)
deriving DecidableEq, Repr

/-- A context (R344). `dying` is a teardown under way (R350): the command that asked for it, if any. -/
structure Ctx where
  head : Head
  fn : Nat
  vd : Nat
  /-- privileged slot (R401) -/
  priv : Option Nat
  drain : Nat
  root : W64
  dying : Bool
  killer : Option (Nat × W64)
  /-- error status its fences take when it dies (R350, R332) -/
  doom : BitVec 32
deriving DecidableEq, Repr

/-- The outcome of a command: status, HANDLE, VALUE of its completion entry (R321), and the error status its SIGF takes, 0 for
SIGV (R347). -/
structure Done where
  status : Nat
  handle : BitVec 32
  value : W64
  err : BitVec 32
deriving DecidableEq, Repr

/-- How far a fetched command has come. -/
inductive CmdStage where
  /-- fetched, not started -/
  | waiting
  | started
  | done (d : Done)
  /-- it retires with OK: its signal `id` is on its way to the bank, none once the bank has answered (R346) -/
  | signalling (d : Done) (id : Option Nat)
deriving DecidableEq, Repr

/-- A fetched command (R319, R354): its sequence number, its 64 bytes, the VD generation, the objects whose DREF it holds as
(type, index), its stage, and whether its completion is discarded (R350). -/
structure Cmd where
  seq : W64
  raw : W512
  gen : W64
  holds : List (Nat × Nat)
  stage : CmdStage
  /-- BTIME when it was fetched (R401) -/
  fetched : W64
  /-- have its handles been checked, and the fences they named, as slot and generation (R337) -/
  checked : Bool
  sigf : Option (Nat × Nat)
  waitf : Option (Nat × Nat)
  /-- the error status that released its WAIT, 0 for none (R346) -/
  released : BitVec 32 := 0
  /-- of a JOB_END at its head: the commands accepted before it, as queue and sequence number (R391) -/
  awaits : Option (List (Nat × W64))
deriving DecidableEq, Repr

/-- A queue (R341): kind, owning context (control queues have none), function, commands fetched and not retired, its epoch
(R398), completions held because the completion ring failed (R320). -/
structure QueueObj where
  head : Head
  kind : Nat
  ctx : Option Nat
  fn : Nat
  cmds : List Cmd
  epoch : W64
  /-- is an MSI-X message owed at the end of the moderation interval (R323)? -/
  moderating : Bool
  owed : Bool
deriving DecidableEq, Repr

/-- A memory object (R344). -/
structure MemObj where
  head : Head
  kind : Nat
  base : Nat
  len : Nat
  /-- carve-out and owner VD of a shared object -/
  carve : Nat
  ownerVd : Nat
deriving DecidableEq, Repr

/-- A fence (R345 to R348). -/
structure FenceObj where
  head : Head
  value : W64
  status : BitVec 32
  mirror : Nat
  /-- forward slots 0 to 3: node and remote handle -/
  fwd : Tab (Nat × BitVec 32)
deriving DecidableEq, Repr

/-- An event source (R349). -/
structure EventObj where
  head : Head
  vec : Nat
  mirror : Nat
  count : W64
deriving DecidableEq, Repr

/-- An armed notification (R349): fence, event source, value. -/
structure Notify where
  fence : Nat
  event : Nat
  value : W64
deriving DecidableEq, Repr

/-- A bound aperture (R324): memory object, the device address of its first byte (of a shared object, its carve-out offset), the virtual device of
the object's context, and the context that reaches the object for the function, its owner or one that imported it (R350). -/
structure Aperture where
  mem : Nat
  addr : Nat
  vd : Nat
  ctx : Nat
deriving DecidableEq, Repr

/-- The slots of one type: live objects, generations of slots that have been freed, the slots freed and not used again, in the order freed (one whose
storage is still held is live too), and the lowest slot never used. -/
structure Slots (α : Type) where
  live : Tab α
  gens : Tab Nat
  freed : List Nat
  next : Nat
deriving DecidableEq, Repr

def Slots.reset {α : Type} (first : Nat) : Slots α := ⟨.empty, .empty, [], first⟩

/-- A status event (R322, R493). -/
structure Event where
  code : Nat
  vdid : Nat
  arg0 : Nat
  arg1 : Nat
  arg2 : Nat
deriving DecidableEq, Repr

/-- A doorbell that waits for the function's earlier BAR4 writes to land (R237): function, queue, value, the writes. -/
structure Bell where
  fn : Nat
  queue : Nat
  value : W64
  deps : List Nat
deriving DecidableEq, Repr

/-- A posted BAR4 write on its way (R326): request, function, device address. -/
structure HostWrite where
  id : Nat
  fn : Nat
  addr : Nat
  /-- the virtual device of its aperture -/
  vd : Nat
  /-- the access it is a part of, by a number, and whether poison that the access met has been told -/
  access : Nat
  told : Bool
deriving DecidableEq, Repr

/-- All objects. -/
structure Objs where
  ctxs : Slots Ctx
  queues : Slots QueueObj
  mems : Slots MemObj
  fences : Slots FenceObj
  events : Slots EventObj
  notes : List Notify
  /-- bound apertures, by 4096 × function + aperture -/
  aps : Tab Aperture
  /-- VDs granted to functions (R344), by 64 × function + VD -/
  grants : Tab Unit
  /-- ring bases that a function has written for a control queue it has not created yet (R340) -/
  page : Tab (W64 × W64)
deriving DecidableEq, Repr

/-- Queue slots 0 to 127 are the control queues' (R340). -/
def Objs.reset : Objs :=
  { ctxs := .reset 0, queues := .reset 128, mems := .reset 0, fences := .reset 0, events := .reset 0, notes := [],
    aps := .empty, grants := .empty, page := .empty }

end Sys2Proof.Machine
end

