-- ==== Sys2Proof/Machine/PoolState.lean ====
section
/-! DEFINITION. The state of the pool engines (chapter 10): the ownership ledger, running commands, requests awaiting an answer,
pending abandons and losses, unreachable pools. -/

namespace Sys2Proof.Machine

/-- PHASE of a ledger entry (R276). -/
inductive PoolPhase where
  | settled | staging | staged | committing | returning | lost
deriving DecidableEq, Repr

/-- A ledger entry (R276), with the memory object that it holds by its device reference (R277). `old` is the owner's CRC-64 as it
stood before the open transfer. -/
structure Ledger where
  sid : W64
  xid : W64
  owner : Nat
  dest : Nat
  phase : PoolPhase
  vdid : Nat
  laddr : Nat
  len : Nat
  fence : BitVec 32
  crc : W64
  /-- CRC-64 of the bytes staged by the open transfer -/
  staged : W64
  /-- length of what is staged: the state, or its sealed form (R424) -/
  slen : Nat
  mem : Option Nat
  /-- the context whose command opened the transfer (R350) -/
  opener : Option Nat
deriving DecidableEq, Repr

/-- What a running pool command does now. -/
inductive PoolJob where
  /-- STAGE: the PSTAGE packets not yet retired, or the PCOPY not yet answered; `ac` commits at once (R277) -/
  | stage (ids : List Nat) (ac : Bool)
  /-- COMMIT, or a STAGE with AC that has come to its commit -/
  | commit
  /-- GET or RETURN: chunks of the answer still to come, as (id of the PREAD, offset, length), bytes come, and where
  they go -/
  | read (ret : Bool) (want : List (Nat × Nat × Nat)) (got : List (Nat × List Byte)) (off len laddr : Nat)
deriving DecidableEq, Repr

/-- A running pool command: queue, sequence number, virtual device, state, class. -/
structure PoolRun where
  queue : Nat
  cseq : W64
  vd : Nat
  sid : W64
  cls : Nat
  /-- the STAGE of a new state -/
  fresh : Bool
  job : PoolJob
deriving DecidableEq, Repr

/-- A request that awaits a response (R274): its type, its transfer, and the id it was sent under. -/
structure PoolAsk where
  id : Nat
  node : Nat
  vd : Nat
  typ : BitVec 5
  sid : W64
  xid : W64
deriving DecidableEq, Repr

/-- A pool engine. -/
structure Engine where
  ledger : List Ledger
  /-- last transfer number given -/
  xid : W64
  runs : List PoolRun
  asks : List PoolAsk
  /-- pending abandons: pool, state, transfer, tag (R278) -/
  abandons : List (Nat × W64 × W64 × BitVec 20)
  /-- losses to be told: pool, state, tag (R280) -/
  losses : List (Nat × W64 × BitVec 20)
  unreachable : List Nat
deriving DecidableEq, Repr

def Engine.reset : Engine := ⟨[], 0, [], [], [], [], []⟩

end Sys2Proof.Machine
end

