-- ==== Sys2Proof/Machine/SpireState.lean ====
section
/-! DEFINITION. The state of one spire (R22): registers, predicates, descriptors, accumulators, control registers, queues,
data cache, scratchpad, waits, faults, and the kernel it runs. -/

namespace Sys2Proof.Machine

/-- A tile descriptor register, words d0, d1, d2 (R29). -/
structure TDesc where
  d0 : W64
  d1 : W64
  d2 : W64
deriving DecidableEq, Repr, Inhabited

/-- The format class of an accumulator (R43). -/
inductive AccClass where
  | none | wide | fp32
deriving DecidableEq, Repr, Inhabited

/-- An accumulator: format class, frame exponent, entries (32i + j) that are not zero, poisoned entries (R494 code 1). -/
structure Accum where
  cls : AccClass
  frame : Int
  entries : Tab W128
  poison : Tab Unit
deriving DecidableEq, Repr, Inhabited

/-- A queued tile instruction, by its format. -/
inductive TileOp where
  | vexpr (f : FmtV)
  | mma (f : FmtM)
  | tmove (f : FmtX)
  | vgather (f : FmtX)
  | bcmd (f : FmtS)
  | fsignal (f : FmtS)
deriving DecidableEq, Repr

/-- The phases of R127. -/
inductive Phase where
  | issue | start | completion
deriving DecidableEq, Repr

/-- A fault record in the making (R129): `seq` is the program order by which faults are ranked. -/
structure FaultRec where
  seq : Nat
  cause : Nat
  phase : Phase
  queue : Nat
  further : Nat
  pc : Nat
  addr : Nat
  bytes : Nat
  detail : Nat
deriving DecidableEq, Repr

/-- One external access of a tile instruction: the request, and the scratchpad bytes it fills (reads). -/
structure TileAccess where
  id : Nat
  /-- a read: where its bytes go, as (byte of the answer, scratchpad offset) in order; empty for a write -/
  len : Nat
  /-- position of its first byte in the transfer (R128) -/
  pos : Nat
deriving DecidableEq, Repr

/-- An entry of MQ, VQ or TQ (R32, R33). -/
structure QEntry where
  /-- place in program order -/
  seq : Nat
  /-- PC of the instruction -/
  pc : Nat
  op : TileOp
  /-- captured descriptors in the order of R57 -/
  descs : List TDesc
  /-- captured register values (R99): s1, s2 and s3, or RB, or the K extent -/
  vals : List W64
  started : Bool
  /-- scratchpad as it stood at the start (R35), its poisoned granules, and the accumulators read -/
  snap : Memory
  snapPoison : Tab Unit
  /-- values read at the start by VEXPR (R99): C0 to C3, STREAM, SEED, RIDENT -/
  late : List W64
  /-- scratchpad writes of others that met this instruction in flight (R36) -/
  met : List (Nat × List Byte)
  /-- external accesses made, and those still unacknowledged or unanswered -/
  acc : List TileAccess
  waiting : List Nat
  /-- answers: position of the first byte, bytes -/
  got : List (Nat × List Byte)
  /-- bytes written outside so far -/
  wrote : Nat
  /-- an error reported after the start: cause, position, address -/
  err : Option (Nat × Nat × Nat)
  /-- its reads are done before it completes (R35): the accumulators as it read them; `snap` is then the scratchpad as it read it -/
  done : Option (Accum × Accum) := none
  /-- acquire ranges passed since it was issued, by first byte and length: a gather installs no line in them (R234) -/
  stale : List (Nat × Nat) := []
deriving DecidableEq, Repr

/-- A cache line fill or scalar read in flight: what to do with its data (R27, R103, R117, R118). -/
inductive LoadUse where
  /-- LD: install the line unless an acquire has passed over it -/
  | load
  /-- LDA: read from memory, not installed -/
  | acquire
  /-- the poll of a WAITF -/
  | poll
  /-- a VGATHER element, by the sequence number of its instruction and its index -/
  | gather (seq : Nat) (i : Nat)
deriving DecidableEq, Repr

/-- A scalar read in flight. -/
structure Load where
  id : Nat
  use : LoadUse
  seq : Nat
  pc : Nat
  addr : Nat
  rd : BitVec 5
  size : Nat
  signed : Bool
  install : Bool
  /-- stores of its own spire to its line since it was made: offset in the line, bytes (R49, R227) -/
  patch : List (Nat × List Byte)
deriving DecidableEq, Repr

/-- A posted store or FSET in flight. -/
structure Store where
  id : Nat
  seq : Nat
  pc : Nat
  addr : Nat
  /-- in device memory (a granule of R227)? -/
  device : Bool
deriving DecidableEq, Repr

/-- What stops issue. -/
inductive Wait where
  | none
  /-- WAITF: its address, its space (true: device memory), the value compared with, whether a read is in flight, and
  whether the timeout has run out (R118) -/
  | waitf (f : FmtS) (seq addr : Nat) (device : Bool) (v : W64) (lo len : Nat) (polling expired : Bool)
  /-- FWAIT: the fence's slot and generation, the value, whether it was reached as FWAIT issued, and the release that has
  left for this spire: 0 for the value, else the error status (R121) -/
  | fwait (f : FmtS) (slot gen : Nat) (v : W64) (early : Bool) (release : Option W64)
  /-- BAR: the barrier entry, what holds the arrival, whether it has left and whether it has reached the entry (R122, R208) -/
  | bar (index : Nat) (deps tdeps : List Nat) (sent : Bool) (arrived : Option Nat)
deriving DecidableEq, Repr

/-- What a spire is doing (R25, R129). -/
inductive Run where
  /-- no kernel -/
  | free
  | running
  /-- EOK has issued; the kernel ends when the queues are empty (R25) -/
  | ending
  /-- a fault stopped issue; started instructions complete (R129) -/
  | draining
  /-- halted on its fault record (R129) -/
  | halted
  /-- pre-empted: started instructions complete (R56) -/
  | preempted
  /-- halted by a debugger (R434) -/
  | debug
deriving DecidableEq, Repr

/-- The kernel a spire runs (R394, R395): its DISPATCH by queue and sequence number, context, instance, epoch, and its code
image. -/
structure Kernel where
  queue : Nat
  cseq : W64
  ctx : Nat
  inst : Nat
  epoch : W64
  code : Nat
deriving DecidableEq, Repr

/-- One spire. -/
structure Spire where
  /-- s1 to s31 that are not zero (R26) -/
  regs : Tab W64
  /-- p1 to p7 that are true (R26) -/
  preds : Tab Unit
  tds : Tab TDesc
  a0 : Accum
  a1 : Accum
  /-- RIDENT, where it differs from the spire's number -/
  rident : Nat
  seed : W64
  cls : Nat
  codeBase : Nat
  codeLen : Nat
  pc : Nat
  vdid : Nat
  astatus : Flags
  pcnum : Nat
  /-- performance counters: PCVAL and PCSEL words -/
  pcval : Tab W64
  pcsel : Tab W64
  mq : List QEntry
  vq : List QEntry
  tq : List QEntry
  /-- the data cache: line number to its 64 bytes (R49) -/
  cache : Tab (List Byte)
  spad : Memory
  poison : Tab Unit
  nwin0 : W64
  nwin1 : W64
  nrstat : W64
  run : Run
  wait : Wait
  fault : Option FaultRec
  loads : List Load
  stores : List Store
  /-- next place in program order -/
  seq : Nat
  kernel : Option Kernel
  /-- CODE, CODELEN and CODEBASE of the previous kernel of the VD (R394) -/
  lastCode : Option (Nat × Nat × Nat)
  moored : Bool
  waking : Bool
  /-- a debugger lets a halted spire issue one instruction (R434) -/
  step : Bool
  /-- corrected and uncorrectable SRAM errors and logic-check failures, as BTIME of each (R509) -/
  errors : List (Nat × W64)
  /-- retired without a spare (R13), or replaced by a spare -/
  retired : Bool
  spare : Option Nat
deriving DecidableEq, Repr

/-- An empty accumulator (R59). -/
def Accum.reset : Accum := { cls := .none, frame := 0, entries := .empty, poison := .empty }

/-- The spire after a spire reset (R29, R55, R59), in the service VD. -/
def Spire.reset (n : Nat) : Spire :=
  { regs := .empty, preds := .empty, tds := .empty, a0 := .reset, a1 := .reset, rident := n, seed := 0, cls := 0,
    codeBase := 0, codeLen := 0, pc := 0, vdid := 0x3F, astatus := Flags.none, pcnum := 0, pcval := .empty,
    pcsel := .empty, mq := [], vq := [], tq := [], cache := .empty, spad := .zero, poison := .empty, nwin0 := 0,
    nwin1 := 0, nrstat := 0, run := .free, wait := .none, fault := none, loads := [], stores := [], seq := 0,
    kernel := none, lastCode := none, moored := false, waking := false, step := false, errors := [], retired := false, spare := none }

end Sys2Proof.Machine
end

