-- ==== Sys2Proof/Machine/VdState.lean ====
section
/-! DEFINITION. The state of virtual devices beside their registers (chapters 11, 13, 16, 17): slices, carve-outs, relocation
entries, peers, saved kernels, evacuations. STATE, KIND, PRIO, GRACE and FTAG stand in VDCFG, SHARE, RWIN and REDMASK in
NVDCFG, the canals in CNVDC, channel and segment ownership in CHCFG, FSCFG and ISET. -/

namespace Sys2Proof.Machine

/-- A slice (R285): number, spires, canals. `leaving` holds the SLICE_UNBIND that reclaims it: queue, sequence number,
and whether the grace period has ended (R297). -/
structure Slice where
  num : Nat
  spires : List Nat
  canals : BitVec 24
  leaving : Option (Nat × W64 × Bool)
deriving DecidableEq, Repr

/-- An extent of a carve-out (R167). -/
inductive Extent where
  | channel (ch : Nat)
  | set (slot : Nat)
  | segment (e : Nat)
deriving DecidableEq, Repr

/-- A carve-out (R167, R300): its extents in order with the slice each is attributed to, ENC, key slot, sealed. -/
structure Carve where
  extents : List (Extent × Nat)
  enc : Bool
  key : Nat
  sealed : Bool
deriving DecidableEq, Repr

/-- A relocation entry (R305): former and new channels, or former and new segment. -/
inductive Reloc where
  | channel (src dst : Nat)
  /-- of a set: basin numbers only -/
  | members (src dst : List Nat)
  | segment (src dst : Nat)
deriving DecidableEq, Repr

/-- A saved kernel waiting to resume (R57, R297): its save slot, place in save order, the faulted flag, the kernel
and the generation. The record's contents lie in device memory. -/
structure SaveRec where
  slot : Nat
  order : Nat
  faulted : Bool
  kernel : Kernel
  gen : W64
  /-- what the record of R57 has no place for, kept beside it (log 40): of each queued instruction in slot order, its place in
  program order, its PC and its captured register values -/
  queued : List (Nat × Nat × List W64)
deriving DecidableEq, Repr

/-- A bounce session (R419): keys KI and KO, confirmation material KC, the last inbound and next outbound record numbers. -/
structure Session where
  keyIn : List Byte
  keyOut : List Byte
  confirm : List Byte
  lastIn : W64
  nextOut : W64
deriving DecidableEq, Repr

/-- A virtual device. -/
structure VdState where
  /-- instance generation (R336, R354) -/
  gen : W64
  slices : List Slice
  carves : Tab Carve
  relocs : List Reloc
  peers : List (Nat × Nat)
  slots : Nat
  saves : List SaveRec
  nextSave : Nat
  /-- VD_FREEZE has been accepted (R351), and by which command while it waits -/
  frozen : Bool
  freezer : Option (Nat × W64)
  /-- number of the drawn encapsulation key pair of a confidential VD (R411) -/
  ek : Option Nat
  poolKey : Option (List Byte)
  sessions : Tab Session
  isSealed : Bool
  integrity : Bool
  migrated : Bool
  /-- the report that MIGRATE_TARGET accepted (R426) -/
  target : Option (List Byte)
  /-- the last report signed that names it, which a sealed image is enciphered under (R426, log 96) -/
  report : List Byte
  /-- next SEALSEQ (R424) -/
  sealSeq : W64
deriving DecidableEq, Repr

def VdState.reset : VdState :=
  { gen := 0, slices := [], carves := .empty, relocs := [], peers := [], slots := 0, saves := [], nextSave := 0, frozen := false,
    freezer := none, ek := none, poolKey := none, sessions := .empty, isSealed := false, integrity := false, migrated := false, target := none, report := [],
    sealSeq := 1 }

/-- The state of a chunk (R303). -/
inductive Chunk where
  | pending | copying | done
deriving DecidableEq, Repr, Inhabited

/-- A running evacuation (R302 to R306): the VD, source and destination channels (or one segment each), the extent, chunks
that are not PENDING, SWITCHED, the command that started it, and writes to be mirrored. -/
structure Evac where
  vd : Nat
  ext : Extent
  far : Bool
  src : List Nat
  dst : List Nat
  total : Nat
  chunks : Tab Chunk
  switched : Bool
  queue : Nat
  cseq : W64
deriving DecidableEq, Repr

end Sys2Proof.Machine
end

