-- ==== Sys2Proof/Machine/PortState.lean ====
section
/-! DEFINITION. The state of memory ports (chapter 6): windows, mooring, refresh rate, traffic-generator runs, error history, and
the fills under way. A port is a near-tier channel 0 to 255 or a far-tier controller 256 to 263; a unit that fills is a channel
0 to 255 or a far-tier segment as 256 + e. -/

namespace Sys2Proof.Machine

/-- A run of the traffic generator, with the fields it was started with (R197). `stopAt` is the number of granules worked when
STOP took effect. -/
structure TgRun where
  base : Nat
  len : Nat
  seed : W64
  pat : Nat
  mode : Nat
  raw : Bool
  iter : Nat
  stopAt : Option Nat
deriving DecidableEq, Repr

/-- A memory port. -/
structure PortSt where
  /-- a retraining window is open (R188) -/
  window : Bool
  /-- moored, in self-refresh (R192, R448) -/
  moored : Bool
  waking : Bool
  /-- kept awake by the hourly wake until the scrubber has caught up (R192) -/
  catchUp : Bool
  /-- refresh rate chosen, in force from the next refresh (R186) -/
  rate : Nat
  run : Option TgRun
  /-- offset of the next granule to scrub; CHSCRP shows its low 32 bits (log 61) -/
  scrub : Nat
  /-- BTIME of each uncorrectable error of the last 24 h (R509) -/
  ues : List W64
deriving DecidableEq, Repr, Inhabited

/-- A release fill (R172) or initialising fill (R182) of a unit. -/
structure Fill where
  unit : Nat
  init : Bool
deriving DecidableEq, Repr

/-- A command that waits for fills: a CARVE_BIND (R300), or the SESSION_OPEN that seals its VD (R420). -/
structure Join where
  queue : Nat
  cseq : W64
  units : List Nat
  /-- the session that opens when they have ended: virtual device, slot, session -/
  opens : Option (Nat × Nat × Session)
deriving DecidableEq, Repr

end Sys2Proof.Machine
end

