-- ==== Sys2Proof/Machine/Regs.lean ====
section
/-! DEFINITION. The registers of the module as the spec's register tables give them: names, fields with access codes and
reset values (R5, R6), their places in BAR0 (R314, R536, R513, R460, R489), and what a write does to the bits (R5, R328). -/

namespace Sys2Proof.Machine

/-- The access codes of R5. -/
inductive Acc where
  | ro | rw | wo | w1c | rwl
deriving DecidableEq, Repr

/-- One row of a register table: bits [hi:lo], access, reset value. -/
structure Field where
  hi : Nat
  lo : Nat
  acc : Acc
  rst : Nat
deriving DecidableEq, Repr

/-- The registers, by the spec's names; an indexed register (one per channel, queue, virtual device, …) is one name. -/
inductive RegName where
  | bseqa | bseqr | bring | bstatus | berr | berrseq | bland | bspare | iset | isetm
  | chcfg | chtop | chtemp | chce | chue | chpois | chmac | chtrn | chtrs | chscrp
  | chscrn | fscfg | tgctl | tgbase | tglen | tgseed | tgiter | tgham | tgstat | tgerr
  | tgce | tgbytes | tgfaddr | tgfxor | nbar | nvdcfg | nwin0 | nwin1 | nrstat | lkstat
  | lkretry | ncomb | nmerge | nmcdrop | cngrt | cnmbt | cncfg | cnstat | cnfecc | cnfecu
  | cnrpl | cncrc | cntxb | cnrxb | cndrop | cnnode | cnrto | cnunr | cntshare | cnvdt
  | cnvdc | cnpsend | cnpfront | cnpdown | plcfg | plstat | plfail | pllost | vdcfg | vdsave
  | vdcnt | evst | fninfo | fsbase | fsctl | fsprod | fscons | fnwign | fnpois | fnunmap
  | fndberr | fslost | qcbase | qcfg | qkbase | qcprod | qccons | qdone | qkprod | qkcons
  | qstat | chg | chgepoch | chgref | trwalk | trflt | trwerr | trinv | trabort | trlast
  | trlastva | bchstat | bchseq | bedesc | bebad | bebytes | scvd | scjob | scepoch | scctx
  | scpriv | scqwait | scpre | slmin | slpmin | slsrc | slpri | slcnt | slurg | lcstat
  | lcfuse | serial | ownerd0 | ownerd1 | ownerd2 | ownerd3 | dbgrights | keyuse0 | keyuse1 | scauth
  | scinteg | pwcap | pwstat | pwmoor | pwhint | thstat | thlim | btime | pwthr | pwtthr
  | pwdroop | mtrstat | mtrseq | mtrack | mtrboot | mtrmod | mtridle | mtrcal | sustat | suimgseq
  | sutime | sufail | fwproc | fwrest | fwinfo | fwslot | logprod | rlcfg | rldump | rldumplen
  | rldseq | rlsamp | rltmo | rlpend0 | rlpend1 | rlpend2 | rlpend3 | rlpendf | rlsce | rlsue
  | rldce | rlto | rldlost | rlrst | mncfg | mnsnap | mnmin | mnmax | mncnt | mnhist
deriving DecidableEq, Repr

/-- The number of a register name, for keys. -/
def RegName.code : RegName → Nat
  | .bseqa => 0 | .bseqr => 1 | .bring => 2 | .bstatus => 3 | .berr => 4 | .berrseq => 5
  | .bland => 6 | .bspare => 7 | .iset => 8 | .isetm => 9 | .chcfg => 10 | .chtop => 11
  | .chtemp => 12 | .chce => 13 | .chue => 14 | .chpois => 15 | .chmac => 16 | .chtrn => 17
  | .chtrs => 18 | .chscrp => 19 | .chscrn => 20 | .fscfg => 21 | .tgctl => 22 | .tgbase => 23
  | .tglen => 24 | .tgseed => 25 | .tgiter => 26 | .tgham => 27 | .tgstat => 28 | .tgerr => 29
  | .tgce => 30 | .tgbytes => 31 | .tgfaddr => 32 | .tgfxor => 33 | .nbar => 34 | .nvdcfg => 35
  | .nwin0 => 36 | .nwin1 => 37 | .nrstat => 38 | .lkstat => 39 | .lkretry => 40 | .ncomb => 41
  | .nmerge => 42 | .nmcdrop => 43 | .cngrt => 44 | .cnmbt => 45 | .cncfg => 46 | .cnstat => 47
  | .cnfecc => 48 | .cnfecu => 49 | .cnrpl => 50 | .cncrc => 51 | .cntxb => 52 | .cnrxb => 53
  | .cndrop => 54 | .cnnode => 55 | .cnrto => 56 | .cnunr => 57 | .cntshare => 58 | .cnvdt => 59
  | .cnvdc => 60 | .cnpsend => 61 | .cnpfront => 62 | .cnpdown => 63 | .plcfg => 64 | .plstat => 65
  | .plfail => 66 | .pllost => 67 | .vdcfg => 68 | .vdsave => 69 | .vdcnt => 70 | .evst => 71
  | .fninfo => 72 | .fsbase => 73 | .fsctl => 74 | .fsprod => 75 | .fscons => 76 | .fnwign => 77
  | .fnpois => 78 | .fnunmap => 79 | .fndberr => 80 | .fslost => 81 | .qcbase => 82 | .qcfg => 83
  | .qkbase => 84 | .qcprod => 85 | .qccons => 86 | .qdone => 87 | .qkprod => 88 | .qkcons => 89
  | .qstat => 90 | .chg => 91 | .chgepoch => 92 | .chgref => 93 | .trwalk => 94 | .trflt => 95
  | .trwerr => 96 | .trinv => 97 | .trabort => 98 | .trlast => 99 | .trlastva => 100 | .bchstat => 101
  | .bchseq => 102 | .bedesc => 103 | .bebad => 104 | .bebytes => 105 | .scvd => 106 | .scjob => 107
  | .scepoch => 108 | .scctx => 109 | .scpriv => 110 | .scqwait => 111 | .scpre => 112 | .slmin => 113
  | .slpmin => 114 | .slsrc => 115 | .slpri => 116 | .slcnt => 117 | .slurg => 118 | .lcstat => 119
  | .lcfuse => 120 | .serial => 121 | .ownerd0 => 122 | .ownerd1 => 123 | .ownerd2 => 124 | .ownerd3 => 125
  | .dbgrights => 126 | .keyuse0 => 127 | .keyuse1 => 128 | .scauth => 129 | .scinteg => 130 | .pwcap => 131
  | .pwstat => 132 | .pwmoor => 133 | .pwhint => 134 | .thstat => 135 | .thlim => 136 | .btime => 137
  | .pwthr => 138 | .pwtthr => 139 | .pwdroop => 140 | .mtrstat => 141 | .mtrseq => 142 | .mtrack => 143
  | .mtrboot => 144 | .mtrmod => 145 | .mtridle => 146 | .mtrcal => 147 | .sustat => 148 | .suimgseq => 149
  | .sutime => 150 | .sufail => 151 | .fwproc => 152 | .fwrest => 153 | .fwinfo => 154 | .fwslot => 155
  | .logprod => 156 | .rlcfg => 157 | .rldump => 158 | .rldumplen => 159 | .rldseq => 160 | .rlsamp => 161
  | .rltmo => 162 | .rlpend0 => 163 | .rlpend1 => 164 | .rlpend2 => 165 | .rlpend3 => 166 | .rlpendf => 167
  | .rlsce => 168 | .rlsue => 169 | .rldce => 170 | .rlto => 171 | .rldlost => 172 | .rlrst => 173
  | .mncfg => 174 | .mnsnap => 175 | .mnmin => 176 | .mnmax => 177 | .mncnt => 178 | .mnhist => 179

/-- The event-family pair COUNT and OVF (R505). -/
def eventFields : List Field := [⟨47, 0, .rw, 0⟩, ⟨63, 63, .w1c, 0⟩]

/-- The fields of a register: the rows of the spec's tables, reserved fields left out (R4). Reset values that the tables
give as "function number", "port", "By R403", "Fuses" or "Drawn" stand as 0 here; `resetValue` and the state supply them. -/
def RegName.fields : RegName → List Field
  -- R158
  | .bseqa => [⟨63, 0, .ro, 0⟩]
  | .bseqr => [⟨63, 0, .ro, 0⟩]
  | .bring => [⟨8, 0, .ro, 0⟩, ⟨25, 16, .ro, 0⟩]
  | .bstatus => [⟨0, 0, .w1c, 0⟩, ⟨1, 1, .w1c, 0⟩, ⟨2, 2, .w1c, 0⟩, ⟨3, 3, .w1c, 0⟩, ⟨4, 4, .w1c, 0⟩, ⟨5, 5, .w1c, 0⟩, ⟨6, 6, .w1c, 0⟩]
  | .berr => [⟨7, 0, .ro, 0⟩, ⟨15, 8, .ro, 0⟩]
  | .berrseq => [⟨63, 0, .ro, 0⟩]
  | .bland => eventFields
  | .bspare => [⟨9, 0, .ro, 512⟩]
  -- R173
  | .iset => [⟨0, 0, .rw, 0⟩, ⟨3, 1, .rw, 0⟩, ⟨9, 4, .rw, 63⟩]
  | .isetm => [⟨31, 0, .rw, 0⟩, ⟨37, 32, .ro, 0⟩]
  -- R193
  | .chcfg => [⟨1, 0, .rw, 0⟩, ⟨7, 2, .rw, 63⟩, ⟨8, 8, .rw, 0⟩, ⟨16, 9, .rw, 0⟩, ⟨23, 17, .rw, 0⟩, ⟨24, 24, .rw, 0⟩]
  | .chtop => [⟨31, 0, .rw, 2415919104⟩]
  | .chtemp => [⟨7, 0, .ro, 0⟩, ⟨9, 8, .ro, 0⟩, ⟨10, 10, .ro, 0⟩]
  | .chce => eventFields
  | .chue => eventFields
  | .chpois => eventFields
  | .chmac => eventFields
  | .chtrn => eventFields
  | .chtrs => [⟨2, 0, .ro, 0⟩, ⟨3, 3, .w1c, 0⟩]
  | .chscrp => [⟨31, 6, .ro, 0⟩]
  | .chscrn => eventFields
  -- R194
  | .fscfg => [⟨1, 0, .rw, 0⟩, ⟨7, 2, .rw, 63⟩, ⟨14, 8, .rw, 0⟩, ⟨15, 15, .rw, 0⟩, ⟨23, 16, .rw, 0⟩, ⟨26, 24, .rw, 0⟩]
  -- R197
  | .tgctl => [⟨0, 0, .wo, 0⟩, ⟨1, 1, .wo, 0⟩, ⟨4, 2, .rw, 0⟩, ⟨6, 5, .rw, 0⟩, ⟨7, 7, .rw, 0⟩]
  | .tgbase => [⟨35, 0, .rw, 0⟩]
  | .tglen => [⟨35, 0, .rw, 0⟩]
  | .tgseed => [⟨63, 0, .rw, 0⟩]
  | .tgiter => [⟨31, 0, .rw, 0⟩]
  | .tgham => [⟨31, 0, .rw, 200000⟩]
  | .tgstat => [⟨0, 0, .ro, 0⟩, ⟨1, 1, .w1c, 0⟩, ⟨2, 2, .w1c, 0⟩, ⟨5, 3, .ro, 0⟩]
  | .tgerr => eventFields
  | .tgce => eventFields
  | .tgbytes => eventFields
  | .tgfaddr => [⟨35, 0, .ro, 0⟩]
  | .tgfxor => [⟨63, 0, .ro, 0⟩]
  -- R210
  | .nbar => [⟨0, 0, .rw, 0⟩, ⟨6, 1, .rw, 63⟩, ⟨14, 7, .rw, 0⟩, ⟨23, 15, .rw, 0⟩, ⟨32, 24, .ro, 0⟩]
  -- R215
  | .nvdcfg => [⟨7, 0, .rw, 0⟩, ⟨23, 8, .rw, 0⟩, ⟨29, 24, .rw, 16⟩, ⟨30, 30, .rw, 0⟩]
  -- R216
  | .nwin0 => [⟨15, 0, .rw, 0⟩, ⟨32, 16, .rw, 0⟩, ⟨48, 33, .rw, 0⟩]
  | .nwin1 => [⟨15, 0, .rw, 0⟩, ⟨32, 16, .rw, 0⟩, ⟨48, 33, .rw, 0⟩]
  | .nrstat => [⟨0, 0, .w1c, 0⟩, ⟨1, 1, .w1c, 0⟩, ⟨2, 2, .w1c, 0⟩, ⟨3, 3, .w1c, 0⟩, ⟨4, 4, .w1c, 0⟩, ⟨5, 5, .w1c, 0⟩]
  -- R222
  | .lkstat => [⟨15, 0, .ro, 65535⟩, ⟨16, 16, .ro, 0⟩]
  | .lkretry => eventFields
  | .ncomb => eventFields
  | .nmerge => eventFields
  | .nmcdrop => eventFields
  -- R263
  | .cngrt => [⟨23, 0, .rw, 0⟩, ⟨26, 24, .rw, 0⟩]
  | .cnmbt => [⟨23, 0, .rw, 0⟩, ⟨26, 24, .rw, 0⟩]
  -- R267
  | .cncfg => [⟨0, 0, .rw, 0⟩, ⟨2, 1, .rw, 0⟩, ⟨3, 3, .rw, 0⟩]
  | .cnstat => [⟨2, 0, .ro, 0⟩, ⟨6, 3, .ro, 0⟩]
  | .cnfecc => eventFields
  | .cnfecu => eventFields
  | .cnrpl => eventFields
  | .cncrc => eventFields
  | .cntxb => eventFields
  | .cnrxb => eventFields
  | .cndrop => eventFields
  | .cnnode => [⟨15, 0, .rw, 0⟩]
  | .cnrto => [⟨31, 0, .rw, 50⟩]
  | .cnunr => [⟨31, 0, .rw, 1000⟩]
  | .cntshare => [⟨7, 0, .rw, 32⟩]
  | .cnvdt => [⟨0, 0, .rw, 0⟩, ⟨20, 1, .rw, 0⟩]
  | .cnvdc => [⟨23, 0, .rw, 0⟩]
  | .cnpsend => [⟨63, 0, .ro, 0⟩]
  | .cnpfront => [⟨63, 0, .ro, 0⟩]
  | .cnpdown => [⟨0, 0, .ro, 0⟩]
  -- R282
  | .plcfg => [⟨15, 0, .rw, 10⟩, ⟨31, 16, .rw, 100⟩, ⟨47, 32, .rw, 2000⟩]
  | .plstat => [⟨15, 0, .ro, 0⟩, ⟨32, 16, .ro, 0⟩]
  | .plfail => eventFields
  | .pllost => eventFields
  -- R308
  | .vdcfg => [⟨1, 0, .ro, 0⟩, ⟨2, 2, .ro, 0⟩, ⟨3, 3, .ro, 0⟩, ⟨19, 4, .ro, 0⟩, ⟨39, 20, .ro, 0⟩, ⟨40, 40, .ro, 0⟩]
  | .vdsave => [⟨51, 0, .ro, 0⟩]
  | .vdcnt => [⟨8, 0, .ro, 0⟩, ⟨18, 9, .ro, 0⟩, ⟨28, 19, .ro, 0⟩, ⟨32, 29, .ro, 0⟩, ⟨37, 33, .ro, 0⟩, ⟨43, 38, .ro, 0⟩]
  | .evst => [⟨1, 0, .ro, 0⟩, ⟨7, 2, .ro, 63⟩, ⟨24, 8, .ro, 0⟩, ⟨41, 25, .ro, 0⟩, ⟨42, 42, .ro, 0⟩]
  -- R316
  | .fninfo => [⟨7, 0, .ro, 0⟩, ⟨8, 8, .ro, 0⟩]
  | .fsbase => [⟨63, 12, .ro, 0⟩]
  | .fsctl => [⟨3, 0, .ro, 0⟩, ⟨15, 8, .ro, 0⟩, ⟨16, 16, .ro, 0⟩]
  | .fsprod => [⟨63, 0, .ro, 0⟩]
  | .fscons => [⟨63, 0, .ro, 0⟩]
  | .fnwign => eventFields
  | .fnpois => eventFields
  | .fnunmap => eventFields
  | .fndberr => eventFields
  | .fslost => eventFields
  -- R317
  | .qcbase => [⟨0, 0, .ro, 0⟩, ⟨63, 6, .ro, 0⟩]
  | .qcfg => [⟨4, 0, .ro, 0⟩, ⟨9, 5, .ro, 0⟩, ⟨17, 10, .ro, 0⟩, ⟨27, 18, .ro, 0⟩]
  | .qkbase => [⟨0, 0, .ro, 0⟩, ⟨63, 6, .ro, 0⟩]
  | .qcprod => [⟨63, 0, .ro, 0⟩]
  | .qccons => [⟨63, 0, .ro, 0⟩]
  | .qdone => [⟨63, 0, .ro, 0⟩]
  | .qkprod => [⟨63, 0, .ro, 0⟩]
  | .qkcons => [⟨63, 0, .ro, 0⟩]
  | .qstat => [⟨1, 0, .ro, 0⟩, ⟨15, 8, .ro, 0⟩]
  -- R329
  | .chg => [⟨0, 0, .ro, 1⟩, ⟨1, 1, .ro, 0⟩, ⟨2, 2, .ro, 0⟩]
  | .chgepoch => [⟨63, 0, .ro, 0⟩]
  | .chgref => eventFields
  -- R373
  | .trwalk => eventFields
  | .trflt => eventFields
  | .trwerr => eventFields
  | .trinv => eventFields
  | .trabort => eventFields
  | .trlast => [⟨7, 0, .ro, 0⟩, ⟨11, 8, .ro, 0⟩, ⟨12, 12, .ro, 0⟩]
  | .trlastva => [⟨56, 0, .ro, 0⟩]
  -- R388
  | .bchstat => [⟨1, 0, .ro, 0⟩, ⟨7, 2, .ro, 63⟩, ⟨15, 8, .ro, 0⟩, ⟨27, 16, .ro, 0⟩, ⟨43, 28, .ro, 0⟩]
  | .bchseq => [⟨63, 0, .ro, 0⟩]
  | .bedesc => eventFields
  | .bebad => eventFields
  | .bebytes => eventFields
  -- R402
  | .scvd => [⟨0, 0, .ro, 0⟩, ⟨8, 1, .ro, 0⟩, ⟨32, 9, .ro, 0⟩]
  | .scjob => [⟨63, 0, .ro, 0⟩]
  | .scepoch => [⟨63, 0, .ro, 0⟩]
  | .scctx => eventFields
  | .scpriv => [⟨7, 0, .ro, 0⟩, ⟨8, 8, .ro, 0⟩]
  | .scqwait => eventFields
  | .scpre => eventFields
  -- R409
  | .slmin => [⟨11, 0, .rw, 0⟩]
  | .slpmin => [⟨11, 0, .rw, 64⟩]
  | .slsrc => [⟨15, 0, .ro, 0⟩]
  | .slpri => [⟨7, 0, .rw, 0⟩]
  | .slcnt => eventFields
  | .slurg => eventFields
  -- R437
  | .lcstat => [⟨2, 0, .ro, 0⟩, ⟨3, 3, .ro, 0⟩, ⟨6, 4, .ro, 0⟩, ⟨7, 7, .w1c, 0⟩, ⟨8, 8, .ro, 0⟩, ⟨9, 9, .ro, 0⟩]
  | .lcfuse => [⟨7, 0, .ro, 0⟩]
  | .serial => [⟨63, 0, .ro, 0⟩]
  | .ownerd0 => [⟨63, 0, .rwl, 0⟩]
  | .ownerd1 => [⟨63, 0, .rwl, 0⟩]
  | .ownerd2 => [⟨63, 0, .rwl, 0⟩]
  | .ownerd3 => [⟨63, 0, .rwl, 0⟩]
  | .dbgrights => [⟨63, 0, .ro, 0⟩]
  | .keyuse0 => [⟨63, 0, .ro, 0⟩]
  | .keyuse1 => [⟨63, 0, .ro, 0⟩]
  | .scauth => eventFields
  | .scinteg => eventFields
  -- R460
  | .pwcap => [⟨11, 0, .rw, 2000⟩]
  | .pwstat => [⟨10, 0, .ro, 1750⟩, ⟨11, 11, .ro, 0⟩, ⟨12, 12, .ro, 0⟩, ⟨28, 13, .ro, 0⟩]
  | .pwmoor => [⟨15, 0, .rw, 4096⟩, ⟨31, 16, .rw, 100⟩, ⟨32, 32, .rw, 1⟩]
  | .pwhint => [⟨3, 0, .ro, 0⟩, ⟨7, 4, .ro, 0⟩]
  | .thstat => [⟨7, 0, .ro, 0⟩, ⟨15, 8, .ro, 0⟩, ⟨23, 16, .ro, 0⟩, ⟨24, 24, .ro, 0⟩]
  | .thlim => [⟨7, 0, .rw, 100⟩]
  | .btime => [⟨63, 0, .ro, 0⟩]
  | .pwthr => eventFields
  | .pwtthr => eventFields
  | .pwdroop => eventFields
  | .mtrstat => [⟨12, 0, .ro, 0⟩, ⟨13, 13, .ro, 0⟩, ⟨14, 14, .ro, 0⟩]
  | .mtrseq => [⟨63, 0, .ro, 1⟩]
  | .mtrack => [⟨63, 0, .ro, 0⟩]
  | .mtrboot => [⟨31, 0, .ro, 0⟩]
  | .mtrmod => [⟨63, 0, .ro, 0⟩]
  | .mtridle => [⟨63, 0, .ro, 0⟩]
  | .mtrcal => [⟨15, 0, .rwl, 0⟩, ⟨31, 16, .rwl, 0⟩]
  -- R475
  | .sustat => [⟨3, 0, .ro, 0⟩, ⟨4, 4, .ro, 0⟩, ⟨7, 5, .ro, 0⟩, ⟨8, 8, .ro, 0⟩, ⟨9, 9, .ro, 0⟩]
  | .suimgseq => [⟨63, 0, .ro, 0⟩]
  | .sutime => [⟨31, 0, .ro, 0⟩]
  | .sufail => eventFields
  -- R489
  | .fwproc => [⟨1, 0, .ro, 0⟩, ⟨3, 2, .ro, 0⟩, ⟨4, 4, .ro, 0⟩, ⟨6, 5, .ro, 2⟩]
  | .fwrest => eventFields
  | .fwinfo => [⟨63, 0, .ro, 0⟩]
  | .fwslot => [⟨0, 0, .ro, 0⟩, ⟨1, 1, .ro, 0⟩, ⟨2, 2, .ro, 0⟩, ⟨8, 3, .ro, 0⟩, ⟨9, 9, .ro, 0⟩]
  | .logprod => [⟨63, 0, .ro, 0⟩]
  -- R512
  | .rlcfg => [⟨0, 0, .rw, 0⟩, ⟨1, 1, .rw, 1⟩]
  | .rldump => [⟨0, 0, .rw, 0⟩, ⟨1, 1, .rw, 0⟩, ⟨63, 12, .rw, 0⟩]
  | .rldumplen => [⟨31, 0, .rw, 0⟩]
  | .rldseq => [⟨63, 0, .ro, 0⟩]
  | .rlsamp => [⟨15, 0, .rw, 0⟩, ⟨31, 16, .rw, 64⟩, ⟨47, 32, .rw, 65472⟩, ⟨63, 48, .rw, 64⟩]
  | .rltmo => [⟨21, 0, .rw, 10000⟩]
  | .rlpend0 => [⟨63, 0, .ro, 0⟩]
  | .rlpend1 => [⟨63, 0, .ro, 0⟩]
  | .rlpend2 => [⟨63, 0, .ro, 0⟩]
  | .rlpend3 => [⟨63, 0, .ro, 0⟩]
  | .rlpendf => [⟨7, 0, .ro, 0⟩]
  | .rlsce => eventFields
  | .rlsue => eventFields
  | .rldce => eventFields
  | .rlto => eventFields
  | .rldlost => eventFields
  | .rlrst => eventFields
  | .mncfg => [⟨4, 0, .rw, 0⟩, ⟨14, 5, .rw, 0⟩, ⟨20, 15, .rw, 0⟩, ⟨21, 21, .rw, 0⟩, ⟨22, 22, .rw, 0⟩]
  | .mnsnap => [⟨0, 0, .wo, 0⟩, ⟨1, 1, .wo, 0⟩]
  | .mnmin => [⟨47, 0, .ro, 0⟩]
  | .mnmax => [⟨47, 0, .ro, 0⟩]
  | .mncnt => [⟨47, 0, .ro, 0⟩]
  | .mnhist => [⟨47, 0, .ro, 0⟩]

/-- The bits of the fields with an access code. -/
def RegName.mask (r : RegName) (a : Acc) : W64 :=
  (r.fields.filter (fun f => f.acc = a)).foldl (fun m f => m ||| BitVec.ofNat 64 ((2 ^ (f.hi + 1 - f.lo) - 1) <<< f.lo)) 0

/-- The reset value that the fields of a register spell (R6). -/
def RegName.rst (r : RegName) : W64 :=
  r.fields.foldl (fun m f => m ||| BitVec.ofNat 64 (f.rst <<< f.lo)) 0

/-- Is the register a counter of the event family with an OVF bit (R505)? -/
def RegName.isEvent (r : RegName) : Bool := decide (r.fields = eventFields)

/-- R5, R328: what a write of `v` under `mask` does to the bits of a register: RW bits inside the mask take the value,
W1C bits inside it clear where the value's bit is 1; every other bit keeps its value. `locked` says whether RWL bits are
locked. -/
def mergeWrite (r : RegName) (locked : Bool) (old v mask : W64) : W64 :=
  let rw := (r.mask .rw ||| (if locked then 0 else r.mask .rwl)) &&& mask
  let clr := r.mask .w1c &&& mask &&& v
  ((old &&& ~~~rw) ||| (v &&& rw)) &&& ~~~clr

/-- The WO bits that a write of `v` under `mask` triggers (R5). -/
def triggered (r : RegName) (v mask : W64) : W64 := v &&& mask &&& r.mask .wo

/-- A counter of the event family stepped by n: it stays at 2^48 − 1 and sets OVF (R505). -/
def bumpCount (w : W64) (n : Nat) : W64 :=
  let c := w.get 47 0 + n
  if c < 2 ^ 48 then W64.put w 47 0 c else (W64.put w 47 0 (2 ^ 48 - 1)) ||| 0x8000000000000000#64

/-- The key of an instance of a register in the register table. Instances are numbered below 2^20. -/
def regKey (r : RegName) (i : Nat) : Nat := r.code * 2 ^ 20 + i

/-! ## Places in BAR0 -/

/-- A run of places in BAR0: instance (a × n2 + b) × n3 + c, counted from `from0`, lies at base + a × s1 + b × s2 +
c × s3. -/
structure Place where
  reg : RegName
  base : Nat
  s1 : Nat
  n1 : Nat
  s2 : Nat := 1
  n2 : Nat := 1
  s3 : Nat := 1
  n3 : Nat := 1
  from0 : Nat := 0
deriving DecidableEq, Repr

/-- Registers 8 bytes apart in one group, the group repeated `n` times at a stride (R536). -/
def group (base stride n : Nat) (rs : List RegName) : List Place :=
  rs.zipIdx.map (fun ri => { reg := ri.1, base := base + 8 * ri.2, s1 := stride, n1 := n })

/-- One place, or a row of them 8 bytes apart. -/
def row (reg : RegName) (base : Nat) (n : Nat := 1) : Place := { reg := reg, base := base, s1 := 8, n1 := n }

/-- The BAR0 map but for the function block: R314 with R536, R513, R460 and R489. -/
def places : List Place :=
  group 0x0001000 8 1 [.chg, .chgepoch, .chgref]
  ++ group 0x0100000 0x80 4096 [.qcbase, .qcfg, .qkbase, .qcprod, .qccons, .qdone, .qkprod, .qkcons, .qstat]
  ++ group 0x0200000 0x40 256 [.bseqa, .bseqr, .bring, .bstatus, .berr, .berrseq, .bland, .bspare]
  -- channels 0 to 255, then far controllers 256 to 263; the far controllers' place of CHTOP is reserved
  ++ group 0x0240000 0x80 264 [.chcfg]
  ++ [{ reg := .chtop, base := 0x0240008, s1 := 0x80, n1 := 256 }]
  ++ group 0x0240010 0x80 264 [.chtemp, .chce, .chue, .chpois, .chmac, .chtrn, .chtrs, .chscrp, .chscrn]
  ++ [row .fscfg 0x0260000 64]
  ++ group 0x0280000 0x80 264
    [.tgctl, .tgbase, .tglen, .tgseed, .tgiter, .tgham, .tgstat, .tgerr, .tgce, .tgbytes, .tgfaddr, .tgfxor]
  ++ group 0x02A0000 0x10 256 [.iset, .isetm]
  ++ [row .nbar 0x02B0000 512, row .nvdcfg 0x02C0000 63]
  ++ group 0x02D0000 0x80 2 [.lkstat, .lkretry, .ncomb, .nmerge, .nmcdrop]
  ++ group 0x0300000 0x80 24 [.cncfg, .cnstat, .cnfecc, .cnfecu, .cnrpl, .cncrc, .cntxb, .cnrxb, .cndrop]
  ++ [row .cnnode 0x0310000, row .cnrto 0x0310008, row .cnunr 0x0310010, row .cntshare 0x0310018,
      row .cnvdt 0x0310200 63, row .cnvdc 0x0310400 63]
  ++ [{ reg := .cngrt, base := 0x0320000, s1 := 4, n1 := 1024 }, { reg := .cnmbt, base := 0x0330000, s1 := 4, n1 := 64 }]
  ++ group 0x0400000 0x20 65536 [.cnpsend, .cnpfront, .cnpdown]
  ++ group 0x0600000 0x40 2 [.plcfg, .plstat, .plfail, .pllost]
  ++ group 0x0610000 0x20 63 [.vdcfg, .vdsave, .vdcnt]
  ++ [row .evst 0x0610800 4]
  ++ [row .rlcfg 0x0800000, row .rldump 0x0800008, row .rldumplen 0x0800010, row .rldseq 0x0800018,
      row .rlsamp 0x0800020, row .rldlost 0x0800028, row .rlsce 0x0800030, row .rlsue 0x0800038, row .rldce 0x0800040,
      row .rlto 0x0800048, row .rlpend0 0x0800050, row .rlpend1 0x0800058, row .rlpend2 0x0800060,
      row .rlpend3 0x0800068, row .rlpendf 0x0800070, row .rlrst 0x0800080 7, row .rltmo 0x0800400 63]
  ++ group 0x0801000 0x20 1 [.sustat, .suimgseq, .sutime, .sufail]
  ++ group 0x0802000 0x80 2 [.trwalk, .trflt, .trwerr, .trinv, .trabort, .trlast, .trlastva]
  ++ group 0x0810000 0x10 1024 [.bchstat, .bchseq]
  ++ group 0x0814000 0x20 64 [.bedesc, .bebad, .bebytes]
  ++ group 0x0820000 0x10 63 [.scvd, .scjob]
  ++ [row .scepoch 0x0820400 63, row .scctx 0x0820800 256]
  ++ group 0x0821000 0x20 16 [.scpriv, .scqwait, .scpre]
  ++ [{ reg := .slmin, base := 0x0840000, s1 := 0x1000, n1 := 322, s2 := 8, n2 := 128 },
      { reg := .slsrc, base := 0x0840400, s1 := 0x1000, n1 := 322, s2 := 8, n2 := 128 },
      { reg := .slcnt, base := 0x0840800, s1 := 0x1000, n1 := 322, s2 := 8, n2 := 8 },
      { reg := .slurg, base := 0x0840840, s1 := 0x1000, n1 := 322 },
      { reg := .slpri, base := 0x0840848, s1 := 0x1000, n1 := 322 },
      -- only the PCI Express egress sluices 296 and 297 have SLPMIN
      { reg := .slpmin, base := 0x0840C00 + 296 * 0x1000, s1 := 0x1000, n1 := 2, s2 := 8, n2 := 64, from0 := 296 * 64 }]
  ++ [{ reg := .mncfg, base := 0x0A00000, s1 := 0x10000, n1 := 2, s2 := 0x200, n2 := 64 },
      { reg := .mnsnap, base := 0x0A00008, s1 := 0x10000, n1 := 2, s2 := 0x200, n2 := 64 },
      { reg := .mnmin, base := 0x0A00010, s1 := 0x10000, n1 := 2, s2 := 0x200, n2 := 64 },
      { reg := .mnmax, base := 0x0A00018, s1 := 0x10000, n1 := 2, s2 := 0x200, n2 := 64 },
      { reg := .mncnt, base := 0x0A00020, s1 := 0x10000, n1 := 2, s2 := 0x200, n2 := 64 },
      { reg := .mnhist, base := 0x0A00040, s1 := 0x10000, n1 := 2, s2 := 0x200, n2 := 64, s3 := 8, n3 := 32 }]
  ++ [row .pwcap 0x1000000, row .pwstat 0x1000008, row .pwmoor 0x1000010, row .pwhint 0x1000018, row .thstat 0x1000020,
      row .thlim 0x1000028, row .btime 0x1000030, row .pwthr 0x1000038, row .pwtthr 0x1000040, row .pwdroop 0x1000048]
  ++ [row .mtrstat 0x1001000, row .mtrseq 0x1001008, row .mtrack 0x1001010, row .mtrboot 0x1001018,
      row .mtrmod 0x1001020, row .mtridle 0x1001028, row .mtrcal 0x1001100 7]
  ++ [row .fwproc 0x2008000 32, row .fwrest 0x2008100 32, row .fwinfo 0x2008200, row .fwslot 0x2008208,
      row .logprod 0x2008210]

/-- Where REGISTER_WRITE finds the registers that firmware reaches over the towpath and no BAR maps: those of the security core (R437) and of the
landing adders (R216). The spec gives them no address; these lie past BAR0's 64 MiB (log 182). -/
def towpath : List Place :=
  group 0x4000000 0x80 1 [.lcstat, .lcfuse, .serial, .ownerd0, .ownerd1, .ownerd2, .ownerd3, .dbgrights, .keyuse0, .keyuse1, .scauth, .scinteg]
  ++ group 0x4010000 0x20 264 [.nwin0, .nwin1, .nrstat]

/-- R316, R536: the function block, at 0x000_0000 of each function's BAR0. -/
def functionBlock : List RegName :=
  [.fninfo, .fsbase, .fsctl, .fsprod, .fscons, .fnwign, .fnpois, .fnunmap, .fndberr, .fslost]

/-- The counters of the function block, which a host may write (R315). -/
def functionCounters : List RegName := [.fnwign, .fnpois, .fnunmap, .fndberr, .fslost]

/-- The instance of a place at an offset. -/
def Place.at? (p : Place) (off : Nat) : Option Nat :=
  if off < p.base then none
  else
    let d := off - p.base
    let a := d / p.s1
    let b := d % p.s1 / p.s2
    let c := d % p.s1 % p.s2 / p.s3
    if a < p.n1 && b < p.n2 && c < p.n3 && d % p.s1 % p.s2 % p.s3 = 0 then
      some (p.from0 + (a * p.n2 + b) * p.n3 + c)
    else none

/-- The offset of an instance of a place. -/
def Place.offset? (p : Place) (i : Nat) : Option Nat :=
  let j := i - p.from0
  let a := j / (p.n2 * p.n3)
  if p.from0 ≤ i && a < p.n1 then some (p.base + a * p.s1 + j / p.n3 % p.n2 * p.s2 + j % p.n3 * p.s3) else none

/-- The register at an offset of BAR0 outside the function block, and its instance. -/
def bar0At (off : Nat) : Option (RegName × Nat) := places.findSome? (fun p => (p.at? off).map (fun i => (p.reg, i)))

/-- The register at a place of the towpath past BAR0, and its instance. -/
def towAt (off : Nat) : Option (RegName × Nat) := towpath.findSome? (fun p => (p.at? off).map (fun i => (p.reg, i)))

/-- The BAR0 offset of a register instance, where it has one (R493 COUNTER_OVF). -/
def bar0Offset (r : RegName) (i : Nat) : Option Nat :=
  match functionBlock.idxOf? r with
  | some k => some (8 * k)
  | none => (places.filter (fun p => p.reg = r)).findSome? (fun p => p.offset? i)

end Sys2Proof.Machine
end

