-- ==== Sys2Proof/Machine/SchedState.lean ====
section
/-! DEFINITION. The state of scheduling (chapter 16): started DISPATCH commands, and kernels whose stores are still
unacknowledged. Open jobs stand in SCVD and SCJOB, epochs of queues in the queue objects. -/

namespace Sys2Proof.Machine

/-- A started DISPATCH (R392 to R395). -/
structure Dispatch where
  queue : Nat
  cseq : W64
  ctx : Nat
  vd : Nat
  gen : W64
  cls : Nat
  epoch : W64
  code : Nat
  codeLen : Nat
  codeBase : Nat
  seed : W64
  nwin0 : W64
  nwin1 : W64
  args : W64
  aff : Nat
  affStride : Nat
  n : Nat
  /-- next instance to start, instances ended -/
  next : Nat
  ended : Nat
  /-- lowest-indexed faulting instance: index, cause, spire -/
  fault : Option (Nat × Nat × Nat)
  /-- a reset has discarded one of its kernels (R498) -/
  aborted : Bool
deriving DecidableEq, Repr

/-- An instance past its kernel boundary, or halted, whose stores are not yet acknowledged (R395): the stores, and the cause
of its fault. -/
structure Tail where
  spire : Nat
  kernel : Kernel
  ids : List Nat
  fault : Option Nat
deriving DecidableEq, Repr

end Sys2Proof.Machine
end

