-- ==== Sys2Proof/Machine/TransState.lean ====
section
/-! DEFINITION. The state of address translation (chapter 14): translations wanted and held, the caches, the walkers, the
running invalidations, the parametric descriptors. -/

namespace Sys2Proof.Machine

/-- Who translates (R356): a tile transfer by spire and place in program order, a barge channel, the ring fetch of a queue. -/
inductive Asker where
  | tile (sp seq : Nat)
  | barge (b : Nat)
  | ring (q : Nat)
deriving DecidableEq, Repr

/-- What a translation came to: a bus page, or a cause of R372. -/
inductive Found where
  | page (ppn : Nat)
  | bad (cause : Nat)
deriving DecidableEq, Repr

/-- A translation that a requester waits for, or holds (R368). -/
structure Want where
  asker : Asker
  /-- the cache that serves the requester: 0 to 15 cluster caches, 16 to 79 barge engines, 80 and 81 ring caches -/
  cache : Nat
  tower : Nat
  ctx : Nat
  gen : Nat
  page : Nat
  write : Bool
  found : Option Found
  /-- the INVALs for which it is an old translation -/
  old : List Nat
deriving DecidableEq, Repr

/-- A cached leaf (R362); cache numbers 82 and 83 are the tower caches. -/
structure Leaf where
  cache : Nat
  ctx : Nat
  gen : Nat
  page : Nat
  ppn : Nat
  r : Bool
  w : Bool
deriving DecidableEq, Repr

/-- A cached non-leaf entry of a tower: the table that the top `level` indices of a page lead to, and whether the entries on
the way allow writes (R361). -/
structure Branch where
  tower : Nat
  ctx : Nat
  gen : Nat
  level : Nat
  stem : Nat
  table : Nat
  w : Bool
deriving DecidableEq, Repr

/-- A walk in progress (R359, R361, R364). -/
structure Walk where
  tower : Nat
  ctx : Nat
  gen : Nat
  page : Nat
  level : Nat
  table : Nat
  w : Bool
  stale : Bool
deriving DecidableEq, Repr

/-- A running INVAL (R368): its command, scope and the transfers aborted for it. -/
structure Inval where
  id : Nat
  queue : Nat
  cseq : W64
  ctx : Nat
  whole : Bool
  page : Nat
  pages : Nat
  aborted : Nat
deriving DecidableEq, Repr

/-- All of it. -/
structure Trans where
  wants : List Want
  leaves : List Leaf
  branches : List Branch
  /-- by walker number -/
  walks : Tab Walk
  invals : List Inval
  /-- parametric descriptors 0 to 15 (R360) -/
  pdesc : Tab W64
deriving DecidableEq, Repr

def Trans.reset : Trans := ⟨[], [], [], .empty, [], .empty⟩

end Sys2Proof.Machine
end

