-- ==== Sys2Proof/Machine/State.lean ====
section
/-! DEFINITION. The state of the module: every register, queue, memory and mode the spec gives it, and the queue of
waiting commands. -/

namespace Sys2Proof.Machine

/-- Why the machine stops for good. -/
inductive Fault where
  /-- Raised by OVERVOLTAGE when V54 passes the absolute maximum of 65 V: the spec says damage may result (R526) and gives
  no state after it. Safe: the model goes no further. -/
  | absoluteMaximum
deriving DecidableEq, Repr

/-- Why a command has no meaning. -/
inductive Refusal where
  /-- Raised by a command whose meaning is not written. Safe: the model says nothing of it. -/
  | notModelled (mnemonic : String)
deriving DecidableEq, Repr

/-- The module. -/
structure State where
  /-- commands waiting, first in first out -/
  pending : List Instr
  /-- free values taken so far (the model's own) -/
  ctr : Nat
  /-- number of the next thing in flight (the model's own) -/
  nextId : Nat
  /-- registers that differ from their reset value, by `regKey` -/
  regs : Tab W64
  spires : Tab Spire
  /-- device memory by physical address (R163) -/
  dev : Memory
  /-- poisoned granules, by address ÷ 64 (R175) -/
  devPoison : Tab Unit
  net : Net
  vds : Tab VdState
  evacs : Tab Evac
  objs : Objs
  fabric : Fabric
  dispatches : List Dispatch
  tails : List Tail
  trans : Trans
  basins : Tab Basin
  ports : Tab PortSt
  /-- fills under way or due, in order (R172, R182, R499) -/
  fills : List Fill
  joins : List Join
  /-- pool engines N and S -/
  engines : Tab Engine
  barges : Tab BargeRun
  sec : Sec
  power : Power
  meter : Meter
  fw : Fw
  mons : Tab MonLive
  /-- spires whose scratchpad sample the host has not taken (R503) -/
  unsampled : List Nat
  /-- high halves latched by 4-byte BAR0 reads, by 2^26 × function + offset of the high half (R315) -/
  latches : Tab W64
  /-- doorbells that wait for BAR4 writes (R237), and those writes -/
  bells : List Bell
  hostWrites : List HostWrite
  /-- events of this start, owed to each PF until its status ring is enabled (R470) -/
  owed : Tab (List Event)
  /-- the answer to the last read from outside: bytes (the model's own) -/
  shown : List Byte
  /-- the EP bit of the last BAR4 read's completion (R326) -/
  ep : Bool
  /-- phase hints by spire: LEVEL and LEAD in µs (R445) -/
  hints : Tab (Nat × Nat)
  /-- has the die passed 110 °C and not yet fallen below 100 °C (R451)? -/
  hot : Bool
  /-- host memory behind ports N and S, as far as the module has written it, by bus address -/
  hostMem : Tab Memory
  /-- status entries dropped since the last LOST entry, by function (R322) -/
  lost : Tab Nat
  /-- MSI-X messages sent, by 256 × function + vector (R323) -/
  msix : Tab Nat
deriving DecidableEq, Repr

/-- The module right after 54 V and reset as the registers' Reset columns give it. -/
def State.reset : State :=
  { pending := [], ctr := 0, nextId := 1, regs := .empty, spires := .empty, dev := .zero, devPoison := .empty,
    net := .reset, vds := .empty, evacs := .empty, objs := .reset, fabric := .reset,
    dispatches := [], tails := [], trans := .reset, basins := .empty, ports := .empty, fills := [],
    joins := [], engines := .empty, barges := .empty, sec := .reset, power := .reset, meter := .reset, fw := .reset, mons := .empty,
    unsampled := [], latches := .empty, bells := [], hostWrites := [], owed := .empty, shown := [], ep := false, hints := .empty, hot := false, hostMem := .empty, lost := .empty, msix := .empty }

end Sys2Proof.Machine
end

