-- ==== Sys2Proof/Machine/Ops.lean ====
section
/-! DEFINITION. The named operations over registers, free values, host memory and status rings, device memory and its
ranges, and requests in flight, which the meanings share. -/

namespace Sys2Proof.Machine

/-! ## Outcomes and free values -/

/-- What a meaning answers. -/
abbrev Out := Host.Outcome State Fault Refusal

/-- A free value, and the state with the counter stepped (log 2). -/
def State.free (s : State) : Nat × State := (Config.free s.ctr, { s with ctr := s.ctr + 1 })

/-- A number for a new thing in flight. -/
def State.fresh (s : State) : Nat × State := (s.nextId, { s with nextId := s.nextId + 1 })

/-! ## Registers -/

/-- R403: the default minima of a sluice's inputs, in 4,096ths. -/
def slminDefault (sluice input : Nat) : Nat :=
  if sluice < 256 then [1024, 512, 1024, 5, 0].getD input 0
  else if sluice < 264 then [1024, 5, 0].getD input 0
  else 0

/-- The value of a register instance after a cold reset (R6): its Reset column, the function's own number and port in
FNINFO (R316), the defaults of R403 in SLMIN, MAKER in LCSTAT as unblown fuses spell it (R430); a far controller's CHCFG has no VDID (R193). -/
def rstAt (r : RegName) (i : Nat) : W64 :=
  match r with
  | .fninfo => BitVec.ofNat 64 (i % 64 + 256 * (i / 64))
  | .slmin => BitVec.ofNat 64 (slminDefault (i / 128) (i % 128))
  | .lcstat => 1
  | .chcfg => if 256 ≤ i then 0 else r.rst
  | _ => r.rst

/-- A register as it stands. -/
def State.reg (s : State) (r : RegName) (i : Nat := 0) : W64 := s.regs.get (rstAt r i) (regKey r i)

/-- A field of a register as it stands. -/
def State.fld (s : State) (r : RegName) (i hi lo : Nat) : Nat := (s.reg r i).get hi lo

/-- A bit of a register as it stands. -/
def State.bit (s : State) (r : RegName) (i k : Nat) : Bool := (s.reg r i).getLsbD k

/-- A register table with a value; an instance at its reset value is not listed. -/
def putReg (t : Tab W64) (r : RegName) (i : Nat) (v : W64) : Tab W64 :=
  if v = rstAt r i then t.erase (regKey r i) else t.set (regKey r i) v

/-- The state with a register set by the module itself. -/
def State.setReg (s : State) (r : RegName) (i : Nat) (v : W64) : State := { s with regs := putReg s.regs r i v }

/-- The state with a field of a register set by the module itself. -/
def State.setFld (s : State) (r : RegName) (i hi lo x : Nat) : State := s.setReg r i ((s.reg r i).put hi lo x)

/-- The state with a register back at its reset value. -/
def State.rstReg (s : State) (r : RegName) (i : Nat := 0) : State := s.setReg r i (rstAt r i)

/-- A counter of the event family stepped, without the event of R505. -/
def State.bumpQuiet (s : State) (r : RegName) (i n : Nat) : State := s.setReg r i (bumpCount (s.reg r i) n)

/-! ## Host memory and the status rings (R322) -/

/-- Host memory behind a port, as far as the module has written it. -/
def State.hostOf (s : State) (port : Nat) : Memory := s.hostMem.get .zero port

/-- A posted write to host memory at a bus address (R223, R238). -/
def State.hostWrite (s : State) (port bus : Nat) (data : List Byte) : State :=
  { s with hostMem := s.hostMem.set port ((s.hostOf port).writeN bus data) }

/-- An MSI-X message of a function's vector (R323). -/
def State.sendMsix (s : State) (fn vec : Nat) : State :=
  { s with msix := s.msix.set (256 * fn + vec) (s.msix.get 0 (256 * fn + vec) + 1) }

/-- The 32 bytes of a status entry (R322). -/
def Event.bytes (e : Event) (seq : W64) : List Byte :=
  bytesLE 8 seq.toNat ++ bytesLE 2 e.code ++ bytesLE 1 e.vdid ++ [0] ++ bytesLE 4 e.arg0 ++ bytesLE 8 e.arg1
    ++ bytesLE 8 e.arg2

/-- Is a function's status ring enabled, with room? -/
def State.statusRoom (s : State) (fn : Nat) : Bool :=
  s.bit .fsctl fn 16 && (s.reg .fsprod fn - s.reg .fscons fn).toNat < 2 ^ s.fld .fsctl fn 3 0

/-- An entry written to a ring that has room, and its message (R322, R323). -/
def State.writeStatus (s : State) (fn : Nat) (e : Event) : State :=
  let seq := s.reg .fsprod fn
  let slot := seq.toNat % 2 ^ s.fld .fsctl fn 3 0
  let s := s.hostWrite (fn / 64) ((s.reg .fsbase fn).toNat + 32 * slot) (e.bytes seq)
  (s.setReg .fsprod fn (seq + 1)).sendMsix fn (s.fld .fsctl fn 15 8)

/-- An event that its ring cannot take: dropped and counted (R322). -/
def State.countLost (s : State) (fn : Nat) : State :=
  let s := s.bumpQuiet .fslost fn 1
  { s with lost := s.lost.set fn (s.lost.get 0 fn + 1) }

/-- An event that its ring cannot take, with the event of R505 where FSLOST overflows by it: that one goes to each PF whose ring has room, and is
counted as dropped at the others. -/
def State.dropStatus (s : State) (fn : Nat) : State :=
  let t := s.countLost fn
  if ! s.bit .fslost fn 63 && t.bit .fslost fn 63 && t.bit .rlcfg 0 0 then
    let e : Event := { code := 0x010C, vdid := 0x3F, arg0 := (bar0Offset .fslost fn).getD 0, arg1 := 0, arg2 := 0 }
    [0, 64].foldl (fun (t : State) f => if t.statusRoom f then t.writeStatus f e else t.countLost f) t
  else t

/-- R322: an event posted to one function; a LOST entry goes first when events were dropped before it. -/
def State.post (s : State) (fn : Nat) (e : Event) : State :=
  if ! s.statusRoom fn then s.dropStatus fn
  else
    let n := s.lost.get 0 fn
    let s := if n = 0 then s else
      let t := s.writeStatus fn { code := 0x0007, vdid := 0x3F, arg0 := n, arg1 := 0, arg2 := 0 }
      { t with lost := t.lost.erase fn }
    if s.statusRoom fn then s.writeStatus fn e else s.dropStatus fn

/-- An event posted to every PF (R493): functions 0 of ports N and S. -/
def State.postPFs (s : State) (e : Event) : State := (s.post 0 e).post 64 e

/-- A power or metering event: the arguments that its chapter does not name are free (log 100). -/
def State.openEvent (s : State) (code vdid : Nat) (arg1 : Option Nat) : Event × State :=
  let k := s.ctr
  let w (i : Nat) : Nat := Config.free (k + i)
  ({ code := code, vdid := vdid, arg0 := w 0 % 2 ^ 32, arg1 := arg1.getD (w 1 % 2 ^ 64), arg2 := w 2 % 2 ^ 64 }, { s with ctr := k + 3 })

/-- A counter of the event family stepped; with RLCFG.OVFEV the first setting of OVF posts COUNTER_OVF (R505). -/
def State.bump (s : State) (r : RegName) (i : Nat) (n : Nat := 1) : State :=
  let t := s.bumpQuiet r i n
  if ! s.bit r i 63 && t.bit r i 63 && t.bit .rlcfg 0 0 then
    t.postPFs { code := 0x010C, vdid := 0x3F, arg0 := (bar0Offset r i).getD 0, arg1 := 0, arg2 := 0 }
  else t

/-! ## Units -/

/-- A spire as it stands. -/
def State.spire (s : State) (n : Nat) : Spire := s.spires.get (Spire.reset n) n

/-- The state with a spire changed. -/
def State.setSpire (s : State) (n : Nat) (sp : Spire) : State := { s with spires := s.spires.set n sp }

/-- A virtual device as it stands. -/
def State.vd (s : State) (v : Nat) : VdState := s.vds.get .reset v

/-- The state with a virtual device changed. -/
def State.setVd (s : State) (v : Nat) (x : VdState) : State := { s with vds := s.vds.set v x }

/-- STATE of a virtual device (R308): 0 free, 1 active, 2 in reset, 3 being destroyed. -/
def State.vdState (s : State) (v : Nat) : Nat := s.fld .vdcfg v 1 0

/-- Is the virtual device active (R308)? -/
def State.vdActive (s : State) (v : Nat) : Bool := v < 63 && (s.vdState v = 1 || s.vdState v = 2)

/-- R295: does a virtual device's peer list hold a node? -/
def State.isPeer (s : State) (v node : Nat) : Bool := (s.vd v).peers.any (fun r => decide (r.1 ≤ node) && decide (node ≤ r.2))

/-- Is the virtual device confidential (R287)? -/
def State.confidential (s : State) (v : Nat) : Bool := v < 63 && s.bit .vdcfg v 2

/-- The tower of a spire, and of a channel (R10). -/
def towerOfSpire (sp : Nat) : Nat := sp / 128
def towerOfChannel (ch : Nat) : Nat := ch / 128
def towerOfFar (f : Nat) : Nat := f / 4

/-! ## Device addresses (R163 to R170, R366) -/

/-- The populated bytes of a near-tier channel (R164). -/
def chanBytes : Nat := 0x90000000
/-- The base of the far tier (R163). -/
def farBase : Nat := 0x10000000000
/-- The base of the interleave windows (R163). -/
def windowBase : Nat := 0x100000000000

/-- Where a device-physical address points (R163): a channel and offset, a far segment and offset, a window slot and
offset, or a reserved or unpopulated place. -/
inductive Place' where
  | near (ch off : Nat)
  | far (seg off : Nat)
  | window (slot off : Nat)
  | nowhere
deriving DecidableEq, Repr

/-- R163 to R165. -/
def placeOf (a : Nat) : Place' :=
  if a < farBase then
    if a % 2 ^ 32 < chanBytes then .near (a / 2 ^ 32) (a % 2 ^ 32) else .nowhere
  else if a < farBase + 2 ^ 39 then .far ((a - farBase) / 2 ^ 33) ((a - farBase) % 2 ^ 33)
  else if windowBase ≤ a ∧ a < 0x300000000000 then .window ((a - windowBase) / 2 ^ 37) ((a - windowBase) % 2 ^ 37)
  else .nowhere

/-- The address of a channel offset, and of a segment offset. -/
def nearAddr (ch off : Nat) : Nat := ch * 2 ^ 32 + off
def farAddr (seg off : Nat) : Nat := farBase + seg * 2 ^ 33 + off

/-- The members of an interleave set, lowest first (R169, R173). -/
def State.members (s : State) (slot : Nat) : List Nat :=
  ((upFrom 0 32).filter (fun i => s.bit .isetm slot i)).map (fun i => 32 * s.fld .iset slot 3 1 + i)

/-- R169: the channel and channel offset of a window offset. -/
def windowMap (ms : List Nat) (o : Nat) : Nat × Nat :=
  let g := o / 2048
  (ms.getD (g % ms.length) 0, g / ms.length * 2048 + o % 2048)

/-- The memory port of a physical address: channel, or 256 + far-tier controller. -/
def portOf (a : Nat) : Nat :=
  match placeOf a with
  | .near ch _ => ch
  | .far e _ => 256 + e / 8
  | _ => 264

/-- What a range check finds (R366): the physical address that serves the access, or why it fails. -/
inductive InRange where
  | at (phys : Nat)
  | readOnly
  | outside
deriving DecidableEq, Repr

/-- Does the channel, bound plainly, belong to the virtual device, with the offset below CHTOP (R366)? -/
def State.ownsPlain (s : State) (v ch off : Nat) : Bool :=
  s.fld .chcfg ch 1 0 = 1 && s.fld .chcfg ch 7 2 = v && ! s.bit .chcfg ch 8 && off < s.fld .chtop ch 31 0

/-- Does the segment belong to the virtual device (R366)? -/
def State.ownsSegment (s : State) (v e : Nat) : Bool := s.fld .fscfg e 1 0 = 1 && s.fld .fscfg e 7 2 = v

/-- Does the window slot hold a set of the virtual device that covers the offset (R169, R366)? -/
def State.ownsWindow (s : State) (v slot off : Nat) : Bool :=
  s.bit .iset slot 0 && s.fld .iset slot 9 4 = v && off < (s.members slot).length * chanBytes

/-- The channel to which a relocation entry redirects a former source (R305). -/
def relocChannel (l : List Reloc) (ch : Nat) : Option Nat :=
  l.findSome? (fun r => match r with | .channel a b => if a = ch then some b else none | _ => none)

/-- The segment to which a relocation entry redirects a former source (R305). -/
def relocSegment (l : List Reloc) (e : Nat) : Option Nat :=
  l.findSome? (fun r => match r with | .segment a b => if a = e then some b else none | _ => none)

/-- The basin that a basin number names for the virtual device, after relocations (R305). -/
def relocBasin (l : List Reloc) (c : Nat) : Nat :=
  (l.findSome? (fun r => match r with
    | .channel a b => if a = c then some b else none
    | .members a b => (a.idxOf? c).bind (fun i => b[i]?)
    | .segment _ _ => none)).getD c

/-- The owner and index of the sealed carve-out that an extent belongs to. -/
def State.sealedOwner (s : State) (ext : Extent) : Option (Nat × Nat) :=
  s.vds.cells.findSome? (fun vc =>
    vc.2.carves.cells.findSome? (fun kc =>
      if kc.2.sealed && kc.2.extents.any (fun x => x.1 = ext) then some (vc.1, kc.1) else none))

/-- The extent and physical address of a device address, whoever owns it. -/
def State.extentAt (s : State) (a : Nat) : Option (Extent × Nat) :=
  match placeOf a with
  | .near ch off =>
    if s.fld .chcfg ch 1 0 = 1 && ! s.bit .chcfg ch 8 && off < s.fld .chtop ch 31 0 then some (.channel ch, a) else none
  | .far e _ => if s.fld .fscfg e 1 0 = 1 then some (.segment e, a) else none
  | .window slot off =>
    if s.bit .iset slot 0 && off < (s.members slot).length * chanBytes then
      let (ch, o) := windowMap (s.members slot) off
      some (.set slot, nearAddr ch o)
    else none
  | .nowhere => none


/-- Does a context of the virtual device hold a KIND 2 memory object of the sealed carve-out (R366)? A freed one keeps its range while a command or an
aperture holds its storage (R338). -/
def State.mapsShared (s : State) (v owner carve : Nat) : Bool :=
  s.objs.mems.live.cells.any (fun kc =>
    kc.2.kind = 2 && kc.2.ownerVd = owner && kc.2.carve = carve
      && ((s.objs.ctxs.live.find? kc.2.head.owner).map (·.vd)) = some v)

/-- R166, R305: the physical address of a device address in a virtual device's own ranges. -/
def State.ownAt (s : State) (v : Nat) (a : Nat) : Option Nat :=
  let l := (s.vd v).relocs
  match placeOf a with
  | .near ch off =>
    if s.ownsPlain v ch off then some a
    else match relocChannel l ch with
      | some d => if off < s.fld .chtop d 31 0 then some (nearAddr d off) else none
      | none => none
  | .far e off =>
    if s.ownsSegment v e then some a
    else (relocSegment l e).map (fun d => farAddr d off)
  | .window slot off =>
    if s.ownsWindow v slot off then
      let (ch, o) := windowMap (s.members slot) off
      some (nearAddr ch o)
    else none
  | .nowhere => none

/-- R193, R301: does a physical address belong to a read-only carve-out? -/
def State.readOnlyAt (s : State) (a : Nat) : Bool :=
  match placeOf a with
  | .near ch _ => s.bit .chcfg ch 24
  | .far e _ => s.bit .fscfg e 15
  | _ => false

/-- R366: the range check of a device address for a virtual device: its own ranges, then the sealed carve-outs that it maps. Writes to a read-only
carve-out fail with PERMISSION (R193, R301). -/
def State.rangeCheck (s : State) (v : Nat) (a : Nat) (write : Bool) : InRange :=
  match s.ownAt v a with
  | some p => if write && s.readOnlyAt p then .readOnly else .at p
  | none =>
    match s.extentAt a with
    | some (ext, p) =>
      match s.sealedOwner ext with
      | some (o, k) => if s.mapsShared v o k then (if write then .readOnly else .at p) else .outside
      | none => .outside
    | none => .outside

/-- The physical address of a readable device address. -/
def State.readAt (s : State) (v a : Nat) : Option Nat :=
  match s.rangeCheck v a false with
  | .at p => some p
  | _ => none


/-! ## Bytes by granules (R174, R225) -/

/-- A range cut at 64-byte boundaries: (address, length) pieces. `fuel` bounds the number of pieces. -/
def cutFrom (step : Nat) : Nat → Nat → Nat → List (Nat × Nat)
  | 0, _, _ => []
  | fuel + 1, a, n =>
    if n = 0 then []
    else
      let k := min n (step - a % step)
      (a, k) :: cutFrom step fuel (a + k) (n - k)

/-- A range cut into the parts of its 64-byte granules. -/
def granules (a n : Nat) : List (Nat × Nat) := cutFrom 64 (n / 64 + 2) a n

/-- Is any granule of a range poisoned? -/
def anyPoison (p : Tab Unit) (a n : Nat) : Bool := p.cells.any (fun c => a / 64 ≤ c.1 && c.1 ≤ (a + n - 1) / 64 && n ≠ 0)

/-- One write within a granule on a memory with poison: the whole granule clears its poison, a part of a poisoned granule is
discarded (R176). Answers memory, poison, and whether it was discarded. -/
def pokeGranule (m : Memory) (p : Tab Unit) (a : Nat) (d : List Byte) : Memory × Tab Unit × Bool :=
  if (p.find? (a / 64)).isSome then
    if d.length = 64 then (m.writeN a d, p.erase (a / 64), false) else (m, p, true)
  else (m.writeN a d, p, false)

/-- A write of any length, granule by granule (R176, R225). -/
def poke (m : Memory) (p : Tab Unit) (a : Nat) (d : List Byte) : Memory × Tab Unit × Bool :=
  (granules a d.length).foldl
    (fun r g =>
      let (m, p, bad) := r
      let (m, p, b) := pokeGranule m p g.1 ((d.drop (g.1 - a)).take g.2)
      (m, p, bad || b))
    (m, p, false)

/-! ## Device memory behind the ports -/

/-- The key slot that enciphers a physical address: 0 is plaintext (R178). -/
def State.keyOf (s : State) (a : Nat) : Nat :=
  match placeOf a with
  | .near ch _ => s.fld .chcfg ch 23 17
  | .far e _ => s.fld .fscfg e 14 8
  | _ => 0

/-- R183, R184: where the version counter of a far-tier block lies: CTRCH offset 0x8000_0000 − CTRIDX × 0x1000_0000, 8
bytes a block. -/
def State.counterAddr (s : State) (e off : Nat) : Nat :=
  nearAddr (s.fld .fscfg e 23 16) (0x80000000 - s.fld .fscfg e 26 24 * 0x10000000 + off / 256 * 8)

/-- The version counters of the blocks of a far confidential write stepped by one each (R183). -/
def State.bumpVersions (s : State) (a n : Nat) : State :=
  match placeOf a with
  | .far e off =>
    if s.fld .fscfg e 14 8 = 0 then s
    else
      let step (m : Memory) (b : Nat × Nat) : Memory :=
        let c := s.counterAddr e b.1
        m.writeLE c 8 ((m.readLE c 8 + 1) % 2 ^ 64)
      { s with dev := (cutFrom 256 (n / 256 + 2) off n).foldl step s.dev }
  | _ => s

/-- R169: the window offset of an offset of member `i` of an interleave set of `n`. -/
def windowOff (n i off : Nat) : Nat := (off / 2048 * n + i) * 2048 + off % 2048

/-- Where an evacuation's copy has the byte at a physical address: the extent offset and the destination's address (R302). -/
def Evac.copyOf (e : Evac) (a : Nat) : Option (Nat × Nat) :=
  match placeOf a with
  | .near ch off =>
    if e.far then none
    else (e.src.idxOf? ch).map (fun i =>
      (if e.src.length = 1 then off else windowOff e.src.length i off, nearAddr (e.dst.getD i 0) off))
  | .far g off => if e.far && e.src = [g] then some (off, farAddr (e.dst.headD 0) off) else none
  | _ => none

/-- R303: the addresses of the copies that a write at a physical address is mirrored to: those of DONE chunks of running
evacuations. -/
def State.mirrors (s : State) (a : Nat) : List Nat :=
  s.evacs.cells.filterMap (fun k =>
    if k.2.switched then none
    else (k.2.copyOf a).bind (fun x => if k.2.chunks.get .pending (x.1 / 2 ^ 20) = .done then some x.2 else none))

/-- A port as it stands, and the state with it changed. -/
def State.port (s : State) (u : Nat) : PortSt := s.ports.get default u
def State.setPort (s : State) (u : Nat) (p : PortSt) : State := { s with ports := s.ports.set u p }

/-- Is a physical address in a chunk that an evacuation copies now (R303)? -/
def State.copying (s : State) (a : Nat) : Bool :=
  s.evacs.cells.any (fun k =>
    ! k.2.switched && (match k.2.copyOf a with | some x => k.2.chunks.get .pending (x.1 / 2 ^ 20) = .copying | none => false))

/-- Is traffic of a port held: its window is open, or its channel moored? Set by the port's own commands (R160, R188). -/
def State.portHeld (s : State) (u : Nat) : Bool := (s.port u).window || (s.port u).moored || (s.port u).waking

/-- Has a request come no further than its port? -/
def Req.arriving (r : Req) : Bool := match r.stage with | .net => true | .port _ => true | _ => false

/-- Do requests stand held at a memory port? -/
def State.portQueued (s : State) (u : Nat) : Bool :=
  s.net.reqs.any (fun r => (match r.stage with | .port _ => true | _ => false) && (match r.target with | .dev a => portOf a = u | _ => false))

/-- R132, R188, R303: may an access to a physical range that its agent makes at the port itself go through now? Not while the port is closed or has
requests held that came before, nor, for a write, while a chunk of the range is being copied. -/
def State.mayTouch (s : State) (write : Bool) (a n : Nat) : Bool :=
  (cutFrom (2 ^ 20) (n / 2 ^ 20 + 2) a n).all (fun g =>
    ! s.portHeld (portOf g.1) && ! s.portQueued (portOf g.1) && ! (write && s.copying g.1))

/-- A moored memory port that is needed begins to wake (R448). -/
def State.rousePort (s : State) (u : Nat) : State :=
  let p := s.port u
  if p.moored then s.setPort u { p with moored := false, waking := true } else s

/-- The moored ports of some physical ranges begin to wake. -/
def State.rouseAll (s : State) (l : List (Nat × Nat)) : State := l.foldl (fun (s : State) (g : Nat × Nat) => s.rousePort (portOf g.1)) s

/-- May accesses to some physical ranges all go through? -/
def State.mayTouchAll (s : State) (write : Bool) (l : List (Nat × Nat)) : Bool := l.all (fun g => s.mayTouch write g.1 g.2)

/-- The physical ranges behind a range of device memory as a virtual device names it: windows scatter it by 2 KiB (R171). -/
def State.placesOf (s : State) (v a n : Nat) : List (Nat × Nat) :=
  (cutFrom 2048 (n / 2048 + 2) a n).filterMap (fun g => (s.readAt v g.1).map (fun p => (p, g.2)))

/-- R225: a range of device memory cut into its atomic units: granules, or whole blocks of 256 bytes where the memory is encrypted. -/
def State.units (s : State) (v a n : Nat) : List (Nat × Nat) :=
  (cutFrom 256 (n / 256 + 2) a n).flatMap (fun g =>
    match s.readAt v g.1 with
    | some p => if s.keyOf p = 0 then granules g.1 g.2 else [g]
    | none => granules g.1 g.2)

/-- R132, R188: an agent's accesses to physical ranges, made where they may all go through; else nothing happens but that moored ports begin to wake,
and the command comes again (log 31). -/
def State.touching (s : State) (write : Bool) (l : List (Nat × Nat)) (act : State → State) : State :=
  if s.mayTouchAll write l then act s else s.rouseAll l

/-- A write mirrored to the copies of its granules (R303). -/
def State.mirrorWrite (s : State) (a : Nat) (d : List Byte) : State :=
  (granules a d.length).foldl
    (fun s g => (s.mirrors g.1).foldl
      (fun s b =>
        let (m, p, _) := poke s.dev s.devPoison b ((d.drop (g.1 - a)).take g.2)
        { s with dev := m, devPoison := p }.bumpVersions b g.2)
      s)
    s

/-- A write of a physical range that has reached its port: bytes, poison, version counters and mirrors (R176, R177, R183, R303).
Answers whether a part met poison. -/
def State.devWrite (s : State) (a : Nat) (d : List Byte) : State × Bool :=
  let (m, p, bad) := poke s.dev s.devPoison a d
  (({ s with dev := m, devPoison := p }.bumpVersions a d.length).mirrorWrite a d, bad)

/-- The bytes of a physical range, and whether a granule of it is poisoned. -/
def State.devRead (s : State) (a n : Nat) : List Byte × Bool := (s.dev.readN a n, anyPoison s.devPoison a n)

/-- The virtual device that owns a sealed carve-out with a physical address (R427). -/
def State.sharedAt (s : State) (a : Nat) : Option Nat :=
  let holds (x : Extent) : Bool := match x, placeOf a with
    | .channel c, .near ch _ => c = ch
    | .set slot, .near ch _ => s.bit .chcfg ch 8 && s.fld .chcfg ch 16 9 = slot
    | .segment e, .far g _ => e = g
    | _, _ => false
  s.vds.cells.findSome? (fun v =>
    if v.2.carves.cells.any (fun k => k.2.sealed && k.2.extents.any (fun x => holds x.1)) then some v.1 else none)

/-- A granule found bad: poisoned and counted (R175); in a sealed shared carve-out SHARED_POISON tells every PF (R427). -/
def State.poisonGranule (s : State) (a : Nat) : State :=
  let s := { s with devPoison := s.devPoison.set (a / 64) () }.bump .chpois (portOf a)
  match s.sharedAt a with
  | some v => s.postPFs { code := 0x010B, vdid := 0x3F, arg0 := v, arg1 := a / 64 * 64, arg2 := 0 }
  | none => s

/-! ## Scratchpads -/

/-- Does a range meet the code region of a spire while a kernel runs (R23)? -/
def Spire.inCode (sp : Spire) (off n : Nat) : Bool :=
  decide (sp.run ≠ .free) && decide (off < sp.codeBase + sp.codeLen ∧ sp.codeBase < off + n)

/-- A tile instruction in flight notes a scratchpad write of another (R36). -/
def QEntry.meet (w : Nat × List Byte) (e : QEntry) : QEntry := if e.started then { e with met := w :: e.met } else e

/-- A write into a scratchpad, seen by the tile instructions in flight. Answers whether a part met poison (R494). -/
def Spire.put (sp : Spire) (off : Nat) (d : List Byte) : Spire × Bool :=
  let (m, p, bad) := poke sp.spad sp.poison off d
  ({ sp with spad := m, poison := p, mq := sp.mq.map (QEntry.meet (off, d)), vq := sp.vq.map (QEntry.meet (off, d)),
             tq := sp.tq.map (QEntry.meet (off, d)) }, bad)

/-! ## Sluices away from the memory ports (R403, R408, R514) -/

/-- Bytes granted to a class at a sluice (R408). -/
def State.grants (s : State) (sluice cls n : Nat) : State := if n = 0 then s else s.bump .slcnt (8 * sluice + cls) n

/-- R12: the router of a memory port. -/
def portRouter (u : Nat) : Router := if u < 256 then channelRouter u else farRouter (u - 256)

/-- R11, R12: the router of a target. -/
def Target.router (t : Target) : Router :=
  match t with
  | .dev a => portRouter (portOf a)
  | .spad n _ => spireRouter n
  | .host p _ => hostRouter p

/-- R11, R12, R375: where a source joins the mesh: a packet from the fabric, at the canal that delivered it. -/
def State.agentRouter (s : State) (a : Agent) : Option Router :=
  match a with
  | .spire n => some (spireRouter n)
  | .basin c => some (channelRouter c)
  | .barge b => some (engineRouter (b / 16))
  | .host fn => some (hostRouter (fn / 64))
  | .canal node seq => ((s.fabric.inbound.get .reset node).busy.find? (fun b => b.seq = seq)).map (fun b => canalRouter b.canal)
  | _ => none

/-- R221: the crossing that serves a column: its own, else the nearest in service, the lower-numbered on a tie. When a substitute goes out of service
too, the nearest is sought from the column itself, not from the substitute (log 202). -/
def State.crossingOf (s : State) (x : Nat) : Nat :=
  (((upFrom 0 16).flatMap (fun d => (if d ≤ x then [x - d] else []) ++ (if x + d < 16 then [x + d] else []))).find?
    (fun k => s.bit .lkstat 0 k)).getD x

/-- R201, R408, R514: bytes that go from one router to another are granted at the lock crossing of the destination's column. -/
def State.crosses (s : State) (a : Option Router) (b : Router) (cls n : Nat) : State :=
  match a with
  | some a => if a.tower = b.tower then s else s.grants (264 + 16 * a.tower + s.crossingOf b.x) cls n
  | none => s

/-- Bytes granted to a class at a port's sluice (R408). -/
def State.granted (s : State) (u cls n : Nat) : State := if u < 264 then s.grants u cls n else s

/-- R408: bytes read for an agent at a port, which go back to it, across the lock where it lies in the other tower. -/
def State.readGranted (s : State) (t : Target) (a : Option Router) (cls n : Nat) : State :=
  let s := match t with | .dev p => s.granted (portOf p) cls n | _ => s
  match a with
  | some a => s.crosses (some t.router) a cls n
  | none => s

/-- The bytes that a request carries to its target. -/
def ReqKind.bytes (k : ReqKind) : Nat :=
  match k with
  | .read _ => 0
  | .write d => d.length
  | .reduce d => d.elems.length * d.fmt.bits / 8

/-! ## Requests in flight -/

/-- The state with what is in flight changed. -/
def State.setNet (s : State) (n : Net) : State := { s with net := n }

/-- A write to device memory leaves a spire: a scalar store updates its own cached copy and the fills on their way (R49,
R119, R227); a tile transfer invalidates the lines it writes (R49). -/
def Spire.storeLeaves (sp : Spire) (id named : Nat) (d : List Byte) : Spire :=
  let line := named / 64
  if sp.stores.any (fun x => x.id = id) then
    let upd (bs : List Byte) : List Byte := bs.take (named % 64) ++ d ++ bs.drop (named % 64 + d.length)
    { sp with
      cache := (match sp.cache.find? line with | some bs => sp.cache.set line (upd bs) | none => sp.cache),
      loads := sp.loads.map (fun l => if l.addr / 64 = line then { l with patch := l.patch ++ [(named % 64, d)] } else l) }
  else
    { sp with cache := ⟨sp.cache.cells.filter (fun c => ! (decide (line ≤ c.1) && decide (c.1 ≤ (named + d.length - 1) / 64)))⟩ }

/-- What leaving its source does to the source. -/
def State.leaves (s : State) (r : Req) : State :=
  match r.agent, r.target, r.kind with
  | .spire n, .dev _, .write d => s.setSpire n ((s.spire n).storeLeaves r.id r.named d)
  | .spire n, .dev _, .reduce d =>
    s.setSpire n ((s.spire n).storeLeaves r.id r.named
      (List.replicate (d.elems.length * (match d.red with | .bf16 => 2 | .fp32 => 4 | .windowed => 16)) 0))
  | _, _, _ => s

/-- A request that leaves its source: to host memory it lands as it leaves (R223) and its acknowledgement starts back; any
other is on its way. -/
def State.depart (s : State) (r : Req) : State :=
  let s := (s.leaves r).crosses (s.agentRouter r.agent) r.target.router r.cls r.kind.bytes
  match r.target, r.kind with
  | .host port bus, .write d =>
    let s := (s.grants (296 + port) r.cls d.length).hostWrite port bus d
    s.setNet { s.net with acks := s.net.acks ++ [⟨r.id, r.agent, .ok⟩] }
  | _, _ => s.setNet { s.net with reqs := s.net.reqs ++ [{ r with stage := .net }] }

/-- A request made: it leaves at once, or is held for what it depends on (R227, R230, R231). -/
def State.send (s : State) (r : Req) : State :=
  if r.deps = [] ∧ r.tdeps = [] then s.depart r
  else s.setNet { s.net with reqs := s.net.reqs ++ [{ r with stage := .held }] }

/-- A plain request with nothing to wait for. -/
def plainReq (id : Nat) (agent : Agent) (vd cls : Nat) (t : Target) (named : Nat) (k : ReqKind) : Req :=
  { id := id, agent := agent, vd := vd, cls := cls, target := t, named := named, kind := k, grp := 0, fin := false, deps := [],
    tdeps := [], strict := false, stage := .net, srcs := [], passed := none }

/-- The requests held for nothing more leave, in the order they were made. -/
def State.releaseHeld (s : State) : State :=
  let go := s.net.reqs.filter (fun r => r.stage = .held ∧ r.deps = [] ∧ r.tdeps = [])
  let stay := s.net.reqs.filter (fun r => ¬ (r.stage = .held ∧ r.deps = [] ∧ r.tdeps = []))
  go.foldl State.depart (s.setNet { s.net with reqs := stay })

/-- The final-held writes of a group that failed are discarded; their sources receive BUS (R232). -/
def State.discardHeld (s : State) (bad : Req → Bool) : State :=
  let gone := s.net.reqs.filter (fun r => r.stage = .held && bad r)
  s.setNet { s.net with
    reqs := s.net.reqs.filter (fun r => ! (r.stage = .held && bad r)),
    acks := s.net.acks ++ gone.map (fun r => ⟨r.id, r.agent, .bus⟩) }

/-- What waits for the acknowledgement `id`: it waits no longer, and a final-held write of its group is discarded when the
write failed (R230, R232). -/
def State.acknowledged (s : State) (id : Nat) (st : AccStatus) : State :=
  let s := if st = .ok then s else s.discardHeld (fun r => r.strict && r.deps.contains id)
  let s := s.setNet { s.net with
    reqs := s.net.reqs.map (fun r => { r with deps := r.deps.erase id }),
    signals := s.net.signals.map (fun g => { g with deps := g.deps.erase id }) }
  s.releaseHeld

end Sys2Proof.Machine
end

