-- ==== Sys2Proof/Machine/Flags.lean ====
section
/-! DEFINITION. The flag computations: arithmetic flags into ASTATUS, NRSTAT and BSTATUS (R55, R67, R158, R216), and the
fault record of a spire (R126, R127, R129). -/

namespace Sys2Proof.Machine

/-- ASTATUS with flags set (R67): they are sticky. -/
def Spire.flag (sp : Spire) (f : Flags) : Spire := { sp with astatus := sp.astatus ||| f }

/-- The bits of NRSTAT that arithmetic flags set (R216): NV, OF, UF, NX, WOV, WUN. -/
def nrBits (f : Flags) : W64 :=
  let b (c : Bool) (v : W64) : W64 := if c then v else 0
  b (f.getLsbD 0) 1 ||| b (f.getLsbD 2) 2 ||| b (f.getLsbD 3) 4 ||| b (f.getLsbD 4) 8 ||| b (f.getLsbD 6) 16
    ||| b (f.getLsbD 7) 32

/-- NRSTAT with flags set. -/
def Spire.nrFlag (sp : Spire) (f : Flags) : Spire := { sp with nrstat := sp.nrstat ||| nrBits f }

/-- The bits of BSTATUS that arithmetic flags set (R158): NV, OF, UF, NX, WOV, WUN, SAT. -/
def bsBits (f : Flags) : W64 :=
  let b (c : Bool) (v : W64) : W64 := if c then v else 0
  nrBits f ||| b (f.getLsbD 8) 64

/-- BSTATUS of a basin with flags set. -/
def State.basinFlag (s : State) (c : Nat) (f : Flags) : State := s.setReg .bstatus c (s.reg .bstatus c ||| bsBits f)

/-! ## Faults of a spire -/

/-- The cause codes of R126. -/
def Cause.illegal : Nat := 0x01
def Cause.fetch : Nat := 0x02
def Cause.pcAlign : Nat := 0x03
def Cause.codeWrite : Nat := 0x04
def Cause.desc : Nat := 0x05
def Cause.format : Nat := 0x06
def Cause.operand : Nat := 0x07
def Cause.range : Nat := 0x08
def Cause.translate : Nat := 0x09
def Cause.permission : Nat := 0x0A
def Cause.align : Nat := 0x0B
def Cause.bus : Nat := 0x0C
def Cause.poison : Nat := 0x0D
def Cause.handle : Nat := 0x0E
def Cause.fenceOrder : Nat := 0x0F
def Cause.barrier : Nat := 0x10
def Cause.brk : Nat := 0x11

/-- A fault detected (R129): issue stops, and the record names the earliest in program order and counts the others, up to the halt. -/
def Spire.raise (sp : Spire) (f : FaultRec) : Spire :=
  if sp.run = .halted then sp else
  let rec' := match sp.fault with
    | none => f
    | some g =>
      let n := min 255 (g.further + 1)
      if f.seq < g.seq then { f with further := n } else { g with further := n }
  { sp with fault := some rec',
            run := if sp.run = .preempted ∨ sp.run = .free then sp.run else .draining,
            wait := .none }

/-- An issue fault (R127): precise, with no byte moved; `addr` and `detail` are 0 where the record has none. -/
def Spire.issueFault (sp : Spire) (cause : Nat) (addr : Nat := 0) (detail : Nat := 0) (queue : Nat := 0) : Spire :=
  sp.raise { seq := sp.seq, cause := cause, phase := .issue, queue := queue, further := 0, pc := sp.pc, addr := addr, bytes := 0,
             detail := detail }

/-- A completion fault of the scalar unit (R127), of the instruction at `pc` in place `seq`. -/
def Spire.lateFault (sp : Spire) (seq pc cause addr : Nat) : Spire :=
  sp.raise { seq := seq, cause := cause, phase := .completion, queue := 0, further := 0, pc := pc, addr := addr, bytes := 0,
             detail := 0 }

/-- The 32 bytes of a fault record (R129). -/
def FaultRec.bytes32 (f : FaultRec) : List Byte :=
  let ph := match f.phase with | .issue => 0 | .start => 1 | .completion => 2
  bytesLE 1 f.cause ++ bytesLE 1 ph ++ bytesLE 1 f.queue ++ bytesLE 1 f.further ++ bytesLE 4 f.pc ++ bytesLE 8 f.addr
    ++ bytesLE 8 f.bytes ++ bytesLE 4 f.detail ++ bytesLE 4 0

end Sys2Proof.Machine
end

