-- ==== Sys2Proof/Machine/Operands.lean ====
section
/-! DEFINITION. The operand forms of spire instructions: registers, predicates and guards (R26, R92, R98), the encoding checks
of R93, scalar addresses (R103), acquire ranges, tile descriptors and their checks (R29, R31, R41, R64), and the elements of
tiles (R41, R62). -/

namespace Sys2Proof.Machine

/-! ## Scalar operands -/

/-- s0 reads as zero (R26). -/
def Spire.getS (sp : Spire) (r : BitVec 5) : W64 := if r = 0 then 0 else sp.regs.get 0 r.toNat

/-- A write to s0 is discarded (R26). -/
def Spire.setS (sp : Spire) (r : BitVec 5) (v : W64) : Spire :=
  if r = 0 then sp
  else { sp with regs := if v = 0 then sp.regs.erase r.toNat else sp.regs.set r.toNat v }

/-- p0 reads as true (R26). -/
def Spire.getP (sp : Spire) (p : BitVec 3) : Bool := p = 0 || (sp.preds.find? p.toNat).isSome

/-- A write to p0 is discarded (R26). -/
def Spire.setP (sp : Spire) (p : BitVec 3) (b : Bool) : Spire :=
  if p = 0 then sp
  else { sp with preds := if b then sp.preds.set p.toNat () else sp.preds.erase p.toNat }

/-- R92: the guard holds when p[GP] xor GN is true. -/
def Spire.guard (sp : Spire) (gp : BitVec 3) (gn : BitVec 1) : Bool := sp.getP gp != (gn = 1)

/-- R92: GP 0 with GN 1 is reserved. -/
def guardReserved (gp : BitVec 3) (gn : BitVec 1) : Bool := gp = 0 && gn = 1

/-- R98: op2 is IMM when IM is 1 and s2 otherwise. -/
def Spire.op2 (sp : Spire) (f : FmtS) : W64 := if f.im = 1 then f.imm else sp.getS f.rs2

/-- The fields of format S that an opcode uses; every other one must be zero (R93). -/
structure Uses where
  rd : Bool := false
  rs1 : Bool := false
  rs2 : Bool := false
  rs3 : Bool := false
  rm : Bool := false
  pd : Bool := false
  sz : Bool := false
  im : Bool := false
  x : Bool := false
  /-- bits of AUX in use -/
  aux : BitVec 6 := 0
  /-- bits of IMM in use -/
  imm : W64 := 0
deriving DecidableEq, Repr

/-- R93: a reserved or unused field is nonzero, or the guard is the reserved encoding. An opcode with IM uses both RS2 and IMM: R93's list of the
fields that must be zero while a condition does not hold has neither (log 117). -/
def illegalS (u : Uses) (f : FmtS) : Bool :=
  guardReserved f.gp f.gn || f.rsv ≠ 0
    || (! u.rd && f.rd ≠ 0) || (! u.rs1 && f.rs1 ≠ 0)
    || (! u.rs2 && f.rs2 ≠ 0) || (! u.rs3 && f.rs3 ≠ 0)
    || (! u.rm && f.rm ≠ 0) || (! u.pd && f.pd ≠ 0) || (! u.sz && f.sz ≠ 0) || (! u.im && f.im ≠ 0)
    || (! u.x && f.x ≠ 0) || f.aux &&& ~~~u.aux ≠ 0
    || f.imm &&& ~~~(if u.im then BitVec.allOnes 64 else u.imm) ≠ 0

/-- The bytes of a scalar access (R94): 1, 2, 4 or 8. -/
def sizeOf' (sz : BitVec 2) : Nat := 2 ^ sz.toNat

/-- s1 + IMM, wrapping (R103). -/
def Spire.scalarAddr (sp : Spire) (f : FmtS) : Nat := (sp.getS f.rs1 + f.imm).toNat

/-- A value read from memory, extended (R103). -/
def extend (size : Nat) (signed : Bool) (v : Nat) : W64 :=
  if signed then BitVec.ofInt 64 (toSigned (8 * size) (v % 2 ^ (8 * size))) else BitVec.ofNat 64 (v % 2 ^ (8 * size))

/-- The scratchpad's size (R22). -/
def spadBytes : Nat := 0x400000

/-- The spires register s[r] waits on: a load in flight writes it (R27). -/
def Spire.busy (sp : Spire) (r : BitVec 5) : Bool := r ≠ 0 && sp.loads.any (fun l => l.rd = r && (l.use = .load || l.use = .acquire))

/-! ## Tile descriptors (R29) -/

def TDesc.addr (d : TDesc) : Nat := d.d0.get 56 0
def TDesc.space (d : TDesc) : Nat := d.d0.get 59 57
def TDesc.fmtCode (d : TDesc) : Nat := d.d0.get 63 60
def TDesc.rows (d : TDesc) : Nat := d.d1.get 15 0
def TDesc.cols (d : TDesc) : Nat := d.d1.get 31 16
def TDesc.stride (d : TDesc) : Nat := d.d1.get 63 32
def TDesc.spire (d : TDesc) : Nat := d.d2.get 7 0
def TDesc.mx (d : TDesc) : Bool := d.d2.getLsbD 8
def TDesc.scaleT (d : TDesc) : Nat := d.d2.get 12 9
def TDesc.layout (d : TDesc) : Nat := d.d2.get 14 13

/-- The format of a tile, FP32 where the code is reserved (a descriptor check refuses that first). -/
def TDesc.fmt (d : TDesc) : Fmt := (Fmt.ofCode d.fmtCode).getD .fp32

/-- A descriptor register of a spire. -/
def Spire.td (sp : Spire) (n : Nat) : TDesc := sp.tds.get default n

/-- The descriptor register written with d2's reserved bits zero (R4, R29). -/
def Spire.setTd (sp : Spire) (n : Nat) (d : TDesc) : Spire :=
  let d := { d with d2 := d.d2 &&& 0x7FFF#64 }
  { sp with tds := if d = default then sp.tds.erase n else sp.tds.set n d }

/-- R41: the panel step, the bytes of one K-step block of a packed panel. -/
def panelStep (f : Fmt) : Nat := if f.isFp6 then 384 else 256

/-- R41: the elements of K that one panel block holds in each row or column. -/
def panelDepth (f : Fmt) : Nat :=
  match f with
  | .bf16 => 4 | .fp16 => 4 | .e3m2 => 16 | .e2m3 => 16 | .e2m1 => 16 | _ => 8

/-- The formats that have a packed panel (R40, R41). -/
def Fmt.panelOk : Fmt → Bool
  | .fp16 => true | .bf16 => true | .e4m3 => true | .e5m2 => true | .e3m2 => true | .e2m3 => true | .e2m1 => true
  | .int8 => true | _ => false

/-- The bytes of one row of a row-major tile. -/
def TDesc.rowBytes (d : TDesc) : Nat := d.fmt.rowBytes d.cols

/-- The address of byte `pos` of a row-major tile, bytes counted row by row (R128). -/
def TDesc.byteAt (d : TDesc) (pos : Nat) : Nat := d.addr + pos / d.rowBytes * d.stride + pos % d.rowBytes

/-- The bytes from the first byte of a tile to its last (R31, R41). -/
def TDesc.span (d : TDesc) : Nat :=
  if d.layout = 1 then ceilDiv d.rows (panelDepth d.fmt) * panelStep d.fmt
  else if d.rows = 0 then 0 else (d.rows - 1) * d.stride + d.rowBytes

/-- The checks of R31, with the packed-panel rules of R41. True: the descriptor raises DESC. -/
def TDesc.bad (d : TDesc) : Bool :=
  d.rows = 0 || d.cols = 0
    -- reserved codes and fields
    || decide (3 < d.space) || (Fmt.ofCode d.fmtCode).isNone || decide (1 < d.layout)
    || (d.space = 2 && decide (2 ^ 52 ≤ d.addr)) || (d.space ≠ 1 && d.spire ≠ 0)
    || (d.fmt.isFp6 && d.cols % 4 ≠ 0) || (d.fmt.isFp4 && d.cols % 2 ≠ 0)
    || (d.mx && ! d.fmt.mxOk)
    || (if d.layout = 1 then
          -- a packed panel: COLS 32, STRIDE P, ADDR a multiple of 64, a format that has one
          ! d.fmt.panelOk || d.cols ≠ 32 || d.stride ≠ panelStep d.fmt || d.addr % 64 ≠ 0
            || (d.mx && d.rows % 32 ≠ 0)
        else
          (d.mx && d.cols % 32 ≠ 0) || (decide (1 < d.rows) && decide (d.stride < d.rowBytes)))
    || (decide (d.space < 2) && decide (spadBytes < d.addr + d.span))
    || (decide (2 ≤ d.space) && (d.addr % 64 ≠ 0 || d.stride % 64 ≠ 0))
    || (d.space = 0 && (d.addr % d.fmt.size ≠ 0 || d.stride % d.fmt.size ≠ 0))

/-! ## Elements of tiles -/

/-- Bit `k` upward of `w` bits, from bytes read by `rd` (R62: FP6 and FP4 packed low bits first). -/
def bitsAt (rd : Nat → Byte) (base bit w : Nat) : Nat :=
  let lo := bit / 8
  natLE ((upFrom (base + lo) ((bit % 8 + w + 7) / 8)).map rd) >>> (bit % 8) % 2 ^ w

/-- The pattern of element (r, c) of a row-major tile. -/
def TDesc.elem (d : TDesc) (rd : Nat → Byte) (r c : Nat) : Nat := bitsAt rd (d.addr + r * d.stride) (c * d.fmt.bits) d.fmt.bits

/-- The pattern of element k of row (or column) i of a packed panel (R41). -/
def TDesc.panelElem (d : TDesc) (rd : Nat → Byte) (i k : Nat) : Nat :=
  let p := panelDepth d.fmt
  bitsAt rd (d.addr + k / p * panelStep d.fmt) ((i * p + k % p) * d.fmt.bits) d.fmt.bits

/-- Patterns packed into bytes, low bits first (R62). -/
def packBits (w : Nat) (l : List Nat) : List Byte :=
  let v := l.foldr (fun x acc => acc * 2 ^ w + x % 2 ^ w) 0
  bytesLE (ceilDiv (l.length * w) 8) v

/-- Does an acquire range hold a line? Above 64 KiB it is the whole cache (R50). -/
def acquireHits (lo len line : Nat) : Bool :=
  len ≠ 0 && (decide (0x10000 < len) || (decide (lo / 64 ≤ line) && decide (line ≤ (lo + len - 1) / 64)))

/-- An acquire range (R117 to R119): the lines from lo, `len` bytes. A fill within it on its way, and one of a gather issued and not started,
is not installed (R234). -/
def Spire.acquire (sp : Spire) (lo len : Nat) : Spire :=
  if len = 0 then sp
  else
    let pass (e : QEntry) : QEntry := match e.op, e.started with | .vgather _, false => { e with stale := e.stale ++ [(lo, len)] } | _, _ => e
    { sp with
      cache := ⟨sp.cache.cells.filter (fun c => ! acquireHits lo len c.1)⟩,
      loads := sp.loads.map (fun l => if acquireHits lo len (l.addr / 64) then { l with install := false } else l),
      tq := sp.tq.map pass }

end Sys2Proof.Machine
end

