-- ==== Sys2Proof/Machine/Issue.lean ====
section
/-! DEFINITION. Issue of a spire instruction (R24, R26, R27, R91 to R93, R127): when a spire issues, the fetch and encoding
checks, the guard, stalls, and what retiring an instruction does. An instruction that cannot issue yet leaves the state as it
is; its sender offers it again (log 31). -/

namespace Sys2Proof.Machine

/-- The event codes of R532 that the model counts. -/
def evRetired : Nat := 0x02
def evMiss : Nat := 0x28
def evKStep : Nat := 0x30
def evElem : Nat := 0x31
def evLocal : Nat := 0x38
def evDirect : Nat := 0x39
def evRouted : Nat := 0x3A
def evHost : Nat := 0x3B

/-- One performance counter stepped when it counts the event (R55, R532); with RLCFG.OVFEV its first overflow posts
COUNTER_OVF, whose ARG0 the spec does not give for a counter outside BAR0 (log 32). -/
def State.countOne (s : State) (n evt k i : Nat) : State :=
  let sp := s.spire n
  if k ≠ 0 ∧ (sp.pcsel.get 0 i).get 7 0 = evt then
    let w := sp.pcval.get 0 i
    let w' := bumpCount w k
    let s := s.setSpire n { sp with pcval := sp.pcval.set i w' }
    if ! w.getLsbD 63 && w'.getLsbD 63 && s.bit .rlcfg 0 0 then
      let (x, s) := s.free
      s.postPFs { code := 0x010C, vdid := 0x3F, arg0 := x % 2 ^ 32, arg1 := 0, arg2 := 0 }
    else s
  else s

/-- The performance counters of a spire that count an event add k (R532). -/
def State.countPerf (s : State) (n evt k : Nat) : State := (upFrom 0 8).foldl (fun s i => s.countOne n evt k i) s

/-- R24, R91: is the 16-byte slot at an offset inside the code region? -/
def Spire.fetchable (sp : Spire) (pc : Nat) : Bool :=
  decide (sp.codeBase ≤ pc) && decide (pc + 16 ≤ sp.codeBase + sp.codeLen) && decide (pc + 16 ≤ spadBytes)

/-- Does the spire issue: a kernel runs, or is stepped by a debugger, nothing waits, it is awake? -/
def Spire.issuing (sp : Spire) : Bool :=
  (sp.run = .running || (sp.run = .debug && sp.step)) && sp.wait = .none && ! sp.moored && ! sp.waking

/-- An instruction of `size` bytes has issued: PC moves on and the retired count rises (R91, R532). -/
def State.advance (s : State) (n : Nat) (sp : Spire) (size : Nat := 16) : State :=
  (s.setSpire n { sp with pc := (sp.pc + size) % 2 ^ 64, seq := sp.seq + 1 }).countPerf n evRetired 1

/-- The spire with an issue fault (R127): the instruction has no other effect. -/
def State.issueFault (s : State) (n cause : Nat) (addr : Nat := 0) (detail : Nat := 0) (queue : Nat := 0) : State :=
  s.setSpire n ((s.spire n).issueFault cause addr detail queue)

/-- The fetch checks (R24, R91): the slot, and the second slot of a double instruction. -/
def Spire.fetchFault (sp : Spire) (size : Nat) : Bool := ! sp.fetchable sp.pc || (size = 32 && ! sp.fetchable (sp.pc + 16))

/-- R434: the one instruction of a step has issued. -/
def State.stepped (s : State) (n : Nat) : State :=
  if (s.spire n).step then s.setSpire n { s.spire n with step := false } else s

/-- Issue of an instruction (R92, R93): fetch (a poisoned granule of code raises POISON, R494), encoding, guard, stall, then
its own work. `queue` is the queue that a fault record names. -/
def issue (s : State) (n size : Nat) (illegal : Bool) (gp : BitVec 3) (gn : BitVec 1) (stall : Spire → Bool)
    (body : Spire → State) (queue : Nat := 0) : Out :=
  let sp := s.spire n
  .next (
    if ! sp.issuing then s
    else if sp.fetchFault size then (s.issueFault n Cause.fetch (if sp.fetchable sp.pc then sp.pc + 16 else sp.pc) 0 queue).stepped n
    else if anyPoison sp.poison sp.pc size then (s.setSpire n (sp.lateFault sp.seq sp.pc Cause.poison sp.pc)).stepped n
    else if illegal then (s.issueFault n Cause.illegal 0 0 queue).stepped n
    else if ! sp.guard gp gn then (s.advance n sp size).stepped n
    else if stall sp then s
    else (body sp).stepped n)

/-- R27: a scalar instruction stalls while a register it reads or writes awaits a load. -/
def stallS (u : Uses) (f : FmtS) (sp : Spire) : Bool :=
  (u.rd && sp.busy f.rd) || (u.rs1 && sp.busy f.rs1) || (u.rs2 && ! (u.im && f.im = 1) && sp.busy f.rs2)
    || (u.rs3 && sp.busy f.rs3)

/-- R99: a register that a queued VEXPR reads at its start, and SEED and RIDENT, are held until it starts. -/
def Spire.vexprHolds (sp : Spire) (r : BitVec 5) : Bool :=
  r ≠ 0 && sp.vq.any (fun e => ! e.started && (match e.op with
    | .vexpr f => [f.sc0, f.sc1, f.sc2, f.sc3, f.str].contains r
    | _ => false))

/-- Is an unstarted VEXPR queued (it holds SEED and RIDENT, R99)? -/
def Spire.vexprQueued (sp : Spire) : Bool := sp.vq.any (fun e => ! e.started)

/-- Issue of a format S instruction with fields of its own in use and further encoding checks. -/
def issueS (s : State) (n : Nat) (u : Uses) (f : FmtS) (illegal : Bool) (body : Spire → State) : Out :=
  issue s n 16 (illegalS u f || illegal) f.gp f.gn (fun sp => stallS u f sp || (u.rd && sp.vexprHolds f.rd)) body

end Sys2Proof.Machine
end

