-- ==== Sys2Proof/Machine/Fabric.lean ====
section
/-! DEFINITION. What the sending side of the canals does (R244 to R251, R257, R258, R261 to R263, R270): packets as bytes, credits
and the outgoing stream, routing, send numbers and unretired packets. -/

namespace Sys2Proof.Machine

/-! ## Packets -/

/-- The types of R248 and R274. -/
def tyWrite : BitVec 5 := 0x01
def tyWriteRed : BitVec 5 := 0x02
def tyRead : BitVec 5 := 0x03
def tyReadRsp : BitVec 5 := 0x04
def tyBasin : BitVec 5 := 0x05
def tyFencePkt : BitVec 5 := 0x06
def tyAck : BitVec 5 := 0x07
def tyNak : BitVec 5 := 0x08
def tyResync : BitVec 5 := 0x09
def tyPread : BitVec 5 := 0x10
def tyPdata : BitVec 5 := 0x11
def tyPstage : BitVec 5 := 0x12
def tyPcopy : BitVec 5 := 0x13
def tyPcommit : BitVec 5 := 0x14
def tyPaccept : BitVec 5 := 0x15
def tyPrule : BitVec 5 := 0x16
def tyPstatus : BitVec 5 := 0x17

/-- Is the type a pool type (R248)? -/
def isPool (t : BitVec 5) : Bool := decide (0x10 ≤ t.toNat) && decide (t.toNat ≤ 0x17)

/-- Is the type a pool request (R274)? -/
def isPoolRequest (t : BitVec 5) : Bool := t = tyPread || t = tyPstage || t = tyPcopy || t = tyPcommit || t = tyPrule

/-- R248: is the type sequenced? -/
def isSequenced (t : BitVec 5) : Bool := t = tyWrite || t = tyWriteRed || t = tyBasin || t = tyFencePkt || isPoolRequest t

/-- R248: does the type travel as a response? -/
def isResponse (t : BitVec 5) : Bool :=
  t = tyReadRsp || t = tyAck || t = tyNak || t = tyPdata || t = tyPaccept || t = tyPstatus

/-- Is the type reserved (R248)? -/
def isReservedType (t : BitVec 5) : Bool := t = 0 || (decide (0x09 < t.toNat) && decide (t.toNat < 0x10)) || decide (0x17 < t.toNat)

/-- The 24 header bytes of R247 with the VL given. -/
def Pkt.header (k : Pkt) : List Byte :=
  let p := k.p
  bytesLE 1 (k.typ.toNat + p.fin.toNat * 32 + p.vl.toNat * 64) ++ bytesLE 1 (p.len.toNat + p.rsv1.toNat * 128)
    ++ bytesLE 2 p.dst.toNat ++ bytesLE 2 p.src.toNat
    ++ bytesLE 2 (p.agent.toNat + p.cls.toNat * 2 ^ 11 + p.rsv2.toNat * 2 ^ 14)
    ++ bytesLE 4 p.seq.toNat ++ bytesLE 4 (p.tag.toNat + p.red.toNat * 2 ^ 20 + p.frame.toNat * 2 ^ 22)
    ++ bytesLE 8 (p.addr.toNat + p.grp.toNat * 2 ^ 48 + p.hops.toNat * 2 ^ 60)

/-- R246: header, payload and trailer. -/
def Pkt.bytes (k : Pkt) : List Byte :=
  let b := k.header ++ k.p.payload
  b ++ bytesLE 4 (crc32c b)

/-- R264: a packet with its trailer inverted: the complement of its CRC. -/
def Pkt.badBytes (k : Pkt) : List Byte :=
  let b := k.header ++ k.p.payload
  b ++ bytesLE 4 (2 ^ 32 - 1 - crc32c b)

/-- A packet as it leaves. -/
def OutPkt.bytes (k : OutPkt) : List Byte := if k.bad then k.pkt.badBytes else k.pkt.bytes

/-- R244: the 64 bytes of a control flit. -/
def controlBytes (f : ControlFlit) : List Byte :=
  let b := bytesLE 2 f.fnum.toNat ++ bytesLE 2 f.rxok.toNat ++ bytesLE 2 f.rplf.toNat ++ bytesLE 1 f.rplq.toNat ++ bytesLE 1 f.rsv7.toNat
    ++ bytesLE 2 f.credit0.toNat ++ bytesLE 2 f.credit1.toNat ++ bytesLE 2 f.credit2.toNat ++ bytesLE 2 f.credit3.toNat
    ++ bytesLE 1 f.rcl.toNat ++ List.replicate 43 0
  b ++ bytesLE 4 (crc32c b)

/-- R242: the tag and the bytes of a flit on the cable. -/
def flitImage (f : Flit) : BitVec 2 × List Byte :=
  match f with
  | .idle => (0, [])
  | .stream b => (1, b)
  | .reserved => (2, [])
  | .control c => (3, controlBytes c)

/-- A header read back (R247). -/
def Pkt.ofHeader (b : List Byte) (payload : List Byte) : Pkt :=
  let w := natLE b
  let f (lo n : Nat) : BitVec n := BitVec.ofNat n (w >>> lo)
  { typ := f 0 5,
    p := { fin := f 5 1, vl := f 6 2, len := f 8 7, rsv1 := f 15 1, dst := f 16 16, src := f 32 16, agent := f 48 11,
           cls := f 59 3, rsv2 := f 62 2, seq := f 64 32, tag := f 96 20, red := f 116 2, frame := f 118 10,
           addr := f 128 48, grp := f 176 12, hops := f 188 4, payload := payload } }

/-- A packet with every field zero. -/
def Packet.blank : Packet :=
  { fin := 0, vl := 0, len := 0, rsv1 := 0, dst := 0, src := 0, agent := 0, cls := 0, rsv2 := 0, seq := 0, tag := 0, red := 0,
    frame := 0, addr := 0, grp := 0, hops := 0, payload := [] }

/-! ## Links -/

/-- A canal's link as it stands. -/
def State.link (s : State) (c : Nat) : Link := s.fabric.links.get .reset c

/-- The state with the fabric changed. -/
def State.setFabric (s : State) (f : Fabric) : State := { s with fabric := f }

/-- The state with a link changed. -/
def State.setLink (s : State) (c : Nat) (l : Link) : State := s.setFabric { s.fabric with links := s.fabric.links.set c l }

/-- STATE of a canal (R243): 0 DOWN, 1 TRAINING, 2 UP, 3 RECAL, 4 DEGRADED. -/
def State.canalState (s : State) (c : Nat) : Nat := s.fld .cnstat c 2 0

/-- Does the canal carry flits (R243)? -/
def State.canalUsable (s : State) (c : Nat) : Bool := 2 ≤ s.canalState c && s.canalState c ≤ 4

/-- A numbered flit sent: kept for replay, and put on the cable (R244, R245). -/
def Link.put (l : Link) (f : Flit) : Link :=
  { l with
    replay := l.replay ++ [(l.txNum, f)], wire := l.wire ++ [(l.txNum, flitImage f)], txNum := (l.txNum + 1) % 65536 }

/-- R244: a control flit sent, with the credits owed, the replay asked for and the step of a recalibration. After `done` this end's own lane that
waited is asked for (R266). -/
def Link.putControl (l : Link) : Link :=
  let w (i : Nat) : BitVec 16 := BitVec.ofNat 16 (min 0xFFFF (l.owed.getD i 0))
  let f : ControlFlit := {
    fnum := BitVec.ofNat 16 l.txNum, rxok := BitVec.ofNat 16 (l.rxNum + 65535), rplf := BitVec.ofNat 16 l.rxNum,
    rplq := if l.askReplay then 1 else 0, rsv7 := 0, credit0 := w 0, credit1 := w 1, credit2 := w 2, credit3 := w 3,
    rcl := match l.recal with | some (lane, step) => BitVec.ofNat 8 (lane + 4 * step) | none => 0, crcOk := true }
  let l := l.put (.control f)
  let next := match l.recal with
    | some (_, 3) => (l.recalNext.map (fun n => (n, 1)), none)
    | r => (r, l.recalNext)
  { l with
    sinceControl := 0, askReplay := false, owed := l.owed.map (fun x => x - min 0xFFFF x), recal := next.1, recalNext := next.2 }

/-- Whole flits cut from the outgoing stream, with a control flit after 159 of them (R244). `fuel` bounds the flits. -/
def Link.cutFlits : Nat → Link → Link
  | 0, l => l
  | fuel + 1, l =>
    if l.txTail.length < 64 then l
    else
      let l := if 159 ≤ l.sinceControl then l.putControl else l
      let m := l.put (.stream (l.txTail.take 64))
      Link.cutFlits fuel { m with txTail := l.txTail.drop 64, sinceControl := l.sinceControl + 1 }

/-- R249: the 64-byte units that a packet touches in the stream. -/
def Link.units (l : Link) (k : OutPkt) : Nat := ceilDiv (l.txTail.length % 64 + k.bytes.length) 64

/-- Holds the link credits for a whole packet, and room to keep its flits, with the control flits among them (R245, R249)? -/
def Link.fits (l : Link) (k : OutPkt) : Bool :=
  let u := l.units k
  decide (u ≤ l.credits.getD k.pkt.p.vl.toNat 0) && decide (l.replay.length + u + (l.sinceControl + u) / 159 ≤ 2048)

/-- R249: the packet that leaves next: the first of a lane that the link can send whole. A lane never waits for another. -/
def Link.ready (l : Link) : Option OutPkt :=
  l.out.find? (fun k => l.fits k && decide (l.out.find? (fun y => y.pkt.p.vl = k.pkt.p.vl) = some k))

/-- Packets leave the link while it can send them. Answers those that left. -/
def Link.pump : Nat → Link → List OutPkt × Link
  | 0, l => ([], l)
  | fuel + 1, l =>
    match l.ready with
    | none => ([], l)
    | some k =>
      let u := l.units k
      let v := k.pkt.p.vl.toNat
      let (sent, m) := Link.pump fuel
        (Link.cutFlits u { l with out := l.out.erase k, credits := l.credits.set v (l.credits.getD v 0 - u), txTail := l.txTail ++ k.bytes })
      (k :: sent, m)

/-- R407: the urgency wire of a canal's receiver: raised when the buffer of a lane passes three quarters of its 1,024 units, lowered when all are
below half. -/
def Link.urge (l : Link) : Link :=
  { l with urgent := if l.fill.any (fun n => decide (768 < n)) then true else if l.fill.all (fun n => decide (n < 512)) then false else l.urgent }

/-- A packet received takes its units of the buffer of its lane. -/
def Link.occupy (l : Link) (vl n : Nat) : Link := { l with fill := l.fill.set vl (l.fill.getD vl 0 + n) }.urge

/-- Units of the buffer of a lane freed: their credits are owed back to the sender (R249). -/
def Link.owe (l : Link) (vl n : Nat) : Link :=
  { l with owed := l.owed.set vl (l.owed.getD vl 0 + n), fill := l.fill.set vl (l.fill.getD vl 0 - n) }.urge

/-- The buffer that a packet held at its canal freed. -/
def State.freeBuffer (s : State) (o : Option (Nat × Nat × Nat)) : State :=
  match o with
  | some (c, vl, n) => s.setLink c ((s.link c).owe vl n)
  | none => s

/-- R403, R408, R514: a packet leaves by a canal: its payload is granted to its class at the canal's sluice, which regulates no ACK, NAK or RESYNC;
the buffer that held it, when it was forwarded, is free. -/
def State.egress (s : State) (c : Nat) (k : OutPkt) : State :=
  let t := k.pkt.typ
  let s := if t = tyAck || t = tyNak || t = tyResync then s else s.grants (298 + c) k.pkt.p.cls.toNat k.pkt.p.payload.length
  s.freeBuffer k.origin

/-- The waiting packets of a canal sent as far as credits go; payload bytes are counted (R267). -/
def State.pumpLink (s : State) (c : Nat) : State :=
  let l := s.link c
  let (sent, l') := Link.pump l.out.length l
  let n := sent.foldl (fun (n : Nat) k => n + k.pkt.p.payload.length) 0
  let s := s.setLink c l'
  let s := if n = 0 then s else s.bump .cntxb c n
  sent.foldl (fun (s : State) k => s.egress c k) s

/-- A packet put on a canal. -/
def State.pushLink (s : State) (c : Nat) (k : OutPkt) : State :=
  let l := s.link c
  (s.setLink c { l with out := l.out ++ [k] }).pumpLink c

/-- A packet of this module put on a canal. -/
def State.pushOwn (s : State) (c : Nat) (k : Pkt) : State := s.pushLink c ⟨k, none, false⟩

/-! ## Routing (R262, R263) -/

/-- The routing entry of a destination: register, index. -/
def State.routeEntry (s : State) (dst : Nat) : RegName × Nat :=
  if dst / 64 ≠ s.fld .cnnode 0 15 6 then (.cngrt, dst / 64) else (.cnmbt, dst % 64)

/-- The canals of a mask, lowest first. -/
def canalsOf (m : Nat) : List Nat := (upFrom 0 24).filter (fun c => m.testBit c)

/-- The canal with the most free credits on a lane, the lowest number on a tie (ADAPT). -/
def State.mostFree (s : State) (vl : Nat) (l : List Nat) : Option Nat :=
  l.foldl
    (fun best c =>
      match best with
      | none => some c
      | some b => if (s.link b).credits.getD vl 0 < (s.link c).credits.getD vl 0 then some c else some b)
    none

/-- R263: the choice of an entry's policy among usable canals. The lane that ADAPT looks at is the one the packet has when it chooses: a forwarded
packet's is that on which it arrived, since the lane it takes depends on the canal (R250; log 197). -/
def State.spread (s : State) (r : RegName) (i : Nat) (k : Pkt) (l : List Nat) : Option Nat × State :=
  match s.fld r i 26 24 with
  | 0 => (s.mostFree k.p.vl.toNat l, s)
  | 1 => (l[(k.p.src.toNat * 40503 + k.p.dst.toNat * 34283 + k.p.agent.toNat * 49843) % 65536 % l.length]?, s)
  | 2 =>
    let key := i + (if r = .cngrt then 0 else 1024)
    let n := s.fabric.spray.get 0 key
    (l[n % l.length]?, s.setFabric { s.fabric with spray := s.fabric.spray.set key (n + 1) })
  | _ => (l.head?, s)

/-- Pool requests outstanding on a canal (R270). -/
def State.poolOnCanal (s : State) (c : Nat) : Nat := (s.fabric.poolReqs.filter (fun r => r.canal = c)).length

/-- The usable canals of a packet (R262): `vd` limits a virtual device's own traffic, `from?` excludes the arrival canal. -/
def State.usable (s : State) (k : Pkt) (vd : Option Nat) (arrival : Option Nat) : List Nat :=
  let (r, i) := s.routeEntry k.p.dst.toNat
  let free : Bool := k.typ = tyAck || k.typ = tyNak || k.typ = tyResync || k.typ = tyReadRsp
  (canalsOf (s.fld r i 23 0)).filter (fun c =>
    s.canalUsable c && (free || (match vd with | some v => s.bit .cnvdc v c | none => true)) && arrival ≠ some c)

/-- R262: the canal of a packet, if one is usable and, for a pool request, below its limit. -/
def State.route (s : State) (k : Pkt) (vd : Option Nat) (arrival : Option Nat) : Option Nat × State :=
  let (r, i) := s.routeEntry k.p.dst.toNat
  let l := s.usable k vd arrival
  let l := if isPoolRequest k.typ then l.filter (fun c => decide (s.poolOnCanal c < 4096)) else l
  if l = [] then (none, s) else s.spread r i k l

/-! ## Sending -/

/-- The virtual device whose CNVDC limits a packet: none for the module's own. -/
def limitVd (vd : Nat) : Option Nat := if vd < 63 then some vd else none

/-- The sending side towards a node. -/
def State.peer (s : State) (node : Nat) : Peer := s.fabric.peers.get .reset node

/-- The state with a peer changed. -/
def State.setPeer (s : State) (node : Nat) (p : Peer) : State := s.setFabric { s.fabric with peers := s.fabric.peers.set node p }

/-- An agent told the end of a packet it sent. -/
def State.tell (s : State) (u : Unretired) (st : AccStatus) : State :=
  s.setNet { s.net with acks := s.net.acks ++ [⟨u.id, u.agent, st⟩] }

/-- R250: the packet as it leaves its source: VL0, or VL2 for a response, raised when the canal is a dateline. -/
def State.firstLane (s : State) (c : Nat) (k : Pkt) : Pkt :=
  let v : Nat := (if isResponse k.typ then 2 else 0) + (if s.bit .cncfg c 3 then 1 else 0)
  { k with p := { k.p with vl := BitVec.ofNat 2 v } }

/-- A packet transmitted, where a canal can carry it. Answers the canal. -/
def State.transmit (s : State) (k : Pkt) (vd : Option Nat) : Option Nat × State :=
  let k := { k with p := { k.p with vl := if isResponse k.typ then 2 else 0 } }
  match s.route k vd none with
  | (none, s) => (none, s)
  | (some c, s) => (some c, s.pushOwn c (s.firstLane c k))

/-- All unretired sequenced packets of the module (R251). -/
def State.unretiredCount (s : State) : Nat :=
  s.fabric.peers.cells.foldl (fun n k => n + (k.2.unretired.filter (fun u => isSequenced u.pkt.typ)).length) 0

/-- Has an agent a packet before the one numbered `id` that is not retired, or that waits for another node than `node` (R261)? -/
def State.agentBusy (s : State) (node id : Nat) (a : Agent) (code : BitVec 11) : Bool :=
  let mine (u : Unretired) : Bool := u.agent = a && u.pkt.p.agent = code
  s.fabric.peers.cells.any (fun k => k.2.unretired.any mine || (k.1 ≠ node && k.2.waiting.any (fun u => mine u && decide (u.id < id))))

/-- May a packet be given its number now (R251, R261, R270)? `before` are packets of the node that still wait. -/
def State.maySend (s : State) (node : Nat) (u : Unretired) (before : List Unretired) : Bool :=
  let p := s.peer node
  (! isSequenced u.pkt.typ
    || (decide ((p.unretired.filter (fun x => isSequenced x.pkt.typ)).length < 16384) && decide (s.unretiredCount < 131072)))
  && (u.pkt.typ ≠ tyFencePkt || (! s.agentBusy node u.id u.agent u.pkt.p.agent && ! before.any (fun x => x.agent = u.agent)))
  && (! isPoolRequest u.pkt.typ
    || (decide (s.fabric.poolReqs.length < 65536)
        && ((s.usable u.pkt (limitVd u.vd) none = []) || (s.route u.pkt (limitVd u.vd) none).1.isSome)))

/-- R258: RESYNC sent to a node that has none since the cold reset. -/
def State.resyncFirst (s : State) (node : Nat) : State :=
  let p := s.peer node
  if p.synced then s
  else
    let next := s.reg .cnpsend node
    let k : Pkt := { typ := tyResync, p := { Packet.blank with
      dst := BitVec.ofNat 16 node, src := (s.reg .cnnode 0).extractLsb' 0 16, len := 1, payload := bytesLE 8 next.toNat } }
    let (id, s) := s.fresh
    let (c, s) := s.transmit k none
    s.setPeer node { p with synced := true, unretired := p.unretired ++ [⟨id, next, k, .firmware, 0x3F, 1, c.getD 24⟩] }

/-- A packet given its number and sent (R251, R257); without a route its agent is told NOROUTE (R262). -/
def State.launch (s : State) (node : Nat) (u : Unretired) : State :=
  if isSequenced u.pkt.typ then
    let s := s.resyncFirst node
    let seq := s.reg .cnpsend node
    let k := { u.pkt with p := { u.pkt.p with seq := seq.extractLsb' 0 32 } }
    match s.transmit k (limitVd u.vd) with
    | (none, s) => s.tell u .noroute
    | (some c, s) =>
      let s := s.setReg .cnpsend node (seq + 1)
      let p := s.peer node
      let s := s.setPeer node { p with unretired := p.unretired ++ [{ u with seq := seq, pkt := k, sends := 1, canal := c }] }
      if isPoolRequest k.typ then
        s.setFabric { s.fabric with poolReqs := s.fabric.poolReqs ++ [⟨node, seq, c, k.typ ≠ tyPstage, u.id⟩] }
      else s
  else
    match s.transmit u.pkt (limitVd u.vd) with
    | (none, s) => s.tell u .noroute
    | (some c, s) =>
      let p := s.peer node
      if u.pkt.typ = tyRead then s.setPeer node { p with unretired := p.unretired ++ [{ u with sends := 1, canal := c }] } else s

/-- The packets that wait for a node, each sent if it may be. -/
def State.pumpPeer (s : State) (node : Nat) : State :=
  let w := (s.peer node).waiting
  let (s, kept) := w.foldl
    (fun (a : State × List Unretired) u =>
      if a.1.maySend node u a.2 then (a.1.launch node u, a.2) else (a.1, a.2 ++ [u]))
    (s, [])
  let p := s.peer node
  s.setPeer node { p with waiting := kept }

/-- A packet injected by an agent of this module (R251, R257, R262): DST, SRC and TAG are filled in. -/
def State.inject (s : State) (id : Nat) (agent : Agent) (vd : Nat) (k : Pkt) : State :=
  let node := k.p.dst.toNat
  let k := { k with p := { k.p with
    src := (s.reg .cnnode 0).extractLsb' 0 16, len := BitVec.ofNat 7 (if k.typ = tyRead then k.p.len.toNat else k.p.payload.length / 8),
    tag := if vd < 63 then BitVec.ofNat 20 (s.fld .cnvdt vd 20 1) else k.p.tag } }
  let u : Unretired := ⟨id, k.p.seq.zeroExtend 64, k, agent, vd, 0, 24⟩
  if s.bit .cnpdown node 0 then s.tell u .down
  else
    let p := s.peer node
    (s.setPeer node { p with waiting := p.waiting ++ [u] }).pumpPeer node

/-- A packet that is not sequenced and that no one answers for: ACK, NAK, READ_RSP, PSTATUS. -/
def State.reply (s : State) (k : Pkt) : State :=
  let k := { k with p := { k.p with src := (s.reg .cnnode 0).extractLsb' 0 16, len := BitVec.ofNat 7 (k.p.payload.length / 8) } }
  (s.transmit k none).2

end Sys2Proof.Machine
end

