-- ==== Sys2Proof/Machine/Units.lean ====
section
/-! DEFINITION. Basins and memory units as they stand, and memory leaving a virtual device (R172, R301, R294): fills due, the release of channels,
segments, extents and carve-outs. -/

namespace Sys2Proof.Machine

/-- A basin as it stands, and the state with it changed; BRING shows its ring and landing queue (R158). -/
def State.basin (s : State) (c : Nat) : Basin := s.basins.get .reset c

/-- The landing-queue entries of 64 bytes that a reducing write takes (R131). -/
def landEntries (r : Req) : Nat :=
  match r.kind with
  | .reduce d => max 1 (ceilDiv (d.elems.length * d.fmt.bits) 512)
  | _ => 0

/-- The landing-queue entries of a basin in use. -/
def Basin.landed (b : Basin) : Nat := b.land.foldl (fun n r => n + landEntries r) 0

/-- R142, R407: the urgency wire after the landing queue has changed: raised at 384 entries, lowered below 256. -/
def Basin.urge (b : Basin) : Basin :=
  { b with urgent := if 384 ≤ b.landed then true else if b.landed < 256 then false else b.urgent }

def State.setBasin (s : State) (c : Nat) (b : Basin) : State :=
  let n := b.landed
  ({ s with basins := s.basins.set c b }.setFld .bring c 8 0 b.ring.length).setFld .bring c 25 16 n

/-- A fill due on a unit (R172, R182). A unit that is released while a fill of it is due or runs returns to reset at the end of that one. -/
def State.addFill (s : State) (u : Nat) (init : Bool) : State :=
  if s.fills.any (fun f => f.unit = u) then { s with fills := s.fills.map (fun f => if f.unit = u then { f with init := f.init && init } else f) }
  else { s with fills := s.fills ++ [⟨u, init⟩] }

/-- Is a fill of a unit due or running? -/
def State.filling (s : State) (u : Nat) : Bool := s.fills.any (fun f => f.unit = u)

/-- The tables of a basin whose channel leaves its virtual device are dropped. -/
def State.dropBasin (s : State) (c : Nat) : State :=
  let b := s.basin c
  s.setBasin c { Basin.reset with moored := b.moored, waking := b.waking }

/-- A unit by number: a channel, or 256 + a segment. -/
def State.unitState (s : State) (u : Nat) : Nat := if u < 256 then s.fld .chcfg u 1 0 else s.fld .fscfg (u - 256) 1 0
def State.unitVd (s : State) (u : Nat) : Nat := if u < 256 then s.fld .chcfg u 7 2 else s.fld .fscfg (u - 256) 7 2

/-- R172: a channel leaves: it belongs to the service virtual device at once, its release fill is due, and the fill returns CHCFG
and CHTOP. -/
def State.releaseChannel (s : State) (ch : Nat) : State :=
  ((((s.setFld .chcfg ch 1 0 0).setFld .chcfg ch 7 2 0x3F).setFld .chcfg ch 8 8 0).dropBasin ch).addFill ch false

/-- R172: a segment leaves. -/
def State.releaseSegment (s : State) (e : Nat) : State :=
  ((s.setFld .fscfg e 1 0 0).setFld .fscfg e 7 2 0x3F).addFill (256 + e) false

/-- The units of an extent that are channels. -/
def State.extentChannels (s : State) (x : Extent) : List Nat :=
  match x with
  | .channel ch => [ch]
  | .set slot => s.members slot
  | .segment _ => []

/-- An extent released; a window slot returns to its reset value (R173). -/
def State.releaseExtent (s : State) (x : Extent) : State :=
  match x with
  | .channel ch => s.releaseChannel ch
  | .segment e => s.releaseSegment e
  | .set slot => (((s.members slot).foldl State.releaseChannel s).rstReg .iset slot).rstReg .isetm slot

/-- The key of a carve-out is cleared as its last extent leaves (R172, R178, R411). -/
def State.clearKey (s : State) (key : Nat) : State :=
  if key = 0 then s else { s with sec := { s.sec with keys := s.sec.keys.erase key } }

/-- A carve-out released: its extents, its key slot, its place in the virtual device. -/
def State.releaseCarve (s : State) (v k : Nat) : State :=
  match (s.vd v).carves.find? k with
  | none => s
  | some c =>
    let s := (c.extents.foldl (fun s x => s.releaseExtent x.1) s).clearKey c.key
    s.setVd v { s.vd v with carves := (s.vd v).carves.erase k }

/-- Does a memory object still map a sealed carve-out (R294, R344)? -/
def State.carveMapped (s : State) (v k : Nat) : Bool :=
  s.objs.mems.live.cells.any (fun m => m.2.kind = 2 && m.2.ownerVd = v && m.2.carve = k)

/-- R294: the sealed carve-outs of a destroyed virtual device go with their last mapping, and then its number is free. -/
def State.tryDestroyed (s : State) (v : Nat) : State :=
  if s.vdState v ≠ 3 then s
  else
    let go := (s.vd v).carves.keys.filter (fun k => ! s.carveMapped v k)
    let s := go.foldl (fun s k => s.releaseCarve v k) s
    if (s.vd v).carves.cells = [] then s.rstReg .vdcfg v else s

end Sys2Proof.Machine
end

