-- ==== Sys2Proof/Machine/Handles.lean ====
section
/-! DEFINITION. Handles and reference counts of the object slots (R334 to R339): how a handle names a slot, taking and
freeing slots, holds (DREF), and the release of storage. -/

namespace Sys2Proof.Machine

/-- The object types by their codes (R334). -/
def tyCtx : Nat := 1
def tyQueue : Nat := 2
def tyMem : Nat := 3
def tyFence : Nat := 4
def tyEvent : Nat := 5

/-- R334: the slots of a type. -/
def slotCount (ty : Nat) : Nat :=
  match ty with
  | 1 => 256 | 2 => 4096 | 3 => 262144 | 4 => 16384 | 5 => 2048 | _ => 0

/-- R335: the handle of a slot. -/
def handleOf (ty gen idx : Nat) : BitVec 32 := BitVec.ofNat 32 (ty * 2 ^ 28 + gen * 2 ^ 18 + idx)
def handleType (h : BitVec 32) : Nat := bitsOf h.toNat 31 28
def handleGen (h : BitVec 32) : Nat := bitsOf h.toNat 27 18
def handleIndex (h : BitVec 32) : Nat := bitsOf h.toNat 17 0

/-- The head of a live slot. -/
def Objs.head? (o : Objs) (ty i : Nat) : Option Head :=
  match ty with
  | 1 => (o.ctxs.live.find? i).map (·.head)
  | 2 => (o.queues.live.find? i).map (·.head)
  | 3 => (o.mems.live.find? i).map (·.head)
  | 4 => (o.fences.live.find? i).map (·.head)
  | 5 => (o.events.live.find? i).map (·.head)
  | _ => none

/-- One entry of a slot table changed, where it is listed. -/
def Slots.upd {α : Type} (t : Slots α) (i : Nat) (f : α → α) : Slots α :=
  match t.live.find? i with
  | some x => { t with live := t.live.set i (f x) }
  | none => t

/-- The head of a slot changed. -/
def Objs.updHead (o : Objs) (ty i : Nat) (f : Head → Head) : Objs :=
  match ty with
  | 1 => { o with ctxs := o.ctxs.upd i (fun x => { x with head := f x.head }) }
  | 2 => { o with queues := o.queues.upd i (fun x => { x with head := f x.head }) }
  | 3 => { o with mems := o.mems.upd i (fun x => { x with head := f x.head }) }
  | 4 => { o with fences := o.fences.upd i (fun x => { x with head := f x.head }) }
  | 5 => { o with events := o.events.upd i (fun x => { x with head := f x.head }) }
  | _ => o

/-- A slot taken out of use: its storage is released (R338). -/
def Slots.drop {α : Type} (t : Slots α) (i : Nat) : Slots α := { t with live := t.live.erase i }

/-- A slot taken out of use, by type. -/
def Objs.dropSlot (o : Objs) (ty i : Nat) : Objs :=
  match ty with
  | 1 => { o with ctxs := o.ctxs.drop i }
  | 2 => { o with queues := o.queues.drop i }
  | 3 => { o with mems := o.mems.drop i }
  | 4 => { o with fences := o.fences.drop i }
  | 5 => { o with events := o.events.drop i }
  | _ => o

/-- The object of a slot freed: its generation rises, modulo 1,024, and the slot will be reused after those freed before it (R336). -/
def Slots.raise {α : Type} (t : Slots α) (i : Nat) : Slots α :=
  { t with gens := t.gens.set i ((t.gens.get 0 i + 1) % 1024), freed := t.freed ++ [i] }

/-- The generation of a slot raised, by type. -/
def Objs.raiseGen (o : Objs) (ty i : Nat) : Objs :=
  match ty with
  | 1 => { o with ctxs := o.ctxs.raise i }
  | 2 => { o with queues := o.queues.raise i }
  | 3 => { o with mems := o.mems.raise i }
  | 4 => { o with fences := o.fences.raise i }
  | 5 => { o with events := o.events.raise i }
  | _ => o

/-- A free slot: the lowest never used, else the oldest freed whose storage is released (R336; the first is the model's choice, log 19). -/
def Slots.take {α : Type} (t : Slots α) (limit : Nat) : Option (Nat × Slots α) :=
  if t.next < limit then some (t.next, { t with next := t.next + 1 })
  else (t.freed.find? (fun i => (t.live.find? i).isNone)).map (fun i => (i, { t with freed := t.freed.erase i }))

/-- A new object's head (R337). -/
def newHead (gen owner : Nat) : Head :=
  { gen := gen, href := 1, dref := 0, key := 0, owner := owner, imports := [], freed := false, farewell := [] }

/-- Is the object reachable by a context that `ok` admits (R335)? -/
def Head.reachable (h : Head) (ok : Nat → Bool) : Bool := ok h.owner || h.imports.any ok

/-- R335: the slot that a valid handle of a type names, for the contexts that `ok` admits. -/
def State.named (s : State) (ty : Nat) (h : BitVec 32) (ok : Nat → Bool) : Option Nat :=
  if handleType h ≠ ty then none
  else
    let i := handleIndex h
    match s.objs.head? ty i with
    | some x => if ! x.freed && x.gen = handleGen h && x.reachable ok then some i else none
    | none => none

/-- The state with its objects changed. -/
def State.setObjs (s : State) (o : Objs) : State := { s with objs := o }

/-- DREF up by one (R337). -/
def State.hold (s : State) (ty i : Nat) : State :=
  s.setObjs (s.objs.updHead ty i (fun h => { h with dref := h.dref + 1 }))

/-- Does a context own an object that is not yet released? -/
def Objs.ownsAny (o : Objs) (c : Nat) : Bool :=
  o.queues.live.cells.any (fun k => k.2.ctx = some c)
    || o.mems.live.cells.any (fun k => k.2.head.owner = c) || o.fences.live.cells.any (fun k => k.2.head.owner = c)
    || o.events.live.cells.any (fun k => k.2.head.owner = c)

/-- The slot of a context released once everything it owned is (R338), with its job count (R402). -/
def State.tryContext (s : State) (c : Nat) : State :=
  match s.objs.ctxs.live.find? c with
  | some x =>
    if x.head.freed && x.head.dref = 0 && ! s.objs.ownsAny c then
      (s.setObjs (s.objs.dropSlot tyCtx c)).setFld .scctx c 47 0 0
    else s
  | none => s

/-- The ring registers of a queue at their reset values. -/
def State.clearQueueRegs (s : State) (q : Nat) : State :=
  [RegName.qcbase, .qcfg, .qkbase, .qcprod, .qccons, .qdone, .qkprod, .qkcons, .qstat].foldl (fun s r => s.rstReg r q) s

/-- The signals that RELEASE asked for, sent as the storage is released (R344). -/
def State.farewell (s : State) (h : Head) : State :=
  h.farewell.foldl
    (fun s f =>
      let (id, s) := s.fresh
      s.setNet { s.net with signals := s.net.signals ++
        [{ id := id, agent := .firmware, vd := 0x3F, slot := f.1, gen := f.2.1, value := f.2.2, holds := false, deps := [] }] })
    s

/-- R338: the storage of an object released, if it is freed and nothing holds it. A queue with fetched commands keeps it, and then lets go
of its context. -/
def State.tryRelease (s : State) (ty i : Nat) : State :=
  match s.objs.head? ty i with
  | none => s
  | some h =>
    let busy : Bool := ty = tyQueue && (match s.objs.queues.live.find? i with | some o => o.cmds ≠ [] | none => false)
    if ! h.freed || h.dref ≠ 0 || busy then s
    else if ty = tyCtx then s.tryContext i
    else
      let ctx := if ty = tyQueue then ((s.objs.queues.live.find? i).bind (·.ctx)) else some h.owner
      let shared : Option Nat := if ty = tyMem then (s.objs.mems.live.find? i).bind (fun m => if m.kind = 2 then some m.ownerVd else none) else none
      let s := (s.setObjs (s.objs.dropSlot ty i)).farewell h
      let s := match shared with | some v => s.tryDestroyed v | none => s
      let s := if ty = tyQueue then s.clearQueueRegs i else s
      match ctx with
      | none => s
      | some c =>
        let s := if ty = tyQueue then s.setObjs (s.objs.updHead tyCtx c (fun h => { h with dref := h.dref - 1 })) else s
        s.tryContext c

/-- DREF down by one (R337); the storage goes when it was the last hold (R338). -/
def State.unhold (s : State) (ty i : Nat) : State :=
  (s.setObjs (s.objs.updHead ty i (fun h => { h with dref := h.dref - 1 }))).tryRelease ty i

/-- R338: the object freed: its generation rises at once, and its storage goes when nothing holds it. -/
def State.freeObj (s : State) (ty i : Nat) : State :=
  match s.objs.head? ty i with
  | some h =>
    if h.freed then s
    else (s.setObjs ((s.objs.updHead ty i (fun h => { h with freed := true })).raiseGen ty i)).tryRelease ty i
  | none => s

/-- The context of a queue, and the virtual device of a context. -/
def State.ctxOfQueue (s : State) (q : Nat) : Option Nat := (s.objs.queues.live.find? q).bind (·.ctx)
def State.vdOfCtx (s : State) (c : Nat) : Nat := ((s.objs.ctxs.live.find? c).map (·.vd)).getD 0x3F

end Sys2Proof.Machine
end

