-- ==== Sys2Proof/Machine/Fences.lean ====
section
/-! DEFINITION. Fences (R345 to R349, R534): error statuses, the effect of a signal, the release of waiters, mirrors,
notifications and forwards. -/

namespace Sys2Proof.Machine

/-- R345: an error status: KIND, CAUSE, and this node as ORIGIN. -/
def State.errStatus (s : State) (kind cause : Nat) : BitVec 32 :=
  BitVec.ofNat 32 (kind + cause % 256 * 2 ^ 8 + s.fld .cnnode 0 15 0 * 2 ^ 16)

/-- The KINDs of R345. -/
def kindAbandoned : Nat := 0x01
def kindSplit : Nat := 0x02
def kindReset : Nat := 0x03
def kindTimeout : Nat := 0x04
def kindFault : Nat := 0x05
def kindBasin : Nat := 0x06
def kindPool : Nat := 0x07
def kindBarge : Nat := 0x08
def kindCommand : Nat := 0x09
def kindCancelled : Nat := 0x0A

/-- R346: the value of an error signal with a status. -/
def errorValue (st : BitVec 32) : W64 := 0xFFFFFFFF00000000#64 ||| st.zeroExtend 64

/-- R346: is the value normal? -/
def normalValue (v : W64) : Bool := v.ult 0xFFFFFFFF00000000#64

/-- A fence as it stands. -/
def State.fence (s : State) (slot : Nat) : Option FenceObj := s.objs.fences.live.find? slot

/-- The state with a fence changed. -/
def State.setFence (s : State) (slot : Nat) (f : FenceObj) : State :=
  s.setObjs { s.objs with fences := { s.objs.fences with live := s.objs.fences.live.set slot f } }

/-- The function of a context. -/
def State.fnOfCtx (s : State) (c : Nat) : Nat := ((s.objs.ctxs.live.find? c).map (·.fn)).getD 0

/-- R348: the mirror written, status then value. -/
def State.mirrorFence (s : State) (f : FenceObj) : State :=
  if f.mirror = 0 then s
  else
    let port := s.fnOfCtx f.head.owner / 64
    (s.hostWrite port (f.mirror + 8) (bytesLE 8 f.status.toNat)).hostWrite port f.mirror (bytesLE 8 f.value.toNat)

/-- What a fence answers a waiter for `v`: 0 the value reached, the status of an error, none while it waits. -/
def FenceObj.answer (f : FenceObj) (v : W64) : Option W64 :=
  if f.status ≠ 0 then some (f.status.zeroExtend 64) else if v.ule f.value then some 0 else none

/-- R346: an error status releases the commands of queues and basins that wait on its fence, for good: FENCE_RESET does not make them wait again. -/
def State.releaseCommands (s : State) (slot : Nat) (f : FenceObj) : State :=
  let cmd (c : Cmd) : Cmd :=
    if c.checked && c.stage = .waiting && c.waitf = some (slot, f.head.gen) then { c with released := f.status } else c
  let head (h : BCmd) : BCmd := if h.checked && h.waitf = some slot then { h with released := true } else h
  let s := s.setObjs { s.objs with queues := { s.objs.queues with live :=
    ⟨s.objs.queues.live.cells.map (fun (k : Nat × QueueObj) => (k.1, { k.2 with cmds := k.2.cmds.map cmd }))⟩ } }
  { s with basins := ⟨s.basins.cells.map (fun (k : Nat × Basin) => (k.1, { k.2 with ring := k.2.ring.map head }))⟩ }

/-- R121, R346: the spires that wait on a fence receive its release. -/
def State.releaseWaiters (s : State) (slot : Nat) (f : FenceObj) : State :=
  let one (sp : Spire) : Spire :=
    match sp.wait with
    | .fwait i k g v early none =>
      if k = slot ∧ g = f.head.gen then { sp with wait := .fwait i k g v early (f.answer v) } else sp
    | _ => sp
  { s with spires := ⟨s.spires.cells.map (fun c => (c.1, one c.2))⟩ }

/-- R349: an armed notification fires: the event source counts, its mirror is written, MSI-X is sent. -/
def State.fireNotify (s : State) (n : Notify) : State :=
  match s.objs.events.live.find? n.event with
  | none => s
  | some e =>
    let e := { e with count := bumpCount e.count 1 }
    let s := s.setObjs { s.objs with events := { s.objs.events with live := s.objs.events.live.set n.event e } }
    let fn := s.fnOfCtx e.head.owner
    let s := if e.mirror = 0 then s else s.hostWrite (fn / 64) e.mirror (bytesLE 8 e.count.toNat)
    let s := s.sendMsix fn e.vec
    (s.unhold tyFence n.fence).unhold tyEvent n.event

/-- R349: the notifications whose condition a fence now meets. -/
def State.fireNotes (s : State) (slot : Nat) (f : FenceObj) : State :=
  let go := s.objs.notes.filter (fun n => n.fence = slot && (f.answer n.value).isSome)
  let stay := s.objs.notes.filter (fun n => ! (n.fence = slot && (f.answer n.value).isSome))
  go.foldl State.fireNotify (s.setObjs { s.objs with notes := stay })

/-- R347: one forward of an error status, by the gateway of the bank's tower. -/
def State.forward (s : State) (slot : Nat) (vd : Nat) (st : BitVec 32) (f : Nat × BitVec 32) : State :=
  let (id, s) := s.fresh
  let k : Pkt := { typ := tyFencePkt, p := { Packet.blank with
    dst := BitVec.ofNat 16 f.1, agent := BitVec.ofNat 11 (0x400 + fenceBank' slot), seq := 0,
    payload := bytesLE 4 f.2.toNat ++ bytesLE 4 0 ++ bytesLE 8 (errorValue st).toNat } }
  s.inject id .firmware vd k
where
  /-- the tower of the bank of a slot (R534) -/
  fenceBank' (slot : Nat) : Nat := slot % 16 / 8

/-- R347: the forwards of a fence whose status has become nonzero. -/
def State.forwards (s : State) (slot : Nat) (f : FenceObj) : State :=
  f.fwd.cells.foldl (fun s c => s.forward slot (s.vdOfCtx f.head.owner) f.status c.2) s

/-- A fence changed by a signal: mirror, waiters, notifications, and forwards of a new error. -/
def State.changeFence (s : State) (slot : Nat) (f : FenceObj) (isError : Bool) : State :=
  let s := ((s.setFence slot f).mirrorFence f).releaseWaiters slot f
  let s := if isError then (s.releaseCommands slot f).forwards slot f else s
  s.fireNotes slot f

/-- What the bank answers a signal (R534): applied, fence freed, or FENCE_ORDER. -/
inductive SigResult where
  | applied | freed | order
deriving DecidableEq, Repr

/-- R346: a signal applied to the fence that slot and generation name; `holds` tells whether the signaller still holds the
storage of a freed fence. -/
def State.applySignal (s : State) (slot gen : Nat) (v : W64) (holds : Bool) : SigResult × State :=
  match s.fence slot with
  | none => (.freed, s)
  | some f =>
    if f.head.gen ≠ gen || (f.head.freed && ! holds) then (.freed, s)
    else if f.status ≠ 0 then (.applied, s)
    else if normalValue v then
      if v.ult f.value then (.order, s)
      else if v = f.value then (.applied, s)
      else (.applied, s.changeFence slot { f with value := v } false)
    else if v.extractLsb' 0 8 = 0 then (.order, s)
    else (.applied, s.changeFence slot { f with status := v.extractLsb' 0 32 } true)

/-- A signal on its way to the bank of a fence, with nothing to wait for. -/
def State.sendSignal (s : State) (agent : Agent) (vd slot gen : Nat) (v : W64) (holds : Bool) : State :=
  let (id, s) := s.fresh
  s.setNet { s.net with signals := s.net.signals ++
    [{ id := id, agent := agent, vd := vd, slot := slot, gen := gen, value := v, holds := holds, deps := [] }] }

end Sys2Proof.Machine
end

