-- ==== Sys2Proof/Machine/Encode.lean ====
section
/-! DEFINITION. The 128-bit words of spire instructions (R91 to R98): the fields of formats S, M, V and X in their places, and
the instruction that a word spells. VEXPR takes a second word (R91, R96). -/

namespace Sys2Proof

/-- R94: a format S instruction. -/
def FmtS.word (f : FmtS) (opc : BitVec 8) : W128 :=
  f.imm ++ f.rsv ++ f.aux ++ f.x ++ f.im ++ f.sz ++ f.pd ++ f.rm ++ f.rs3 ++ f.rs2 ++ f.rs1 ++ f.rd ++ f.gn ++ f.gp ++ opc

/-- R94 read back. -/
def FmtS.ofWord (w : W128) : FmtS :=
  { gp := w.extractLsb' 8 3, gn := w.extractLsb' 11 1, rd := w.extractLsb' 12 5, rs1 := w.extractLsb' 17 5,
    rs2 := w.extractLsb' 22 5, rs3 := w.extractLsb' 27 5, rm := w.extractLsb' 32 3, pd := w.extractLsb' 35 3,
    sz := w.extractLsb' 38 2, im := w.extractLsb' 40 1, x := w.extractLsb' 41 1, aux := w.extractLsb' 42 6,
    rsv := w.extractLsb' 48 16, imm := w.extractLsb' 64 64 }

/-- R95: MMA. -/
def FmtM.word (f : FmtM) (opc : BitVec 8) : W128 :=
  f.rsv ++ f.frame ++ f.ki ++ f.ks ++ f.tp ++ f.tb ++ f.ta ++ f.init ++ f.acc ++ f.gn ++ f.gp ++ opc

/-- R95 read back. -/
def FmtM.ofWord (w : W128) : FmtM :=
  { gp := w.extractLsb' 8 3, gn := w.extractLsb' 11 1, acc := w.extractLsb' 12 1, init := w.extractLsb' 13 2,
    ta := w.extractLsb' 15 4, tb := w.extractLsb' 19 4, tp := w.extractLsb' 23 4, ks := w.extractLsb' 27 5,
    ki := w.extractLsb' 32 16, frame := w.extractLsb' 48 10, rsv := w.extractLsb' 58 70 }

/-- R96: slot 0 of VEXPR. -/
def FmtV.word0 (f : FmtV) (opc : BitVec 8) : W128 :=
  f.rsv ++ f.wframe ++ f.noout ++ f.tr ++ f.red ++ f.rm ++ f.str ++ f.sc3 ++ f.sc2 ++ f.sc1 ++ f.sc0 ++ f.in2 ++ f.in1 ++ f.in0
    ++ f.td ++ f.gn ++ f.gp ++ opc

/-- R96: slot 1 of VEXPR. -/
def FmtV.word1 (f : FmtV) : W128 := f.stages ++ f.ext

/-- R96 read back. -/
def FmtV.ofWords (w w1 : W128) : FmtV :=
  { gp := w.extractLsb' 8 3, gn := w.extractLsb' 11 1, td := w.extractLsb' 12 4, in0 := w.extractLsb' 16 5,
    in1 := w.extractLsb' 21 5, in2 := w.extractLsb' 26 5, sc0 := w.extractLsb' 31 5, sc1 := w.extractLsb' 36 5,
    sc2 := w.extractLsb' 41 5, sc3 := w.extractLsb' 46 5, str := w.extractLsb' 51 5, rm := w.extractLsb' 56 3,
    red := w.extractLsb' 59 2, tr := w.extractLsb' 61 4, noout := w.extractLsb' 65 1, wframe := w.extractLsb' 66 10,
    rsv := w.extractLsb' 76 52, ext := w1.extractLsb' 0 8, stages := w1.extractLsb' 8 120 }

/-- R97: TMOVE and VGATHER. -/
def FmtX.word (f : FmtX) (opc : BitVec 8) : W128 :=
  f.rsv ++ f.grp ++ f.frame ++ f.red ++ f.fin ++ f.pan ++ f.sc ++ f.rb ++ f.ti ++ f.ts ++ f.td ++ f.gn ++ f.gp ++ opc

/-- R97 read back. -/
def FmtX.ofWord (w : W128) : FmtX :=
  { gp := w.extractLsb' 8 3, gn := w.extractLsb' 11 1, td := w.extractLsb' 12 4, ts := w.extractLsb' 16 4,
    ti := w.extractLsb' 20 4, rb := w.extractLsb' 24 5, sc := w.extractLsb' 29 1, pan := w.extractLsb' 30 1,
    fin := w.extractLsb' 31 1, red := w.extractLsb' 32 2, frame := w.extractLsb' 34 10, grp := w.extractLsb' 44 12,
    rsv := w.extractLsb' 56 72 }

/-- The spire that a command issues its instruction on; none for every other command. -/
def Instr.onSpire : Instr → Option Sp
  | .add sp _ => some sp
  | .sub sp _ => some sp
  | .andS sp _ => some sp
  | .orS sp _ => some sp
  | .xor sp _ => some sp
  | .sll sp _ => some sp
  | .srl sp _ => some sp
  | .sra sp _ => some sp
  | .minS sp _ => some sp
  | .maxS sp _ => some sp
  | .minu sp _ => some sp
  | .maxu sp _ => some sp
  | .mul sp _ => some sp
  | .mulh sp _ => some sp
  | .mulhu sp _ => some sp
  | .sel sp _ => some sp
  | .div sp _ => some sp
  | .divu sp _ => some sp
  | .rem sp _ => some sp
  | .remu sp _ => some sp
  | .cmp sp _ => some sp
  | .plog sp _ => some sp
  | .pmov sp _ => some sp
  | .fadd sp _ => some sp
  | .fsub sp _ => some sp
  | .fmul sp _ => some sp
  | .ffma sp _ => some sp
  | .fmin sp _ => some sp
  | .fmax sp _ => some sp
  | .fcmp sp _ => some sp
  | .fcvt sp _ => some sp
  | .ld sp _ => some sp
  | .st sp _ => some sp
  | .lda sp _ => some sp
  | .cinv sp _ => some sp
  | .fset sp _ => some sp
  | .br sp _ => some sp
  | .jal sp _ => some sp
  | .tdr sp _ => some sp
  | .tdw sp _ => some sp
  | .csrr sp _ => some sp
  | .csrw sp _ => some sp
  | .aget sp _ => some sp
  | .aput sp _ => some sp
  | .vexpr sp _ => some sp
  | .mma sp _ => some sp
  | .tmove sp _ => some sp
  | .vgather sp _ => some sp
  | .bcmd sp _ => some sp
  | .twait sp _ => some sp
  | .waitf sp _ => some sp
  | .fsignal sp _ => some sp
  | .fwait sp _ => some sp
  | .bar sp _ => some sp
  | .phase sp _ => some sp
  | .epoch sp _ => some sp
  | .nop sp _ => some sp
  | .eok sp _ => some sp
  | .brk sp _ => some sp
  | .ext sp => some sp
  | _ => none

/-- R98: the words of the instruction that a command issues: slot 0, and slot 1 of a double instruction (0 otherwise). -/
def encodeSpire : Instr → Option (W128 × W128)
  | .add _ f => some (f.word 0x00#8, 0)
  | .sub _ f => some (f.word 0x01#8, 0)
  | .andS _ f => some (f.word 0x02#8, 0)
  | .orS _ f => some (f.word 0x03#8, 0)
  | .xor _ f => some (f.word 0x04#8, 0)
  | .sll _ f => some (f.word 0x05#8, 0)
  | .srl _ f => some (f.word 0x06#8, 0)
  | .sra _ f => some (f.word 0x07#8, 0)
  | .minS _ f => some (f.word 0x08#8, 0)
  | .maxS _ f => some (f.word 0x09#8, 0)
  | .minu _ f => some (f.word 0x0A#8, 0)
  | .maxu _ f => some (f.word 0x0B#8, 0)
  | .mul _ f => some (f.word 0x0C#8, 0)
  | .mulh _ f => some (f.word 0x0D#8, 0)
  | .mulhu _ f => some (f.word 0x0E#8, 0)
  | .sel _ f => some (f.word 0x0F#8, 0)
  | .div _ f => some (f.word 0x10#8, 0)
  | .divu _ f => some (f.word 0x11#8, 0)
  | .rem _ f => some (f.word 0x12#8, 0)
  | .remu _ f => some (f.word 0x13#8, 0)
  | .cmp _ f => some (f.word 0x14#8, 0)
  | .plog _ f => some (f.word 0x15#8, 0)
  | .pmov _ f => some (f.word 0x16#8, 0)
  | .fadd _ f => some (f.word 0x20#8, 0)
  | .fsub _ f => some (f.word 0x21#8, 0)
  | .fmul _ f => some (f.word 0x22#8, 0)
  | .ffma _ f => some (f.word 0x23#8, 0)
  | .fmin _ f => some (f.word 0x24#8, 0)
  | .fmax _ f => some (f.word 0x25#8, 0)
  | .fcmp _ f => some (f.word 0x26#8, 0)
  | .fcvt _ f => some (f.word 0x27#8, 0)
  | .ld _ f => some (f.word 0x30#8, 0)
  | .st _ f => some (f.word 0x31#8, 0)
  | .lda _ f => some (f.word 0x32#8, 0)
  | .cinv _ f => some (f.word 0x33#8, 0)
  | .fset _ f => some (f.word 0x34#8, 0)
  | .br _ f => some (f.word 0x40#8, 0)
  | .jal _ f => some (f.word 0x41#8, 0)
  | .tdr _ f => some (f.word 0x50#8, 0)
  | .tdw _ f => some (f.word 0x51#8, 0)
  | .csrr _ f => some (f.word 0x52#8, 0)
  | .csrw _ f => some (f.word 0x53#8, 0)
  | .aget _ f => some (f.word 0x54#8, 0)
  | .aput _ f => some (f.word 0x55#8, 0)
  | .vexpr _ f => some (f.word0 0x60#8, f.word1)
  | .mma _ f => some (f.word 0x70#8, 0)
  | .tmove _ f => some (f.word 0x80#8, 0)
  | .vgather _ f => some (f.word 0x81#8, 0)
  | .bcmd _ f => some (f.word 0x82#8, 0)
  | .twait _ f => some (f.word 0x90#8, 0)
  | .waitf _ f => some (f.word 0x91#8, 0)
  | .fsignal _ f => some (f.word 0x92#8, 0)
  | .fwait _ f => some (f.word 0x93#8, 0)
  | .bar _ f => some (f.word 0x94#8, 0)
  | .phase _ f => some (f.word 0xA0#8, 0)
  | .epoch _ f => some (f.word 0xA1#8, 0)
  | .nop _ f => some (f.word 0xF0#8, 0)
  | .eok _ f => some (f.word 0xF1#8, 0)
  | .brk _ f => some (f.word 0xF2#8, 0)
  | .ext _ => some (0xFF#128, 0)
  | _ => none

/-- R98: the command that spire `sp` executes for an instruction word and the word after it. An opcode that is not in the table raises ILLEGAL at issue
(R93), and so does EXT: that effect is the command EXT's. -/
def decodeSpire (sp : Sp) (w w1 : W128) : Option Instr :=
  match (w.extractLsb' 0 8).toNat with
  | 0x00 => some (.add sp (FmtS.ofWord w))
  | 0x01 => some (.sub sp (FmtS.ofWord w))
  | 0x02 => some (.andS sp (FmtS.ofWord w))
  | 0x03 => some (.orS sp (FmtS.ofWord w))
  | 0x04 => some (.xor sp (FmtS.ofWord w))
  | 0x05 => some (.sll sp (FmtS.ofWord w))
  | 0x06 => some (.srl sp (FmtS.ofWord w))
  | 0x07 => some (.sra sp (FmtS.ofWord w))
  | 0x08 => some (.minS sp (FmtS.ofWord w))
  | 0x09 => some (.maxS sp (FmtS.ofWord w))
  | 0x0A => some (.minu sp (FmtS.ofWord w))
  | 0x0B => some (.maxu sp (FmtS.ofWord w))
  | 0x0C => some (.mul sp (FmtS.ofWord w))
  | 0x0D => some (.mulh sp (FmtS.ofWord w))
  | 0x0E => some (.mulhu sp (FmtS.ofWord w))
  | 0x0F => some (.sel sp (FmtS.ofWord w))
  | 0x10 => some (.div sp (FmtS.ofWord w))
  | 0x11 => some (.divu sp (FmtS.ofWord w))
  | 0x12 => some (.rem sp (FmtS.ofWord w))
  | 0x13 => some (.remu sp (FmtS.ofWord w))
  | 0x14 => some (.cmp sp (FmtS.ofWord w))
  | 0x15 => some (.plog sp (FmtS.ofWord w))
  | 0x16 => some (.pmov sp (FmtS.ofWord w))
  | 0x20 => some (.fadd sp (FmtS.ofWord w))
  | 0x21 => some (.fsub sp (FmtS.ofWord w))
  | 0x22 => some (.fmul sp (FmtS.ofWord w))
  | 0x23 => some (.ffma sp (FmtS.ofWord w))
  | 0x24 => some (.fmin sp (FmtS.ofWord w))
  | 0x25 => some (.fmax sp (FmtS.ofWord w))
  | 0x26 => some (.fcmp sp (FmtS.ofWord w))
  | 0x27 => some (.fcvt sp (FmtS.ofWord w))
  | 0x30 => some (.ld sp (FmtS.ofWord w))
  | 0x31 => some (.st sp (FmtS.ofWord w))
  | 0x32 => some (.lda sp (FmtS.ofWord w))
  | 0x33 => some (.cinv sp (FmtS.ofWord w))
  | 0x34 => some (.fset sp (FmtS.ofWord w))
  | 0x40 => some (.br sp (FmtS.ofWord w))
  | 0x41 => some (.jal sp (FmtS.ofWord w))
  | 0x50 => some (.tdr sp (FmtS.ofWord w))
  | 0x51 => some (.tdw sp (FmtS.ofWord w))
  | 0x52 => some (.csrr sp (FmtS.ofWord w))
  | 0x53 => some (.csrw sp (FmtS.ofWord w))
  | 0x54 => some (.aget sp (FmtS.ofWord w))
  | 0x55 => some (.aput sp (FmtS.ofWord w))
  | 0x60 => some (.vexpr sp (FmtV.ofWords w w1))
  | 0x70 => some (.mma sp (FmtM.ofWord w))
  | 0x80 => some (.tmove sp (FmtX.ofWord w))
  | 0x81 => some (.vgather sp (FmtX.ofWord w))
  | 0x82 => some (.bcmd sp (FmtS.ofWord w))
  | 0x90 => some (.twait sp (FmtS.ofWord w))
  | 0x91 => some (.waitf sp (FmtS.ofWord w))
  | 0x92 => some (.fsignal sp (FmtS.ofWord w))
  | 0x93 => some (.fwait sp (FmtS.ofWord w))
  | 0x94 => some (.bar sp (FmtS.ofWord w))
  | 0xA0 => some (.phase sp (FmtS.ofWord w))
  | 0xA1 => some (.epoch sp (FmtS.ofWord w))
  | 0xF0 => some (.nop sp (FmtS.ofWord w))
  | 0xF1 => some (.eok sp (FmtS.ofWord w))
  | 0xF2 => some (.brk sp (FmtS.ofWord w))
  | _ => some (.ext sp)

end Sys2Proof
end

