-- ==== Sys2Proof/Machine/Record.lean ====
section
/-! DEFINITION. Blocks of device memory as named by a virtual device, and the save record of a spire (R57, R58). -/

namespace Sys2Proof.Machine

/-! ## Blocks (64-byte aligned, through windows and relocations) -/

/-- The 2,048-byte pieces of a block of device memory, each contiguous behind one port (R169). -/
def pieces (a n : Nat) : List (Nat × Nat) := cutFrom 2048 (n / 2048 + 2) a n

/-- A block of device memory, as a virtual device names it, filled from a memory; bytes and poison. A piece outside its
ranges keeps what it holds. -/
def State.putBlock (s : State) (v a n : Nat) (src : Memory) (pois : Tab Unit) : State :=
  (pieces a n).foldl
    (fun s pc =>
      match s.rangeCheck v pc.1 true with
      | .at p =>
        let off := pc.1 - a
        { s with
          dev := s.dev.splice p pc.2 src off,
          devPoison := s.devPoison.splice (p / 64) (pc.2 / 64) pois (off / 64) }.bumpVersions p pc.2
      | _ => s)
    s

/-- A block of device memory, as a virtual device names it, read into a memory from address 0. -/
def State.getBlock (s : State) (v a n : Nat) : Memory × Tab Unit :=
  (pieces a n).foldl
    (fun (r : Memory × Tab Unit) pc =>
      match s.readAt v pc.1 with
      | some p =>
        let off := pc.1 - a
        (r.1.splice off pc.2 s.dev p, r.2.splice (off / 64) (pc.2 / 64) s.devPoison (p / 64))
      | none => r)
    (.zero, .empty)

/-- Does a whole range lie in the ranges of a virtual device? -/
def State.blockIn (s : State) (v a n : Nat) (write : Bool) : Bool :=
  (pieces a n).all (fun pc =>
    let last := pc.1 + pc.2 - 1
    (match s.rangeCheck v pc.1 write with | .at _ => true | _ => false)
      && (match s.rangeCheck v last write with | .at _ => true | _ => false))

/-! ## The save record -/

/-- The bytes of a save record and of a save slot (R57, R299). -/
def recordBytes : Nat := 4259840
def slotBytes : Nat := 0x410000

/-- The code of an accumulator class (R57). -/
def AccClass.code : AccClass → Nat
  | .none => 0 | .wide => 1 | .fp32 => 2

/-- The class of a code. -/
def AccClass.ofCode : Nat → AccClass
  | 1 => .wide | 2 => .fp32 | _ => .none

/-- The words of a queued instruction (R98). -/
def TileOp.words : TileOp → W128 × W128
  | .vexpr f => (f.word0 0x60#8, f.word1)
  | .mma f => (f.word 0x70#8, 0)
  | .tmove f => (f.word 0x80#8, 0)
  | .vgather f => (f.word 0x81#8, 0)
  | .bcmd f => (f.word 0x82#8, 0)
  | .fsignal f => (f.word 0x92#8, 0)

/-- The queued instruction that two words spell. -/
def TileOp.ofWords (w w1 : W128) : Option TileOp :=
  match (w.extractLsb' 0 8).toNat with
  | 0x60 => some (.vexpr (FmtV.ofWords w w1))
  | 0x70 => some (.mma (FmtM.ofWord w))
  | 0x80 => some (.tmove (FmtX.ofWord w))
  | 0x81 => some (.vgather (FmtX.ofWord w))
  | 0x82 => some (.bcmd (FmtS.ofWord w))
  | 0x92 => some (.fsignal (FmtS.ofWord w))
  | _ => none

/-- The 24 bytes of a descriptor. -/
def TDesc.bytes (d : TDesc) : List Byte := bytesLE 8 d.d0.toNat ++ bytesLE 8 d.d1.toNat ++ bytesLE 8 d.d2.toNat

/-- The first 248 bytes of a queue slot (R57). -/
def QEntry.slotBytes (e : QEntry) : List Byte :=
  bytesLE 16 e.op.words.1.toNat ++ bytesLE 16 e.op.words.2.toNat ++ e.descs.flatMap TDesc.bytes

/-- The queue slots of one queue written from an offset. -/
def writeSlots (m : Memory) (off : Nat) (q : List QEntry) : Memory :=
  q.zipIdx.foldl (fun m ei => m.writeN (off + 256 * ei.2) ei.1.slotBytes) m

/-- The entries of an accumulator written from an offset, 16 bytes each; bits 127:32 of the FP32 class are zero (R43). -/
def Accum.dump (a : Accum) (m : Memory) (off : Nat) : Memory :=
  a.entries.cells.foldl (fun m c => m.writeLE (off + 16 * c.1) 16 (if a.cls = .fp32 then c.2.toNat % 2 ^ 32 else c.2.toNat)) m

/-- R57: the save record of a spire, for a generation of its virtual device. -/
def Spire.record (sp : Spire) (gen : W64) (faulted : Bool) : Memory :=
  let m := Memory.zero.writeN 0
    (bytesLE 2 0x0001 ++ [0, 0] ++ bytesLE 1 sp.rident ++ bytesLE 1 sp.vdid ++ [0, 0] ++ bytesLE 8 gen.toNat
      ++ bytesLE 4 sp.pc ++ bytesLE 4 (if faulted then 1 else 0))
  let m := sp.regs.cells.foldl (fun m c => m.writeLE (0x40 + 8 * c.1) 8 c.2.toNat) m
  let m := m.write 0x140 1
  let m := sp.preds.cells.foldl (fun m c => m.write (0x140 + c.1) 1) m
  let m := sp.tds.cells.foldl (fun m c => m.writeN (0x180 + 24 * c.1) c.2.bytes) m
  let m := m.writeN 0x300
    (bytesLE 8 sp.seed.toNat ++ bytesLE 8 sp.cls ++ bytesLE 8 sp.codeBase ++ bytesLE 8 sp.codeLen
      ++ bytesLE 8 sp.astatus.toNat ++ bytesLE 8 sp.pcnum)
  let m := (upFrom 0 8).foldl
    (fun m k => (m.writeLE (0x340 + 16 * k) 8 (sp.pcval.get 0 k).toNat).writeLE (0x348 + 16 * k) 8 (sp.pcsel.get 0 k).toNat) m
  let m := m.writeN 0x3C0
    (bytesLE 2 sp.a0.cls.code ++ bytesLE 2 (ofSigned 16 sp.a0.frame) ++ bytesLE 2 sp.a1.cls.code
      ++ bytesLE 2 (ofSigned 16 sp.a1.frame))
  let m := sp.a1.dump (sp.a0.dump m 0x400) 0x4400
  let m := writeSlots (writeSlots (writeSlots m 0x8400 sp.mq) 0x9400 sp.vq) 0xA400 sp.tq
  m.splice 0x10000 spadSize sp.spad 0
where
  /-- the scratchpad's size (R22) -/
  spadSize : Nat := 0x400000

/-- What the record leaves out of its queue slots (log 40). -/
def Spire.queuedSides (sp : Spire) : List (Nat × Nat × List W64) :=
  (sp.mq ++ sp.vq ++ sp.tq).map (fun e => (e.seq, e.pc, e.vals))

/-- A descriptor read from a memory. -/
def Memory.readDesc (m : Memory) (a : Nat) : TDesc :=
  ⟨BitVec.ofNat 64 (m.readLE a 8), BitVec.ofNat 64 (m.readLE (a + 8) 8), BitVec.ofNat 64 (m.readLE (a + 16) 8)⟩

/-- The descriptors that an instruction captures (R57): those it names, then scale tiles. -/
def capturedCount (op : TileOp) (named : List TDesc) : Nat :=
  match op with
  | .bcmd _ => 0
  | .fsignal _ => 0
  | _ => named.length + (named.filter (fun d => d.d2.getLsbD 8)).length

/-- How many descriptors an instruction names (R57). -/
def TileOp.named : TileOp → Nat
  | .mma f => if f.init = 2 then 3 else 2
  | .vexpr f => 1 + ([f.in0, f.in1, f.in2].filter (fun c => decide (c.toNat < 16))).length + (if f.red = 0 then 0 else 1)
  | .tmove _ => 2
  | .vgather _ => 2
  | _ => 0

/-- The entries of one queue read back from its slots (R58). `sides` supplies place, PC and register values. -/
def readSlots (m : Memory) (sides : Nat → Nat × Nat × List W64) : Nat → Nat → Nat → List QEntry
  | 0, _, _ => []
  | fuel + 1, off, k =>
    match TileOp.ofWords (BitVec.ofNat 128 (m.readLE off 16)) (BitVec.ofNat 128 (m.readLE (off + 16) 16)) with
    | none => []
    | some op =>
      let named := (upFrom 0 op.named).map (fun i => m.readDesc (off + 32 + 24 * i))
      let descs := (upFrom 0 (capturedCount op named)).map (fun i => m.readDesc (off + 32 + 24 * i))
      let (seq, pc, vals) := sides k
      { seq := seq, pc := pc, op := op, descs := descs, vals := vals, started := false, snap := .zero, snapPoison := .empty,
        late := [], met := [], acc := [], waiting := [], got := [], wrote := 0, err := none }
        :: readSlots m sides fuel (off + 256) (k + 1)

/-- A sparse table of the nonzero numbers of a rising list of keys. -/
def numTable (n : Nat) (f : Nat → Nat) : Tab W64 :=
  ⟨(upFrom 0 n).filterMap (fun i => if f i = 0 then none else some (i, BitVec.ofNat 64 (f i)))⟩

/-- R58: an accumulator read back. -/
def readAcc (m : Memory) (off cls frame : Nat) : Accum :=
  { cls := AccClass.ofCode cls, frame := toSigned 16 frame,
    entries := ⟨(upFrom 0 1024).filterMap (fun i =>
      let v := m.readLE (off + 16 * i) 16
      if v = 0 then none else some (i, BitVec.ofNat 128 v))⟩,
    poison := .empty }

/-- R58: a spire after a record has been loaded into it, in the virtual device `v`; issue resumes at PC. -/
def Spire.load (sp : Spire) (m : Memory) (pois : Tab Unit) (v : Nat) (sides : Nat → Nat × Nat × List W64) (seq : Nat) : Spire :=
  let mq := readSlots m sides 16 0x8400 0
  let vq := readSlots m sides 16 0x9400 mq.length
  let tq := readSlots m sides 16 0xA400 (mq.length + vq.length)
  { sp with
    regs := numTable 32 (fun i => if i = 0 then 0 else m.readLE (0x40 + 8 * i) 8),
    preds := ⟨(upFrom 1 7).filterMap (fun i => if m.read (0x140 + i) = 0 then none else some (i, ()))⟩,
    tds := ⟨(upFrom 0 16).filterMap (fun i =>
      let d := m.readDesc (0x180 + 24 * i)
      if d = default then none else some (i, d))⟩,
    a0 := readAcc m 0x400 (m.readLE 0x3C0 1) (m.readLE 0x3C2 2), a1 := readAcc m 0x4400 (m.readLE 0x3C4 1) (m.readLE 0x3C6 2),
    rident := m.readLE 4 1, seed := BitVec.ofNat 64 (m.readLE 0x300 8), cls := m.readLE 0x308 8 % 8,
    codeBase := m.readLE 0x310 8, codeLen := m.readLE 0x318 8, astatus := BitVec.ofNat 9 (m.readLE 0x320 8),
    pcnum := m.readLE 0x328 8 % 8, pcval := numTable 8 (fun k => m.readLE (0x340 + 16 * k) 8),
    pcsel := numTable 8 (fun k => m.readLE (0x348 + 16 * k) 8 % 256),
    pc := m.readLE 16 4, vdid := v, mq := mq, vq := vq, tq := tq, cache := .empty,
    spad := Memory.zero.splice 0 0x400000 m 0x10000, poison := Tab.empty.splice 0 0x10000 pois 0x400, wait := .none,
    fault := none, loads := [], stores := [], run := .running, seq := seq }

end Sys2Proof.Machine
end

