-- ==== Sys2Proof/Machine/Kernels.lean ====
section
/-! DEFINITION. Kernels on spires (R25, R56 to R59, R296, R297, R394 to R397): the end of a command's work, starting and
restoring kernels on free spires, the kernel boundary, pre-emption, spires leaving a virtual device. -/

namespace Sys2Proof.Machine

/-! ## Commands -/

/-- A queue changed, where it is live. -/
def State.updQueue (s : State) (q : Nat) (f : QueueObj → QueueObj) : State :=
  s.setObjs { s.objs with queues := s.objs.queues.upd q f }

/-- A fetched command changed. -/
def State.updCmd (s : State) (q : Nat) (seq : W64) (f : Cmd → Cmd) : State :=
  s.updQueue q (fun o => { o with cmds := o.cmds.map (fun c => if c.seq = seq then f c else c) })

/-- A command's work has ended, once: it retires in its turn (R320). -/
def State.finishCmd (s : State) (q : Nat) (seq : W64) (d : Done) : State :=
  s.updCmd q seq (fun c => match c.stage with | .done _ | .signalling _ _ => c | _ => { c with stage := .done d })

/-- OK with a VALUE. -/
def Done.ok (v : W64 := 0) (h : BitVec 32 := 0) : Done := ⟨0, h, v, 0⟩

/-- A status, with the error status of its command's source (R347). -/
def State.failed (s : State) (status kind : Nat) (v : W64 := 0) : Done := ⟨status, 0, v, s.errStatus kind status⟩

/-! ## Instances (R394, R395) -/

/-- The DISPATCH of a kernel. -/
def State.dispatchOf (s : State) (k : Kernel) : Option Dispatch :=
  s.dispatches.find? (fun d => d.queue = k.queue && d.cseq = k.cseq)

/-- Has a DISPATCH no more to do (R395)? -/
def Dispatch.finished (d : Dispatch) : Bool := if d.fault.isSome || d.aborted then d.ended = d.next else d.ended = d.n

/-- The outcome of a DISPATCH (R395). -/
def State.dispatchDone (s : State) (d : Dispatch) : Done :=
  if d.aborted then ⟨0x0D, 0, 0, s.errStatus kindReset 0⟩
  else match d.fault with
  | none => Done.ok
  | some (i, cause, sp) => ⟨0x15, 0, BitVec.ofNat 64 (i + cause * 2 ^ 32 + sp * 2 ^ 40), s.errStatus kindFault cause⟩

/-- The DISPATCHes that have no more to do end. -/
def State.closeDispatches (s : State) : State :=
  let gone := s.dispatches.filter Dispatch.finished
  gone.foldl (fun s d => s.finishCmd d.queue d.cseq (s.dispatchDone d)) { s with dispatches := s.dispatches.filter (fun d => ! d.finished) }

/-- An instance has ended, every store it made acknowledged; a faulting one is noted, lowest index first (R395). -/
def State.instanceEnded (s : State) (k : Kernel) (sp : Nat) (fault : Option Nat) : State :=
  let upd (d : Dispatch) : Dispatch :=
    if d.queue = k.queue ∧ d.cseq = k.cseq then
      { d with
        ended := d.ended + 1,
        fault := match fault, d.fault with
          | some c, none => some (k.inst, c, sp)
          | some c, some (i, c', sp') => if k.inst < i then some (k.inst, c, sp) else some (i, c', sp')
          | none, f => f }
    else d
  { s with dispatches := s.dispatches.map upd }.closeDispatches

/-- An instance leaves its spire: it ends now, or when its last store is acknowledged. -/
def State.instanceLeaves (s : State) (n : Nat) (k : Kernel) (fault : Option Nat) : State :=
  let ids := (s.spire n).stores.map (·.id)
  let s := s.setSpire n { s.spire n with stores := [] }
  if ids = [] then s.instanceEnded k n fault
  else
    -- a faulting instance lets no further instance start from now on (R395)
    let note (d : Dispatch) : Dispatch :=
      if fault.isSome ∧ d.fault.isNone ∧ d.queue = k.queue ∧ d.cseq = k.cseq then { d with fault := some (k.inst, fault.getD 0, n) } else d
    { s with tails := s.tails ++ [⟨n, k, ids, fault⟩], dispatches := s.dispatches.map note }

/-! ## Leaving (R297, R59) -/

/-- R59: the spire zeroed, with its virtual device, and what is not part of the registers, kept. -/
def Spire.zeroed (sp : Spire) (n : Nat) : Spire :=
  { Spire.reset n with
    vdid := sp.vdid, moored := sp.moored, waking := sp.waking, errors := sp.errors, retired := sp.retired, spare := sp.spare }

/-- The canals that a virtual device's slices hold (R286). -/
def VdState.canals (x : VdState) : Nat := x.slices.foldl (fun m sl => m ||| sl.canals.toNat) 0

/-- The slices whose last spire has left are gone, with their canals; their SLICE_UNBIND ends (R286, R297). -/
def State.closeSlices (s : State) (v : Nat) : State :=
  let x := s.vd v
  let gone := x.slices.filter (fun sl => sl.leaving.isSome && sl.spires = [])
  if gone = [] then s
  else
    let x := { x with slices := x.slices.filter (fun sl => ! (sl.leaving.isSome && sl.spires = [])) }
    let s := (s.setVd v x).setFld .cnvdc v 23 0 x.canals
    gone.foldl (fun s sl => match sl.leaving with | some (q, c, _) => s.finishCmd q c Done.ok | none => s) s

/-- R297: a spire leaves its virtual device. -/
def State.leaveSpire (s : State) (n : Nat) : State :=
  let v := (s.spire n).vdid
  let s := s.setSpire n { (s.spire n).zeroed n with vdid := 0x3F }
  let x := s.vd v
  (s.setVd v { x with slices := x.slices.map (fun sl => { sl with spires := sl.spires.erase n }) }).closeSlices v

/-- Is the spire in a slice that is being reclaimed? -/
def State.leavingSpire (s : State) (n : Nat) : Bool :=
  (s.vd (s.spire n).vdid).slices.any (fun sl => sl.leaving.isSome && sl.spires.contains n)

/-! ## Filling free spires (R296, R394 to R397) -/

/-- The free spires of a virtual device that may take a kernel: those of a tower held in reset by a lost core rail, or
of a cluster whose control core is away or failed, take none (R483, R510). -/
def State.freeSpires (s : State) (v : Nat) : List Nat :=
  ((s.vd v).slices.filter (fun sl => sl.leaving.isNone)).flatMap (·.spires)
    |>.filter (fun n => (s.spire n).run = .free && (s.spire n).vdid = v && ! (s.spire n).retired && ! s.power.railOff.getD (towerOfSpire n) false
      && decide (s.fld .fwproc (16 + n / 16) 1 0 < 2))

/-- The number whose key is least, the lowest number on a tie. -/
def leastBy (key : Nat → Nat) (l : List Nat) : Option Nat :=
  l.foldl
    (fun b n => match b with
      | none => some n
      | some m => if key n < key m || (key n = key m && n < m) then some n else some m)
    none

/-- R397: the router of an instance's first input. -/
def State.affinityRouter (s : State) (d : Dispatch) (i : Nat) : Option Router :=
  if d.aff = 0 then none
  else
    match s.readAt d.vd (d.aff + i * d.affStride) with
    | some p => match placeOf p with
      | .near ch _ => some (channelRouter ch)
      | .far e _ => some (farRouter (e / 8))
      | _ => none
    | none => none

/-- R397: the spire that an instance takes. -/
def State.chooseSpire (s : State) (d : Dispatch) (i : Nat) (free : List Nat) : Option Nat :=
  match s.affinityRouter d i with
  | some r => leastBy (fun n => distance (spireRouter n) r) free
  | none => leastBy id free

/-- A spire given a kernel wakes if it is moored (R448). -/
def Spire.wake (sp : Spire) : Spire := if sp.moored then { sp with moored := false, waking := true } else sp

/-- The µs of a span of BTIME ticks of 320 ns (R17, R450). -/
def tickMicros (t : Nat) : Nat := t * 8 / 25

/-- R401: the privileged slot of a context. -/
def State.privSlot (s : State) (c : Nat) : Option Nat := (s.objs.ctxs.live.find? c).bind (·.priv)

/-- R401: a command of a privileged context starts: the time since its fetch is counted. -/
def State.noteStart (s : State) (q : Nat) (seq : W64) : State :=
  match s.objs.queues.live.find? q with
  | none => s
  | some o =>
    match o.ctx.bind s.privSlot, o.cmds.find? (fun c => c.seq = seq) with
    | some k, some c => s.bump .scqwait k (tickMicros (s.reg .btime 0 - c.fetched).toNat)
    | _, _ => s

/-- R394: instance `i` of a DISPATCH starts on spire `n`. -/
def State.startInstance (s : State) (d : Dispatch) (i n : Nat) : State :=
  let sp := s.spire n
  let sp :=
    if sp.lastCode = some (d.code, d.codeLen, d.codeBase) then sp
    else
      let (m, p) := s.getBlock d.vd d.code d.codeLen
      { sp with spad := sp.spad.splice d.codeBase d.codeLen m 0,
                poison := sp.poison.splice (d.codeBase / 64) (d.codeLen / 64) p 0 }
  let sp := { sp with
    codeBase := d.codeBase, codeLen := d.codeLen, seed := d.seed, nwin0 := d.nwin0, nwin1 := d.nwin1, cls := d.cls, rident := n,
    astatus := Flags.none, pc := d.codeBase,
    regs := numTable 5 (fun r => match r with | 1 => i | 2 => d.n | 3 => d.args.toNat | 4 => d.epoch.toNat | _ => 0),
    preds := .empty, tds := .empty, a0 := .reset, a1 := .reset, cache := .empty, wait := .none, fault := none, loads := [],
    run := .running, kernel := some ⟨d.queue, d.cseq, d.ctx, i, d.epoch, d.code⟩ }
  let s := s.setSpire n sp.wake
  let s := { s with dispatches := s.dispatches.map (fun x => if x.queue = d.queue ∧ x.cseq = d.cseq then { x with next := i + 1 } else x) }
  if i = 0 then s.noteStart d.queue d.cseq else s

/-- The oldest saved record that may resume (R296, R298). -/
def VdState.oldest (x : VdState) : Option SaveRec :=
  (x.saves.filter (fun r => ! r.faulted)).foldl
    (fun b r => match b with | none => some r | some q => if r.order < q.order then some r else some q) none

/-- What a queued instruction's record lacks: as kept beside it, or free where the record came from an image (log 40). -/
def sidesOf (r : SaveRec) (base : Nat) (k : Nat) : Nat × Nat × List W64 :=
  match r.queued[k]? with
  | some x => x
  | none =>
    let w (i : Nat) : W64 := BitVec.ofNat 64 (Config.free (base + 8 * k + i))
    (k, (w 0).toNat % 2 ^ 32, [w 1, w 2, w 3])

/-- R58: a saved record restored onto a spire, or refused on a stale generation. -/
def State.restore (s : State) (v : Nat) (r : SaveRec) (n : Nat) : State :=
  let x := s.vd v
  let s := s.setVd v { x with saves := x.saves.filter (fun q => q.slot ≠ r.slot) }
  let (m, p) := s.getBlock v ((s.reg .vdsave v).get 51 0 + slotBytes * r.slot) recordBytes
  if BitVec.ofNat 64 (m.readLE 8 8) ≠ x.gen then s
  else
    let base := s.ctr
    let s := { s with ctr := s.ctr + 8 * 48 }
    let sp := (s.spire n).load m p v (sidesOf r base) (r.queued.foldl (fun a q => max a (q.1 + 1)) 48)
    let (w0, w1) : W64 × W64 := match s.dispatchOf r.kernel with | some d => (d.nwin0, d.nwin1) | none => (0, 0)
    s.setSpire n { sp with kernel := some r.kernel, nwin0 := w0, nwin1 := w1, lastCode := none }.wake

/-- The next instance that a virtual device's spires take (R396): lowest epoch, then acceptance order. -/
def State.nextInstance (s : State) (v : Nat) : Option Dispatch :=
  (s.dispatches.filter (fun d => d.vd = v && d.fault.isNone && ! d.aborted && decide (d.next < d.n))).foldl
    (fun b d => match b with | none => some d | some c => if seqBehind d.epoch c.epoch then some d else some c) none

/-- May kernels start in the virtual device now? -/
def State.mayFill (s : State) (v : Nat) : Bool := v < 63 && s.vdState v = 1 && ! (s.vd v).frozen && ! s.hot

/-- The device memory that a kernel's start reads: the code image, unless the spire holds it (R394), or the save record (R58). -/
def State.startReads (s : State) (d : Dispatch) (n : Nat) : List (Nat × Nat) :=
  if (s.spire n).lastCode = some (d.code, d.codeLen, d.codeBase) then [] else s.placesOf d.vd d.code d.codeLen
def State.restoreReads (s : State) (v slot : Nat) : List (Nat × Nat) :=
  s.placesOf v ((s.reg .vdsave v).get 51 0 + slotBytes * slot) recordBytes

/-- R396: the free spires of a virtual device filled, saved records first. A start waits while a memory port that it reads through is closed (R188).
`fuel` bounds the kernels started. -/
def State.fillFrom : Nat → State → Nat → State
  | 0, s, _ => s
  | fuel + 1, s, v =>
    if ! s.mayFill v then s
    else
      let free := s.freeSpires v
      match (s.vd v).oldest, leastBy id free with
      | _, none => s
      | some r, some n =>
        let l := s.restoreReads v r.slot
        if s.mayTouchAll false l then (s.restore v r n).fillFrom fuel v else s.rouseAll l
      | none, some _ =>
        match s.nextInstance v with
        | none => s
        | some d =>
          match s.chooseSpire d d.next free with
          | some n =>
            let l := s.startReads d n
            if s.mayTouchAll false l then (s.startInstance d d.next n).fillFrom fuel v else s.rouseAll l
          | none => s

/-- R396: the free spires of a virtual device filled. -/
def State.fill (s : State) (v : Nat) : State := s.fillFrom 1024 v

/-! ## Spares (R13, R307) -/

/-- The lowest spare of a spire's tower that has not failed and is neither in service nor held for a spire: 256 to 259 north, 260 to 263 south. -/
def State.freeSpare (s : State) (n : Nat) : Option Nat :=
  (upFrom (256 + 4 * towerOfSpire n) 4).find? (fun k => ! (s.spire k).retired && ! s.spires.cells.any (fun c => c.2.spare = some k))

/-- R307, R509: the spare held for a spire to be replaced takes its number and slice, and SPARE is posted. -/
def State.bringSpare (s : State) (n : Nat) : State :=
  match (s.spire n).spare with
  | none => s
  | some k =>
    (s.setSpire n { (s.spire n).zeroed n with retired := false, errors := [] }).postPFs
      { code := 0x0105, vdid := 0x3F, arg0 := n, arg1 := k, arg2 := 0 }

/-- A spire has become free: its spare replaces it if it is to be replaced; it leaves its virtual device, or the virtual device
fills it. -/
def State.spireFreed (s : State) (n : Nat) : State :=
  let s := if (s.spire n).retired then s.bringSpare n else s
  if s.leavingSpire n then s.leaveSpire n else s.fill (s.spire n).vdid

/-! ## Phase hints (R445) -/

/-- The largest LEVEL among a tower's hints. -/
def hintLevel (h : Tab (Nat × Nat)) (tower : Nat) : Nat :=
  h.cells.foldl (fun m c => if towerOfSpire c.1 = tower then max m c.2.1 else m) 0

/-- The hints changed; PWHINT shows the level held for each tower. -/
def State.setHints (s : State) (h : Tab (Nat × Nat)) : State :=
  ({ s with hints := h }.setFld .pwhint 0 3 0 (hintLevel h 0)).setFld .pwhint 0 7 4 (hintLevel h 1)

/-- A spire's hint dropped: it expired, was withdrawn, or its kernel ended. -/
def State.dropHint (s : State) (n : Nat) : State :=
  if (s.hints.find? n).isSome then s.setHints (s.hints.erase n) else s

/-! ## The kernel boundary (R25) -/

/-- The kernel of a spire ends: its data cache is invalidated and its scratchpad kept. -/
def State.kernelEnds (s : State) (n : Nat) : State :=
  let sp := s.spire n
  match sp.kernel with
  | none => s
  | some k =>
    let s := s.setSpire n { sp with
      cache := .empty, run := .free, kernel := none, wait := .none, loads := [],
      lastCode := some (k.code, sp.codeLen, sp.codeBase) }
    ((s.dropHint n).instanceLeaves n k none).spireFreed n

/-- R25: the kernel boundary, once EOK has issued and the three queues are empty. -/
def State.tryBoundary (s : State) (n : Nat) : State :=
  let sp := s.spire n
  if sp.run = .ending ∧ sp.mq = [] ∧ sp.vq = [] ∧ sp.tq = [] then s.kernelEnds n else s

/-! ## Pre-emption (R56, R209) -/

/-- The round of a barrier entry. -/
def State.round (s : State) (e : Nat) : Round := s.net.rounds.get default e

/-- A round changed, with ARRIVED showing its arrivals (R208, R210). -/
def State.setRound (s : State) (e : Nat) (r : Round) : State :=
  (s.setNet { s.net with rounds := s.net.rounds.set e r }).setFld .nbar e 32 24 r.arrived.length

/-- R209: the arrival of a spire withdrawn. -/
def State.withdraw (s : State) (n : Nat) : State :=
  match (s.spire n).wait with
  | .bar _ _ _ _ (some e) =>
    let r := s.round e
    s.setRound e { r with arrived := r.arrived.erase n }
  | .bar _ _ _ _ none => s.setNet { s.net with arrivals := s.net.arrivals.erase n }
  | _ => s

/-- R56: a spire that runs a kernel is pre-empted: issue stops, and what has started completes. One that drains for a fault halts
first (R129). -/
def State.preempt (s : State) (n : Nat) : State :=
  let sp := s.spire n
  if sp.kernel.isSome && (sp.run = .running || sp.run = .ending) then
    let s := s.withdraw n
    s.setSpire n { s.spire n with run := .preempted, wait := .none }
  else s

/-- Has everything that had started completed, and every write of the spire been acknowledged (R56, R129)? -/
def Spire.drained (sp : Spire) : Bool := ! (sp.mq ++ sp.vq ++ sp.tq).any (·.started)

/-- The lowest free save slot of a virtual device (R297). -/
def VdState.freeSlot (x : VdState) : Option Nat := (upFrom 0 x.slots).find? (fun i => ! x.saves.any (fun r => r.slot = i))

end Sys2Proof.Machine
end

