-- ==== Sys2Proof/Machine/Tiles.lean ====
section
/-! DEFINITION. What tile instructions compute (chapters 2 to 4): the products of MMA (R77 to R83, R108), the stages and
outputs of VEXPR (R45, R46, R74, R84 to R86, R109 to R111), and the row and panel layouts a TMOVE writes (R41, R113). Each
function takes the scratchpad it reads and answers values; nothing here changes the state. -/

namespace Sys2Proof.Machine

/-! ## Elements -/

/-- A value times 2^k. -/
def Val.scale (v : Val) (k : Int) : Val :=
  match v with
  | .fin n m e => .fin n m (e + k)
  | w => w

/-- R63: a scale byte: its exponent, none for 0xFF. -/
def scaleExp (b : Byte) : Option Int := if b = 0xFF then none else some ((b.toNat : Int) - 127)

/-- The exact value of a stored element (R61, R63): MXINT8 elements count 2^-6 each; a scale of 0xFF makes a NaN and sets
NV. -/
def elemVal (f : Fmt) (mx : Bool) (frame : Int) (pat : Nat) (scale : Byte) : Val × Flags :=
  if mx then
    match scaleExp scale with
    | none => (.nan false, Flags.nv)
    | some x => ((unpack f frame pat).scale (x - if f = .int8 then 6 else 0), Flags.none)
  else (unpack f frame pat, Flags.none)

/-- The scale byte of element (r, c) of a row-major tile (R64). -/
def scaleRow (sd : TDesc) (rd : Nat → Byte) (r c : Nat) : Byte := rd (sd.addr + r * sd.stride + c / 32)

/-- The scale byte of element k of row or column i of a panel (R64). -/
def scalePanel (sd : TDesc) (rd : Nat → Byte) (i k : Nat) : Byte := rd (sd.addr + k / 32 * sd.stride + i)

/-! ## Matrix multiply -/

/-- One operand element of an MMA. -/
def panelVal (d : TDesc) (sd : Option TDesc) (rd : Nat → Byte) (i k : Nat) : Val × Flags :=
  elemVal d.fmt d.mx 0 (d.panelElem rd i k) (match sd with | some x => scalePanel x rd i k | none => 0)

/-- R77: a product added into a wide entry: truncated on its own, then summed by R76. -/
def wideTerm (frame : Int) (a b : Val × Flags) (acc : Nat × Flags) : Nat × Flags :=
  let isBad (v : Val) : Bool := match v with | .fin _ _ _ => false | _ => true
  if isBad a.1 || isBad b.1 then ((wideAdd acc.1 wideInvalid).1, acc.2 ||| Flags.nv)
  else
    let c := toWide frame (vmul a.1 b.1).1
    let (w, o) := wideAdd acc.1 c.pat
    (w, acc.2 ||| Flags.cond c.lost Flags.ixa ||| Flags.cond (c.ovr || o) Flags.ovf)

/-- R108: a wide-class entry after an MMA: products in increasing K. -/
def mmaWide (frame : Int) (a b : Nat → Val × Flags) (k : Nat) (init : Nat) : Nat × Flags :=
  (upFrom 0 k).foldl (fun acc q => wideTerm frame (a q) (b q) acc) (init, Flags.none)

/-- R83: one K-step of four products added exactly to the entry and rounded once to FP32. Terms beyond the extent are +0. -/
def fpStep (a b : Nat → Val × Flags) (k s : Nat) (acc : Nat × Flags) : Nat × Flags :=
  let start : Val × Flags := (unpack .fp32 0 acc.1, Flags.none)
  let t := (upFrom (4 * s) 4).foldl
    (fun t q =>
      let p := if q < k then vmul (a q).1 (b q).1 else (Val.zero, Flags.none)
      let u := vadd .rne t.1 p.1
      (u.1, t.2 ||| p.2 ||| u.2))
    start
  let (x, fl) := convert .fp32 0 .rne 0 t.1
  (x, acc.2 ||| t.2 ||| fl)

/-- R83: an FP32-class entry after an MMA. -/
def mmaFp (a b : Nat → Val × Flags) (k : Nat) (init : Nat) : Nat × Flags :=
  (upFrom 0 (ceilDiv k 4)).foldl (fun acc s => fpStep a b k s acc) (init, Flags.none)

/-- Do the formats belong to the wide class (R43)? -/
def Fmt.wideClass : Fmt → Bool
  | .bf16 => false | .fp16 => false | _ => true

/-- R40: the operand formats that pair. -/
def pairs (a b : Fmt) : Bool :=
  let fp8 (f : Fmt) : Bool := f = .e4m3 || f = .e5m2
  let narrow (f : Fmt) : Bool := fp8 f || f.isFp6 || f.isFp4
  (narrow a && narrow b) || (a = .int8 && b = .int8) || (a = .bf16 && b = .bf16) || (a = .fp16 && b = .fp16)

/-- R40: the K-depth of a pairing. -/
def kDepth (a b : Fmt) : Nat := min (panelDepth a) (panelDepth b)

/-- R82: an FP32 element preloaded into a wide entry. -/
def preloadWide (frame : Int) (v : Val) : Nat × Flags :=
  let c := toWide frame v
  (c.pat, Flags.cond c.lost Flags.ixa ||| Flags.cond c.ovr Flags.ovf ||| Flags.cond c.invalid Flags.nv)

/-- The 1,024 entries and the flags of an MMA: `init` gives each entry's start (R108). -/
def mmaResult (wide : Bool) (frame : Int) (da db : TDesc) (sa sb : Option TDesc) (k : Nat) (rd : Nat → Byte)
    (init : Nat → Nat × Flags) : List (Nat × W128) × Flags :=
  (upFrom 0 1024).foldl
    (fun acc n =>
      let i := n / 32
      let j := n % 32
      let a := panelVal da sa rd i
      let b := panelVal db sb rd j
      let st := init n
      let (w, fl) := if wide then mmaWide frame a b k st.1 else mmaFp a b k st.1
      ((n, BitVec.ofNat 128 w) :: acc.1, acc.2 ||| st.2 ||| fl))
    ([], Flags.none)

/-! ## Fused expressions -/

/-- One stage (R109). -/
structure StageF where
  op : Nat
  x : Nat
  y : Nat
  z : Nat
deriving DecidableEq, Repr

/-- The eight stages of slot 1 (R96, R109). -/
def stagesOf (b : BitVec 120) : List StageF :=
  (upFrom 0 8).map (fun j =>
    let w := bitsOf b.toNat (15 * j + 14) (15 * j)
    ⟨bitsOf w 3 0, bitsOf w 7 4, bitsOf w 11 8, bitsOf w 14 12⟩)

/-- The stages present: those before the first END. -/
def liveStages : List StageF → List StageF
  | [] => []
  | st :: r => if st.op = 0 then [] else st :: liveStages r

/-- Which operand fields an operation uses (R109): X, Y, Z. CVT's Y is a format code. -/
def stageUses (op : Nat) : Bool × Bool × Bool :=
  match op with
  | 0x0 => (false, false, false)
  | 0x4 => (true, true, true) | 0x9 => (true, true, true) | 0xA => (true, true, true)
  | 0x7 => (true, false, false) | 0x8 => (true, false, false)
  | 0xB => (true, false, false) | 0xC => (true, false, false) | 0xD => (true, false, false) | 0xE => (true, false, false)
  | _ => (true, true, false)

/-- R109: an operand code that stage j may not name. -/
def badOperand (j : Nat) (ins : List (BitVec 5)) (code : Nat) : Bool :=
  if code = 0 then j = 0
  else if code ≤ 3 then ins.getD (code - 1) 31 = 31
  else if code ≤ 7 then false
  else decide (j ≤ code - 8)

/-- R109: does stage j raise ILLEGAL? -/
def badStage (j : Nat) (ins : List (BitVec 5)) (st : StageF) : Bool :=
  let (ux, uy, uz) := stageUses st.op
  let cvt := st.op = 0xF
  (if ux then badOperand j ins st.x else st.x ≠ 0)
    || (if cvt then st.y = 0xA || decide (0xB < st.y) else if uy then badOperand j ins st.y else st.y ≠ 0)
    || (if uz then badOperand j ins st.z else st.z ≠ 0)
    || (j = 0 && (st.op = 0 || st.op = 0x9 || st.op = 0xA))

/-- R109: the encoding checks of all stages: a nonzero stage after an END is one. -/
def badStages (ins : List (BitVec 5)) (b : BitVec 120) : Bool :=
  let l := stagesOf b
  let n := (liveStages l).length
  l.zipIdx.any (fun sj => badStage sj.2 ins sj.1 || (decide (n < sj.2) && decide (sj.1 ≠ ⟨0, 0, 0, 0⟩)))

/-- The layout of an intermediate format (R45). -/
def midLayout (f : Fmt) : FLayout := (f.layout).getD ⟨8, 23, 127, 0x7F7FFFFF, true, some 0x7FC00000⟩

/-- A value rounded by RNE to the intermediate format (R69, R85). -/
def mid (f : Fmt) (v : Val × Flags) : Nat × Flags :=
  let (p, fl) := convert f 0 .rne 0 v.1
  (p, v.2 ||| fl)

/-- One stage on operand patterns of the intermediate format; `rm` and `r` serve CVT (R109, R111). What SLT and SEQ select is rounded as every
stage's result is (R85, log 112). -/
def stageResult (f : Fmt) (rm : RM) (r : Nat) (st : StageF) (x y z prev : Nat) : Nat × Flags :=
  let vx := unpack f 0 x
  let vy := unpack f 0 y
  let vz := unpack f 0 z
  let sel (b : Bool) : Nat × Flags := mid f (unpack f 0 (if b then z else prev), Flags.cond (vx.snan || vy.snan) Flags.nv)
  match st.op with
  | 0x1 => mid f (vadd .rne vx vy)
  | 0x2 => mid f (vadd .rne vx (vneg vy))
  | 0x3 => mid f (vmul vx vy)
  | 0x4 => mid f (vfma .rne vx vy vz)
  | 0x5 => mid f (vmin vx vy)
  | 0x6 => mid f (vmax vx vy)
  | 0x7 => mid f (vabs vx, Flags.none)
  | 0x8 => mid f (vneg vx, Flags.none)
  | 0x9 => sel (vcmp vx vy = some (-1))
  | 0xA => sel (vcmp vx vy = some 0)
  | 0xB => vexp2 f (midLayout f) x
  | 0xC => vlog2 f (midLayout f) x
  | 0xD => vrcp f (midLayout f) x
  | 0xE => vrsq f (midLayout f) x
  | _ =>
    let t := (Fmt.ofCode st.y).getD f
    let (p, fl) := convert t 0 rm r vx
    mid f (unpack t 0 p, fl)

/-- The stages run in order on one element (R85): the results so far and the flags. -/
def runStages (f : Fmt) (rm : RM) (r : Nat) (ins cs : List Nat) : List StageF → List Nat × Flags → List Nat × Flags
  | [], acc => acc
  | st :: rest, acc =>
    let prev := acc.1.getLastD 0
    let v (code : Nat) : Nat :=
      if code = 0 then prev
      else if code ≤ 3 then ins.getD (code - 1) 0
      else if code ≤ 7 then cs.getD (code - 4) 0
      else acc.1.getD (code - 8) 0
    let (p, fl) := stageResult f rm r st (v st.x) (v st.y) (v st.z) prev
    runStages f rm r ins cs rest (acc.1 ++ [p], acc.2 ||| fl)

/-- R86: sums of neighbours, the last alone when their number is odd (a missing column is +0). -/
def pairUp (f : Fmt) : List Nat → Flags → List Nat × Flags
  | [], fl => ([], fl)
  | [a], fl =>
    let (s, g) := mid f (vadd .rne (unpack f 0 a) Val.zero)
    ([s], fl ||| g)
  | a :: b :: r, fl =>
    let (s, g) := mid f (vadd .rne (unpack f 0 a) (unpack f 0 b))
    let (t, h) := pairUp f r (fl ||| g)
    (s :: t, h)

/-- R86: one group of 64 columns, missing ones +0, summed by a tree of six levels. -/
def groupSum (f : Fmt) (l : List Nat) : Nat × Flags :=
  let l := l ++ List.replicate (64 - l.length) 0
  let (l, fl) := (upFrom 0 6).foldl (fun a _ => pairUp f a.1 a.2) (l, Flags.none)
  (l.headD 0, fl)

/-- R86: a per-row sum: groups of 64 columns added to a running sum that starts at +0. `fuel` bounds the groups. -/
def rowSum (f : Fmt) : Nat → List Nat → Nat × Flags → Nat × Flags
  | 0, _, acc => acc
  | fuel + 1, l, acc =>
    if l = [] then acc
    else
      let (g, fl) := groupSum f (l.take 64)
      let (s, h) := mid f (vadd .rne (unpack f 0 acc.1) (unpack f 0 g))
      rowSum f fuel (l.drop 64) (s, acc.2 ||| fl ||| h)

/-- R86: a per-row reduction of the last stage's results: 1 sum, 2 maximum, 3 minimum. -/
def rowReduce (f : Fmt) (red : Nat) (l : List Nat) : Nat × Flags :=
  match red with
  | 1 => rowSum f (l.length / 64 + 1) l (0, Flags.none)
  | _ =>
    let g (a b : Nat) : Nat × Flags :=
      mid f (if red = 2 then vmax (unpack f 0 a) (unpack f 0 b) else vmin (unpack f 0 a) (unpack f 0 b))
    match l with
    | [] => (0, Flags.none)
    | x :: r => r.foldl (fun acc y => let (s, h) := g acc.1 y; (s, acc.2 ||| h)) (x, Flags.none)

/-- R74: emax of a block-scaled format. -/
def emax (f : Fmt) : Int :=
  match f with
  | .e4m3 => 8 | .e5m2 => 15 | .e3m2 => 4 | .e2m3 => 2 | .e2m1 => 2 | _ => 0

/-- One block of a block-scaled output: scale byte, element patterns, flags. -/
structure Block where
  scale : Byte
  pats : List Nat
  flags : Flags
deriving DecidableEq, Repr

/-- R74: a block of values converted: scale exponent from the largest magnitude, each element rounded by RM. A block with a
NaN or an infinity gets scale 0xFF, and the patterns of its finite elements are open: a function of the block with no body (R60, log 35). `mid` and
`pats` are the block in the intermediate format. -/
def mxBlock (f : Fmt) (rm : RM) (rs : List Nat) (mid : Fmt) (pats : List Nat) : Block :=
  let vs := pats.map (unpack mid 0)
  let isFin (v : Val) : Bool := match v with | .fin _ _ _ => true | _ => false
  let one (v : Val) (k : Int) (r : Nat) : Nat × Flags := convert f 0 rm r (v.scale (k + if f = .int8 then 6 else 0))
  if vs.all isFin then
    let tops := vs.filterMap (fun v => match v with | .fin _ 0 _ => none | .fin _ m e => some (topExp m e) | _ => none)
    match tops.max? with
    | none => ⟨0, vs.map (fun v => (one v 0 0).1), Flags.none⟩
    | some t =>
      let x := max (-127) (min 127 (t - emax f))
      let l := (vs.zip rs).map (fun vr => one vr.1 (-x) vr.2)
      ⟨BitVec.ofInt 8 (x + 127), l.map (·.1), l.foldl (fun a y => a ||| y.2) Flags.none⟩
  else
    let l := vs.zipIdx.map (fun vi =>
      if isFin vi.1 then (Config.mxPattern f.code rm.code mid.bits pats vi.2 % 2 ^ f.bits, Flags.none) else one vi.1 0 0)
    ⟨0xFF, l.map (·.1), l.foldl (fun a y => a ||| y.2) Flags.none⟩

/-- The output of a VEXPR: scratchpad writes in order, flags, elements written (R532 0x31). -/
structure VOut where
  writes : List (Nat × List Byte)
  flags : Flags
  elems : Nat
deriving DecidableEq, Repr

/-- One input of a VEXPR as captured (R45, R46): a tile with its scale tile, or an accumulator. -/
inductive VIn where
  | tile (d : TDesc) (sd : Option TDesc)
  | acc (a : Accum)
  | none
deriving DecidableEq, Repr

/-- R45: intermediates are FP64 when any input is FP64, else FP32. -/
def midFmt (ins : List VIn) : Fmt :=
  if ins.any (fun i => match i with | .tile d _ => d.fmt = .fp64 | _ => false) then .fp64 else .fp32

/-- R46, R81: an input element in the intermediate format: an element of that format as it stands, any other rounded once by
RNE. The spec does not say how an entry of an accumulator of class none reads: as a wide entry under its E (log 191). -/
def inputElem (f : Fmt) (wframe : Int) (rd : Nat → Byte) (i : VIn) (r c : Nat) : Nat × Flags :=
  match i with
  | .none => (0, Flags.none)
  | .acc a =>
    let w := (a.entries.get 0 (32 * r + c)).toNat
    if a.cls = .fp32 then
      if f = .fp32 then (w % 2 ^ 32, Flags.none) else mid f (unpack .fp32 0 (w % 2 ^ 32), Flags.none)
    else mid f (wideVal a.frame w, Flags.none)
  | .tile d sd =>
    let r := if d.rows = 1 then 0 else r
    let c := if d.cols = 1 then 0 else c
    let pat := d.elem rd r c
    if d.fmt = f && ! d.mx then (pat, Flags.none)
    else mid f (elemVal d.fmt d.mx wframe pat (match sd with | some x => scaleRow x rd r c | none => 0))

/-- The bytes of one output row under a row-major descriptor. -/
def rowWrite (d : TDesc) (r : Nat) (pats : List Nat) : Nat × List Byte := (d.addr + r * d.stride, packBits d.fmt.bits pats)

/-- What a VEXPR needs besides the scratchpad: its fields, descriptors, inputs, scalar operands, STREAM, SEED and RIDENT. -/
structure VArgs where
  f : FmtV
  td : TDesc
  tdScale : Option TDesc
  tr : TDesc
  ins : List VIn
  cs : List Nat
  stream : Nat
  seed : W64
  rident : Nat

/-- R72: the generator's value for element index i. -/
def VArgs.rand (a : VArgs) (i : Nat) : Nat := mix a.seed a.rident ((a.stream + i) % 2 ^ 48)

/-- One row of a VEXPR (R111): output writes, flags, elements. -/
def vexprRow (a : VArgs) (rd : Nat → Byte) (r : Nat) : VOut :=
  let f := midFmt a.ins
  let rm := (RM.ofCode a.f.rm.toNat).getD .rne
  let stages := liveStages (stagesOf a.f.stages)
  let wframe := a.f.wframe.toInt
  let cols := a.td.cols
  let outs := (upFrom 0 cols).map (fun c =>
    let ins := a.ins.map (fun i => inputElem f wframe rd i r c)
    let fl := ins.foldl (fun x y => x ||| y.2) Flags.none
    let (vs, g) := runStages f rm (a.rand (r * cols + c)) (ins.map (·.1)) a.cs stages ([], Flags.none)
    (vs.getLastD 0, fl ||| g))
  let last := outs.map (·.1)
  let fl := outs.foldl (fun x y => x ||| y.2) Flags.none
  -- the output tile
  let copyAcc : Option Accum := match a.ins.head? with
    | some (.acc x) => if x.cls = .fp32 then none else some x
    | _ => none
  let (w, g) : List (Nat × List Byte) × Flags :=
    if a.f.noout = 1 then ([], Flags.none)
    else if a.td.fmt = .wide then
      match copyAcc with
      | some x => ([rowWrite a.td r ((upFrom 0 cols).map (fun c => (x.entries.get 0 (32 * r + c)).toNat))], Flags.none)
      | none =>
        let l := last.map (fun p => toWide wframe (unpack f 0 p))
        ([rowWrite a.td r (l.map (·.pat))],
          l.foldl (fun x c => x ||| Flags.cond c.lost Flags.wun ||| Flags.cond c.ovr Flags.wov
            ||| Flags.cond c.invalid Flags.nv) Flags.none)
    else if a.td.mx then
      let bs := (upFrom 0 (cols / 32)).map (fun b =>
        mxBlock a.td.fmt rm ((upFrom (32 * b) 32).map (fun c => a.rand (r * cols + c)))
          f ((last.drop (32 * b)).take 32))
      let sd := a.tdScale.getD default
      ([rowWrite a.td r (bs.flatMap (·.pats)), (sd.addr + r * sd.stride, bs.map (·.scale))],
        bs.foldl (fun x b => x ||| b.flags) Flags.none)
    else
      let l := last.zipIdx.map (fun pc => convert a.td.fmt 0 rm (a.rand (r * cols + pc.2)) (unpack f 0 pc.1))
      ([rowWrite a.td r (l.map (·.1))], l.foldl (fun x y => x ||| y.2) Flags.none)
  -- the per-row reduction
  let (w', g') : List (Nat × List Byte) × Flags :=
    if a.f.red = 0 then ([], Flags.none)
    else
      let (p, h) := rowReduce f a.f.red.toNat last
      let (q, h') := if f = .fp32 then (p, Flags.none) else convert .fp32 0 rm (a.rand r) (unpack f 0 p)
      ([(a.tr.addr + r * a.tr.stride, bytesLE 4 q)], h ||| h')
  { writes := w ++ w', flags := fl ||| g ||| g',
    elems := (if a.f.noout = 1 then 0 else cols) + (if a.f.red = 0 then 0 else 1) }

/-- R532 0x31: the elements a VEXPR writes, output and reduction elements both. -/
def vexprElems (a : VArgs) : Nat := a.td.rows * ((if a.f.noout = 1 then 0 else a.td.cols) + (if a.f.red = 0 then 0 else 1))

/-- R111: the whole VEXPR. -/
def vexprResult (a : VArgs) (rd : Nat → Byte) : VOut :=
  (upFrom 0 a.td.rows).foldl
    (fun acc r => let o := vexprRow a rd r; ⟨acc.writes ++ o.writes, acc.flags ||| o.flags, acc.elems + o.elems⟩)
    ⟨[], Flags.none, 0⟩

/-! ## Transfers -/

/-- The rows of a row-major tile, as (address, bytes) pieces in order. -/
def TDesc.rowsOf (d : TDesc) : List (Nat × Nat) := (upFrom 0 d.rows).map (fun r => (d.addr + r * d.stride, d.rowBytes))

/-- The rows of a tile, as (offset, bytes); a packed panel is one run (R41). -/
def TDesc.runs (d : TDesc) : List (Nat × Nat) := if d.layout = 1 then [(d.addr, d.span)] else d.rowsOf

/-- Do two sets of runs share a byte? -/
def runsMeet (a b : List (Nat × Nat)) : Bool :=
  a.any (fun x => b.any (fun y => decide (x.1 < y.1 + y.2) && decide (y.1 < x.1 + x.2)))

/-- Does a run hold an address? -/
def inRuns (l : List (Nat × Nat)) (a : Nat) : Bool := l.any (fun r => decide (r.1 ≤ a) && decide (a < r.1 + r.2))

/-- R41, R113: the writes that lay a row-major source out as a packed panel: element k of row (PAN 0) or column (PAN 1) i. A
place beyond the K extent keeps what it holds (log 36). -/
def panelWrites (ts td : TDesc) (pan : Bool) (src dst : Nat → Byte) : List (Nat × List Byte) :=
  let d := panelDepth td.fmt
  let w := td.fmt.bits
  let k := td.rows
  (upFrom 0 (ceilDiv k d)).flatMap (fun j =>
    (upFrom 0 32).map (fun i =>
      let at' := td.addr + j * panelStep td.fmt + i * d * w / 8
      (at', packBits w ((upFrom 0 d).map (fun q =>
        let kk := j * d + q
        if kk < k then (if pan then ts.elem src kk i else ts.elem src i kk) else bitsAt dst at' (q * w) w)))))

/-- R113: the scale bytes of a panel: transposed for operand A, copied in order for operand B. -/
def scaleWrites (ss sd : TDesc) (pan : Bool) (src : Nat → Byte) : List (Nat × List Byte) :=
  (upFrom 0 sd.rows).map (fun b =>
    (sd.addr + b * sd.stride, (upFrom 0 sd.cols).map (fun i =>
      if pan then src (ss.addr + b * ss.stride + i) else src (ss.addr + i * ss.stride + b))))

end Sys2Proof.Machine
end

