-- ==== Sys2Proof/Machine/Access.lean ====
section
/-! DEFINITION. Scalar memory, control, register, wait and system instructions (R103 to R106, R116 to R119, R121, R122, R124,
R125). -/

namespace Sys2Proof.Machine

/-! ## Checks of scalar accesses (R103) -/

/-- Which space AUX[0] selects: true for device memory. -/
def deviceSpace (f : FmtS) : Bool := f.aux.getLsbD 0

/-- What the checks of R103 find, in their order. -/
inductive Access where
  | spad (off : Nat)
  | dev (phys : Nat)
  | fault (cause : Nat)
deriving DecidableEq, Repr

/-- R103: the checks of a scalar access of `n` bytes at `a`. -/
def State.scalarCheck (s : State) (sp : Spire) (device : Bool) (a n : Nat) (write : Bool) : Access :=
  if a % n ≠ 0 then .fault Cause.align
  else if device then
    match s.rangeCheck sp.vdid a write with
    | .at p => .dev p
    | .readOnly => .fault Cause.permission
    | .outside => .fault Cause.range
  else if spadBytes < a + n then .fault Cause.range
  else if write && sp.inCode a n then .fault Cause.codeWrite
  else .spad a

/-- Is a read in flight a scalar one: of LD, LDA or WAITF? -/
def LoadUse.scalar : LoadUse → Bool
  | .gather _ _ => false
  | _ => true

/-- R227: what a scalar access to device memory waits for: the spire's own unacknowledged stores to its granule, and its own scalar reads of the
word that have not returned. Gathers are not ordered with it. -/
def Spire.wordDeps (sp : Spire) (a : Nat) : List Nat :=
  (sp.stores.filter (fun x => x.device && x.addr / 64 = a / 64)).map (·.id)
    ++ (sp.loads.filter (fun l => l.use.scalar && l.addr / 8 = a / 8)).map (·.id)

/-- A request of a spire. -/
def spireReq (id n : Nat) (sp : Spire) (t : Target) (named : Nat) (k : ReqKind) (deps tdeps : List Nat) : Req :=
  { plainReq id (.spire n) sp.vdid sp.cls t named k with deps := deps, tdeps := tdeps }

/-! ## Loads and stores -/

/-- A list of captured descriptors, each with its scale tile (R57). -/
def pairScales : List TDesc → List TDesc → List (TDesc × Option TDesc)
  | [], _ => []
  | d :: r, sc => if d.mx then (d, sc.head?) :: pairScales r sc.tail else (d, none) :: pairScales r sc

/-- The captured descriptors of an instruction that names `k` of them. -/
def QEntry.scaled (e : QEntry) : List (TDesc × Option TDesc) := pairScales (e.descs.take e.op.named) (e.descs.drop e.op.named)

/-- The scratchpad runs that a tile instruction writes (R36). MMA writes none. -/
def QEntry.outRuns (e : QEntry) : List (Nat × Nat) :=
  let withScale (p : TDesc × Option TDesc) : List (Nat × Nat) := p.1.runs ++ ((p.2.map TDesc.rowsOf).getD [])
  match e.op with
  | .vexpr f =>
    (if f.noout = 1 then [] else (e.scaled.take 1).flatMap withScale)
      ++ (if f.red = 0 then [] else (e.scaled.getLastD default).1.rowsOf)
  | .tmove _ =>
    let td := e.descs.getD 1 default
    if td.space ≠ 0 then [] else if td.layout = 1 then (e.scaled.drop 1).flatMap withScale else td.rowsOf
  | .vgather _ => (e.descs.getD 0 default).rowsOf
  | _ => []

/-- The scratchpad runs that the tile instructions in flight write, but for the one of place `seq`. -/
def Spire.inFlight (sp : Spire) (seq : Nat) : List (Nat × Nat) :=
  ((sp.vq ++ sp.tq).filter (fun x => x.started && x.seq ≠ seq)).flatMap QEntry.outRuns

/-- Bytes from an address on, those whose address is in doubt free values. -/
def State.loosen (s : State) (off : Nat) (bs : List Byte) (hit : Nat → Bool) : List Byte × State :=
  if (upFrom off bs.length).any hit then
    (bs.zipIdx.map (fun (b : Byte × Nat) => if hit (off + b.2) then BitVec.ofNat 8 (Config.free (s.ctr + b.2)) else b.1),
      { s with ctr := s.ctr + bs.length })
  else (bs, s)

/-- R36: a scalar read of the scratchpad: the bytes that a tile instruction in flight writes may be those from before or after its write, which
may not have been computed: free values (log 15). -/
def State.spadRead (s : State) (sp : Spire) (off n : Nat) : List Byte × State :=
  s.loosen off (sp.spad.readN off n) (inRuns (sp.inFlight sp.seq))

/-- R36: a scratchpad as a tile instruction reads it while others that write it are in flight: what these write is free. -/
def State.looseSpad (s : State) (n seq : Nat) (m : Memory) : Memory × State :=
  ((s.spire n).inFlight seq).foldl
    (fun (ms : Memory × State) r =>
      let (bs, s) := ms.2.loosen r.1 (ms.1.readN r.1 r.2) (fun _ => true)
      (ms.1.writeN r.1 bs, s))
    (m, s)

/-- One piece of a list kept or dropped by a free bit, onto a memory. -/
def State.maybeWrite (s : State) (m : Memory) (w : Nat × List Byte) : Memory × State :=
  (granules w.1 w.2.length).foldl
    (fun (ms : Memory × State) g =>
      let (x, s) := ms.2.free
      (if x % 2 = 1 then ms.1.writeN g.1 ((w.2.drop (g.1 - w.1)).take g.2) else ms.1, s))
    (m, s)

/-- R36: the scratchpad as a tile instruction reads it: as it stood at its start, with the writes of others that met it since, each granule
present or not by a free value, and what others in flight write free. An instruction whose reads are done (R35) reads what it read. -/
def State.tileView (s : State) (n : Nat) (e : QEntry) : Memory × State :=
  if e.done.isSome then (e.snap, s)
  else
    let (m, s) := e.met.reverse.foldl (fun (ms : Memory × State) w => ms.2.maybeWrite ms.1 w) (e.snap, s)
    s.looseSpad n e.seq m

/-! ## Holds of readers (R35) -/

/-- The registers a tile instruction reads and writes: 0 to 15 descriptors, 16 and 17 accumulators. -/
def TileOp.reads (op : TileOp) : List Nat :=
  match op with
  | .mma f => [f.ta.toNat, f.tb.toNat] ++ (if f.init = 2 then [f.tp.toNat] else [])
  | .vexpr f =>
    ([f.in0.toNat, f.in1.toNat, f.in2.toNat].filter (fun c => decide (c < 18))) ++ (if f.noout = 1 then [f.td.toNat] else [])
  | .tmove f => [f.ts.toNat]
  | .vgather f => [f.ti.toNat]
  | _ => []
def TileOp.writes (op : TileOp) : List Nat :=
  match op with
  | .mma f => [16 + f.acc.toNat]
  | .vexpr f => (if f.noout = 1 then [] else [f.td.toNat]) ++ (if f.red = 0 then [] else [f.tr.toNat])
  | .tmove f => [f.td.toNat]
  | .vgather f => [f.td.toNat]
  | _ => []

/-- May the reads of a started instruction be done? Those of a transfer in are not while an answer is out. -/
def QEntry.mayEnd (e : QEntry) : Bool :=
  e.started && e.done.isNone && (match e.op with
    | .tmove _ => e.waiting = [] || (e.descs.getD 1 default).space ≠ 0
    | _ => true)

/-- R35: a reader's hold ends when its reads are done, which can precede its completion: a free value says whether they are. -/
def State.endReads (s : State) (n : Nat) (e : QEntry) : State :=
  let (x, s) := s.free
  if x % 2 = 0 then s
  else
    let (m, s) := s.tileView n e
    let sp := s.spire n
    let upd (y : QEntry) : QEntry := if y.seq = e.seq then { y with snap := m, done := some (sp.a0, sp.a1) } else y
    s.setSpire n { sp with mq := sp.mq.map upd, vq := sp.vq.map upd, tq := sp.tq.map upd }

/-- The readers in flight that hold something, by a test on their entry, may be done with it (R35). -/
def State.endHolds (s : State) (n : Nat) (holds : QEntry → Bool) : State :=
  let sp := s.spire n
  ((sp.mq ++ sp.vq ++ sp.tq).filter (fun e => holds e && e.mayEnd)).foldl (fun s e => s.endReads n e) s

/-- A scalar access that met poison: the instruction has issued, and POISON is a completion fault (R127, R494). -/
def latePoison (s : State) (n : Nat) (sp : Spire) (off : Nat) : State :=
  let t := s.advance n sp
  t.setSpire n ((t.spire n).lateFault sp.seq sp.pc Cause.poison off)

/-- LD of the local scratchpad, or of device memory through the data cache (R49, R103). -/
def ldBody (s : State) (n : Nat) (f : FmtS) (sp : Spire) : State :=
  let a := sp.scalarAddr f
  let k := sizeOf' f.sz
  match s.scalarCheck sp (deviceSpace f) a k false with
  | .fault c => s.issueFault n c a
  | .spad off =>
    if anyPoison sp.poison off k then latePoison s n sp off
    else
      let (bs, s) := s.spadRead sp off k
      s.advance n (sp.setS f.rd (extend k (f.x = 1) (natLE bs)))
  | .dev p =>
    match sp.cache.find? (a / 64) with
    | some line =>
      -- R227: the access is held while a store of its own to the granule is unacknowledged
      if sp.wordDeps a ≠ [] then s
      else s.advance n (sp.setS f.rd (extend k (f.x = 1) (natLE ((line.drop (a % 64)).take k))))
    | none =>
      let (id, s) := s.fresh
      let l : Load := { id := id, use := .load, seq := sp.seq, pc := sp.pc, addr := a, rd := f.rd, size := k, signed := f.x = 1,
                        install := true, patch := [] }
      let s := (s.advance n { sp with loads := sp.loads ++ [l] }).countPerf n evMiss 1
      s.send (spireReq id n sp (.dev (p - p % 64)) (a - a % 64) (.read 64) (sp.wordDeps a) [])

/-- R103 LD. -/
def execLd (sp : Sp) (f : FmtS) (s : State) : Out :=
  issueS s sp.val { rd := true, rs1 := true, sz := true, x := true, aux := 1, imm := BitVec.allOnes 64 } f false (ldBody s sp.val f)

/-- A posted store or flag write to device memory (R49, R103, R119). -/
def postDev (s : State) (n : Nat) (sp : Spire) (a p : Nat) (d : List Byte) (rel : Bool) : State :=
  let (id, s) := s.fresh
  let tdeps := if rel then sp.tq.filterMap (fun e => match e.op with | .tmove _ => some e.seq | _ => none) else []
  let deps := (if rel then sp.stores.map (·.id) else []) ++ sp.wordDeps a
  let s := s.advance n { sp with stores := sp.stores ++ [⟨id, sp.seq, sp.pc, a, true⟩] }
  s.send (spireReq id n sp (.dev p) a (.write d) deps tdeps)

/-- ST: into the local scratchpad at once, or posted (R103). -/
def stBody (s : State) (n : Nat) (f : FmtS) (sp : Spire) : State :=
  let a := sp.scalarAddr f
  let k := sizeOf' f.sz
  let d := bytesLE k (sp.getS f.rs2).toNat
  match s.scalarCheck sp (deviceSpace f) a k true with
  | .fault c => s.issueFault n c a
  | .spad off =>
    let (x, bad) := sp.put off d
    if bad then latePoison s n x off else s.advance n x
  | .dev p => postDev s n sp a p d false

/-- R103 ST: X is zero. -/
def execSt (sp : Sp) (f : FmtS) (s : State) : Out :=
  issueS s sp.val { rs1 := true, rs2 := true, sz := true, aux := 1, imm := BitVec.allOnes 64 } f false (stBody s sp.val f)

/-- The low half of IMM as a signed number (R117). -/
def immLow (f : FmtS) : W64 := (f.imm.extractLsb' 0 32).signExtend 64

/-- The high half of IMM: the length of an acquire range. -/
def rangeLen (f : FmtS) : Nat := f.imm.toNat / 2 ^ 32

/-- R117: LDA invalidates its range and its own line, then reads the location from memory. -/
def ldaBody (s : State) (n : Nat) (f : FmtS) (sp : Spire) : State :=
  let a := (sp.getS f.rs1 + immLow f).toNat
  let k := sizeOf' f.sz
  match s.scalarCheck sp (deviceSpace f) a k false with
  | .fault c => s.issueFault n c a
  | .spad off =>
    let sp := sp.acquire (sp.getS f.rs3).toNat (rangeLen f)
    if anyPoison sp.poison off k then latePoison s n sp off
    else
      let (bs, s) := s.spadRead sp off k
      s.advance n (sp.setS f.rd (extend k (f.x = 1) (natLE bs)))
  | .dev p =>
    let sp := (sp.acquire (sp.getS f.rs3).toNat (rangeLen f)).acquire a 1
    let (id, s) := s.fresh
    let l : Load := { id := id, use := .acquire, seq := sp.seq, pc := sp.pc, addr := a, rd := f.rd, size := k, signed := f.x = 1,
                      install := false, patch := [] }
    let s := s.advance n { sp with loads := sp.loads ++ [l] }
    s.send (spireReq id n sp (.dev p) a (.read k) (sp.wordDeps a) [])

/-- R117 LDA. -/
def execLda (sp : Sp) (f : FmtS) (s : State) : Out :=
  issueS s sp.val { rd := true, rs1 := true, rs3 := true, sz := true, x := true, aux := 1, imm := BitVec.allOnes 64 } f false
    (ldaBody s sp.val f)

/-- The bits of IMM above bit 31. -/
def immHigh : W64 := 0xFFFFFFFF00000000#64
/-- The bits of IMM below bit 32. -/
def immLow32 : W64 := 0x00000000FFFFFFFF#64

/-- R117 CINV. -/
def execCinv (sp : Sp) (f : FmtS) (s : State) : Out :=
  issueS s sp.val { rs3 := true, imm := immHigh } f false
    (fun x => s.advance sp.val (x.acquire (x.getS f.rs3).toNat (rangeLen f)))

/-- R119: FSET to a scratchpad or to device memory; with REL it leaves after every earlier store, FSET and TQ transfer. -/
def fsetBody (s : State) (n : Nat) (f : FmtS) (sp : Spire) : State :=
  let d := bytesLE 8 (sp.getS f.rs2).toNat
  let rel := f.aux.getLsbD 1
  if deviceSpace f then
    let a := (sp.getS f.rs1 + f.imm).toNat
    match s.rangeCheck sp.vdid a true with
    | .outside => s.issueFault n Cause.range a
    | r =>
      if a % 8 ≠ 0 then s.issueFault n Cause.align a
      else match r with
        | .at p => postDev s n sp a p d rel
        | _ => s.issueFault n Cause.permission a
  else
    let t := (sp.getS f.rs1).get 7 0
    let off := f.imm.toNat
    if (s.spire t).vdid ≠ sp.vdid ∨ spadBytes < off + 8 then s.issueFault n Cause.range off
    else if off % 8 ≠ 0 then s.issueFault n Cause.align off
    else if t = n ∧ sp.inCode off 8 then s.issueFault n Cause.codeWrite off
    else
      let (id, s) := s.fresh
      let deps := if rel then sp.stores.map (·.id) else []
      let tdeps := if rel then sp.tq.filterMap (fun e => match e.op with | .tmove _ => some e.seq | _ => none) else []
      let s := s.advance n { sp with stores := sp.stores ++ [⟨id, sp.seq, sp.pc, off, false⟩] }
      s.send (spireReq id n sp (.spad t off) off (.write d) deps tdeps)

/-- R119 FSET. -/
def execFset (sp : Sp) (f : FmtS) (s : State) : Out :=
  issueS s sp.val { rs1 := true, rs2 := true, aux := 3, imm := BitVec.allOnes 64 } f false (fsetBody s sp.val f)

/-! ## Control flow (R104, R125) -/

/-- R104: PC ← the target, or PC_ALIGN. -/
def jump (s : State) (n : Nat) (sp : Spire) (target : W64) : State :=
  if target.get 3 0 ≠ 0 then s.issueFault n Cause.pcAlign target.toNat
  else
    (s.setSpire n { sp with pc := target.toNat, seq := sp.seq + 1 }).countPerf n evRetired 1

/-- R104 BR. -/
def execBr (sp : Sp) (f : FmtS) (s : State) : Out :=
  issueS s sp.val { imm := BitVec.allOnes 64 } f false (fun x => jump s sp.val x (BitVec.ofNat 64 x.pc + f.imm))

/-- R104 JAL: the target is read before rd is written. -/
def execJal (sp : Sp) (f : FmtS) (s : State) : Out :=
  issueS s sp.val { rd := true, rs1 := true, imm := BitVec.allOnes 64 } f false
    (fun x => jump s sp.val (x.setS f.rd (BitVec.ofNat 64 (x.pc + 16))) (x.getS f.rs1 + f.imm))

/-- R125 NOP. -/
def execNop (sp : Sp) (f : FmtS) (s : State) : Out := issueS s sp.val {} f false (fun x => s.advance sp.val x)

/-- R125 EOK: issue stops, and the kernel ends once the queues are empty (R25). PC stays at the EOK (log 41). -/
def execEok (sp : Sp) (f : FmtS) (s : State) : Out :=
  issueS s sp.val {} f false
    (fun x => ((s.setSpire sp.val { x with run := .ending, seq := x.seq + 1 }).countPerf sp.val evRetired 1).tryBoundary sp.val)

/-- R125 BRK: BREAK, with IMM[15:0] in the record. -/
def execBrk (sp : Sp) (f : FmtS) (s : State) : Out :=
  issueS s sp.val { imm := 0xFFFF } f false (fun _ => s.issueFault sp.val Cause.brk 0 (bitsOf f.imm.toNat 15 0))

/-- R93 EXT: issuing a second slot raises ILLEGAL. -/
def execExt (sp : Sp) (s : State) : Out := issue s sp.val 16 true 0 0 (fun _ => false) (fun _ => s)

/-! ## Descriptors, control registers, accumulators (R105, R106) -/

/-- Does a tile instruction name a descriptor register (R35)? -/
def TileOp.names (op : TileOp) (t : Nat) : Bool :=
  match op with
  | .mma f => f.ta.toNat = t || f.tb.toNat = t || (f.init = 2 && f.tp.toNat = t)
  | .vexpr f => f.td.toNat = t || f.in0.toNat = t || f.in1.toNat = t || f.in2.toNat = t || (f.red ≠ 0 && f.tr.toNat = t)
  | .tmove f => f.td.toNat = t || f.ts.toNat = t
  | .vgather f => f.td.toNat = t || f.ti.toNat = t
  | _ => false

/-- Does a tile instruction read, or write, an accumulator? -/
def TileOp.readsAcc (op : TileOp) (a : Nat) : Bool :=
  match op with
  | .vexpr f => f.in0.toNat = 16 + a || f.in1.toNat = 16 + a || f.in2.toNat = 16 + a
  | _ => false
def TileOp.writesAcc (op : TileOp) (a : Nat) : Bool :=
  match op with
  | .mma f => f.acc.toNat = a
  | _ => false

/-- The tile instructions of a spire that are not complete. -/
def Spire.tiles (sp : Spire) : List QEntry := sp.mq ++ sp.vq ++ sp.tq

/-- R106 TDR. -/
def execTdr (sp : Sp) (f : FmtS) (s : State) : Out :=
  issueS s sp.val { rd := true, aux := 0x3F } f (f.aux.extractLsb' 4 2 = 3)
    (fun x =>
      let d := x.td (f.aux.extractLsb' 0 4).toNat
      let w : W64 := match (f.aux.extractLsb' 4 2).toNat with | 0 => d.d0 | 1 => d.d1 | _ => d.d2
      s.advance sp.val (x.setS f.rd w))

/-- R106 TDW: it waits for each tile instruction that names the register, a reader while its reads are not done (R35). -/
def execTdw (sp : Sp) (f : FmtS) (s : State) : Out :=
  let t := (f.aux.extractLsb' 0 4).toNat
  let s := if (s.spire sp.val).issuing then s.endHolds sp.val (fun e => e.op.names t && ! e.op.writes.contains t) else s
  issue s sp.val 16 (illegalS { rs1 := true, aux := 0x3F } f || f.aux.extractLsb' 4 2 = 3) f.gp f.gn
    (fun x => x.busy f.rs1 || x.tiles.any (fun e => e.op.names t && (e.done.isNone || e.op.writes.contains t)))
    (fun x =>
      let d := x.td t
      let v := x.getS f.rs1
      let d := match (f.aux.extractLsb' 4 2).toNat with | 0 => { d with d0 := v } | 1 => { d with d1 := v } | _ => { d with d2 := v }
      s.advance sp.val (x.setTd t d))

/-- R55: QSTATUS. -/
def Spire.qstatus (sp : Spire) : W64 :=
  let inflt := sp.tq.any (fun e => e.started && e.waiting ≠ [] && (match e.op with
    | .tmove _ => (e.descs.getD 1 default).space ≠ 0
    | _ => false))
  BitVec.ofNat 64 (sp.mq.length + sp.vq.length * 2 ^ 8 + sp.tq.length * 2 ^ 16 + (if inflt then 2 ^ 24 else 0))

/-- R105: a control register as CSRR returns it. -/
def Spire.csr (sp : Spire) (n k : Nat) : W64 :=
  match k with
  | 0x0 => BitVec.ofNat 64 n
  | 0x1 => BitVec.ofNat 64 sp.rident
  | 0x2 => sp.seed
  | 0x3 => BitVec.ofNat 64 sp.cls
  | 0x4 => BitVec.ofNat 64 (sp.codeBase % 2 ^ 22)
  | 0x5 => BitVec.ofNat 64 (sp.codeLen % 2 ^ 23)
  | 0x6 => BitVec.ofNat 64 (sp.pc % 2 ^ 22)
  | 0x7 => BitVec.ofNat 64 (sp.vdid % 64)
  | 0x8 => sp.astatus.zeroExtend 64
  | 0x9 => sp.qstatus
  | 0xA => sp.pcsel.get 0 sp.pcnum
  | 0xB => BitVec.ofNat 64 sp.pcnum
  | _ => sp.pcval.get 0 sp.pcnum

/-- R105 CSRR. -/
def execCsrr (sp : Sp) (f : FmtS) (s : State) : Out :=
  issueS s sp.val { rd := true, imm := 0xFFF } f (decide (0xC < f.imm.toNat))
    (fun x => s.advance sp.val (x.setS f.rd (x.csr sp.val f.imm.toNat)))

/-- R55, R105: a control register written under its access codes; a write to an RO field is ignored. -/
def Spire.setCsr (sp : Spire) (k : Nat) (v : W64) : Spire :=
  match k with
  | 0x1 => { sp with rident := v.get 7 0 }
  | 0x2 => { sp with seed := v }
  | 0x3 => { sp with cls := v.get 2 0 }
  | 0x8 => { sp with astatus := sp.astatus &&& ~~~(v.extractLsb' 0 9) }
  | 0xA => { sp with pcsel := sp.pcsel.set sp.pcnum (v &&& 0xFF) }
  | 0xB => { sp with pcnum := v.get 2 0 }
  | 0xC =>
    let w := (v &&& 0x0000FFFFFFFFFFFF#64) ||| (sp.pcval.get 0 sp.pcnum &&& ~~~v &&& 0x8000000000000000#64)
    { sp with pcval := sp.pcval.set sp.pcnum w }
  | _ => sp

/-- R105 CSRW: CODEBASE and CODELEN raise ILLEGAL; SEED and RIDENT wait for queued VEXPRs (R99). -/
def execCsrw (sp : Sp) (f : FmtS) (s : State) : Out :=
  issue s sp.val 16
    (illegalS { rs1 := true, imm := 0xFFF } f || decide (0xC < f.imm.toNat) || f.imm = 4 || f.imm = 5) f.gp f.gn
    (fun x => x.busy f.rs1 || ((f.imm = 1 || f.imm = 2) && x.vexprQueued))
    (fun x => s.advance sp.val (x.setCsr f.imm.toNat (x.getS f.rs1)))

/-- An accumulator of a spire. -/
def Spire.acc (sp : Spire) (a : Nat) : Accum := if a = 0 then sp.a0 else sp.a1

/-- The spire with an accumulator changed. -/
def Spire.setAcc (sp : Spire) (a : Nat) (x : Accum) : Spire := if a = 0 then { sp with a0 := x } else { sp with a1 := x }

/-- The accumulator with an entry changed; zeros are not listed. -/
def Accum.setEntry (a : Accum) (i : Nat) (v : W128) : Accum :=
  { a with entries := if v = 0 then a.entries.erase i else a.entries.set i v }

/-- R106 AGET: it waits for tile instructions that write the accumulator (R35). A poisoned entry raises POISON (R494). Bits 127:32 of an entry of the
FP32 class read as zero (R43). -/
def execAget (sp : Sp) (f : FmtS) (s : State) : Out :=
  let a := (f.aux.extractLsb' 0 1).toNat
  issue s sp.val 16 (illegalS { rd := true, rs1 := true, aux := 3 } f) f.gp f.gn
    (fun x => x.busy f.rs1 || x.busy f.rd || x.vexprHolds f.rd || x.tiles.any (fun e => e.op.writesAcc a))
    (fun x =>
      let i := (x.getS f.rs1).toNat
      if 1024 ≤ i then s.issueFault sp.val Cause.operand
      else if ((x.acc a).poison.find? i).isSome then s.setSpire sp.val (x.lateFault x.seq x.pc Cause.poison 0)
      else
        let e := (x.acc a).entries.get 0 i
        let e : W128 := if (x.acc a).cls = .fp32 then e &&& 0xFFFFFFFF#128 else e
        s.advance sp.val (x.setS f.rd (if f.aux.getLsbD 1 then e.extractLsb' 64 64 else e.extractLsb' 0 64)))

/-- R106 APUT: it waits for tile instructions that write the accumulator, and for readers until their reads are done (R35). It writes the whole half,
whatever the class; an entry of the FP32 class then reads as R43 says. -/
def execAput (sp : Sp) (f : FmtS) (s : State) : Out :=
  let a := (f.aux.extractLsb' 0 1).toNat
  let s := if (s.spire sp.val).issuing then s.endHolds sp.val (fun e => e.op.readsAcc a) else s
  issue s sp.val 16 (illegalS { rs1 := true, rs2 := true, aux := 3 } f) f.gp f.gn
    (fun x => x.busy f.rs1 || x.busy f.rs2 || x.tiles.any (fun e => e.op.writesAcc a || (e.op.readsAcc a && e.done.isNone)))
    (fun x =>
      let i := (x.getS f.rs1).toNat
      if 1024 ≤ i then s.issueFault sp.val Cause.operand
      else
        let e := (x.acc a).entries.get 0 i
        let v := x.getS f.rs2
        let e' : W128 := if f.aux.getLsbD 1 then v ++ e.extractLsb' 0 64 else e.extractLsb' 64 64 ++ v
        s.advance sp.val (x.setAcc a ((x.acc a).setEntry i e')))

/-! ## Waits (R116, R118, R121, R122) -/

/-- R116: does TWAIT hold issue? -/
def Spire.twaitHolds (sp : Spire) (f : FmtS) : Bool :=
  let k := f.imm.toNat
  (f.aux.getLsbD 0 && decide (k < sp.mq.length)) || (f.aux.getLsbD 1 && decide (k < sp.vq.length))
    || (f.aux.getLsbD 2 && decide (k < sp.tq.length)) || (f.aux.getLsbD 3 && sp.stores ≠ [])

/-- R116 TWAIT: it issues once its condition holds. -/
def execTwait (sp : Sp) (f : FmtS) (s : State) : Out :=
  issue s sp.val 16 (illegalS { aux := 0xF, imm := 0x1F } f || decide (16 < f.imm.toNat)) f.gp f.gn (fun x => x.twaitHolds f)
    (fun x => s.advance sp.val x)

/-- R118: a WAITF completes with the value read; met, it invalidates its acquire range first. -/
def waitfEnds (s : State) (n : Nat) (f : FmtS) (sp : Spire) (ok : Bool) (v : W64) (lo len : Nat) : State :=
  let sp := if ok && f.aux.getLsbD 4 then sp.acquire lo len else sp
  s.advance n { (sp.setS f.rd v).setP f.pd ok with wait := .none }

/-- R118: one look of a WAITF at its word in the local scratchpad; `last` when the timeout has run out. -/
def waitfLook (s : State) (n : Nat) (f : FmtS) (sp : Spire) (off : Nat) (v : W64) (lo len : Nat) (last : Bool) : State :=
  if anyPoison sp.poison off 8 then s.setSpire n (sp.lateFault sp.seq sp.pc Cause.poison off)
  else
    let (bs, s) := s.spadRead sp off 8
    let x := BitVec.ofNat 64 (natLE bs)
    if compare (f.aux.extractLsb' 1 3).toNat x v then waitfEnds s n f sp true x lo len
    else if last then waitfEnds s n f sp false x lo len
    else s.setSpire n { sp with wait := .waitf f sp.seq off false v lo len false false }
where
  /-- the comparisons of R101, R118: EQ NE LT GE LTU GEU -/
  compare (code : Nat) (a b : W64) : Bool :=
    match code with
    | 0 => a = b
    | 1 => a ≠ b
    | 2 => a.slt b
    | 3 => ! a.slt b
    | 4 => a.ult b
    | _ => ! a.ult b

/-- R118: a read of a WAITF's word in device memory sent, past the data cache. -/
def waitfRead (s : State) (n : Nat) (sp : Spire) (f : FmtS) (a p : Nat) (v : W64) (lo len : Nat) (expired : Bool) : State :=
  let (id, s) := s.fresh
  let l : Load := { id := id, use := .poll, seq := sp.seq, pc := sp.pc, addr := a, rd := 0, size := 8, signed := false,
                    install := false, patch := [] }
  let s := s.setSpire n { sp with loads := sp.loads ++ [l], wait := .waitf f sp.seq a true v lo len true expired }
  s.send (spireReq id n sp (.dev p) a (.read 8) (sp.wordDeps a) [])

/-- R118: a WAITF begins. -/
def waitfBody (s : State) (n : Nat) (f : FmtS) (sp : Spire) : State :=
  let a := (sp.getS f.rs1).toNat
  let v := sp.getS f.rs2
  let lo := (sp.getS f.rs3).toNat
  match s.scalarCheck sp (deviceSpace f) a 8 false with
  | .fault c => s.issueFault n c a
  | .spad off => waitfLook s n f sp off v lo (rangeLen f) false
  | .dev p => waitfRead s n sp f a p v lo (rangeLen f) false

/-- R118 WAITF: RS3 and IMM[63:32] only with AUX[4]. -/
def execWaitf (sp : Sp) (f : FmtS) (s : State) : Out :=
  let acq := f.aux.getLsbD 4
  issueS s sp.val
    { rd := true, rs1 := true, rs2 := true, rs3 := acq, pd := true, aux := 0x1F, imm := if acq then BitVec.allOnes 64 else immLow32 } f
    (decide (5 < (f.aux.extractLsb' 1 3).toNat)) (waitfBody s sp.val f)

/-- The context of the kernel a spire runs. -/
def Spire.ctx (sp : Spire) : Nat := match sp.kernel with | some k => k.ctx | none => 256

/-- R121: FWAIT begins: the whole data cache is invalidated, and fills on their way are not installed (R234). -/
def fwaitBody (s : State) (n : Nat) (f : FmtS) (sp : Spire) : State :=
  match s.named tyFence ((sp.getS f.rs1).extractLsb' 0 32) (fun c => c = sp.ctx) with
  | none => s.issueFault n Cause.handle
  | some slot =>
    let v := sp.getS f.rs2
    let rel := (s.fence slot).bind (fun x => x.answer v)
    let sp := sp.acquire 0 0x20000
    s.setSpire n { sp with wait := .fwait f slot (((s.fence slot).map (·.head.gen)).getD 0) v rel.isSome rel }

/-- R121 FWAIT. -/
def execFwait (sp : Sp) (f : FmtS) (s : State) : Out :=
  issueS s sp.val { rd := true, rs1 := true, rs2 := true, pd := true, imm := immLow32 } f false (fwaitBody s sp.val f)

/-- The barrier entry that a local index names for a virtual device (R208, R210). -/
def State.barrierEntry (s : State) (v idx : Nat) : Option Nat :=
  (upFrom 0 512).find? (fun e =>
    s.bit .nbar e 0 && s.fld .nbar e 6 1 = v && s.fld .nbar e 14 7 = idx && s.fld .nbar e 23 15 ≠ 0)

/-- The arrival of a waiting BAR leaves once nothing holds it (R122). -/
def State.sendArrival (s : State) (n : Nat) : State :=
  match (s.spire n).wait with
  | .bar i [] [] false arrived =>
    let s := s.setSpire n { s.spire n with wait := .bar i [] [] true arrived }
    s.setNet { s.net with arrivals := s.net.arrivals ++ [n] }
  | _ => s

/-- R122: BAR begins; with REL its arrival is held for the acknowledgements of R119. -/
def barBody (s : State) (n : Nat) (f : FmtS) (sp : Spire) : State :=
  match s.barrierEntry sp.vdid f.imm.toNat with
  | none => s.issueFault n Cause.barrier
  | some _ =>
    let rel := f.aux.getLsbD 1
    let deps := if rel then sp.stores.map (·.id) else []
    let tdeps := if rel then sp.tq.filterMap (fun e => match e.op with | .tmove _ => some e.seq | _ => none) else []
    (s.setSpire n { sp with wait := .bar f.imm.toNat deps tdeps false none }).sendArrival n

/-- R122 BAR. -/
def execBar (sp : Sp) (f : FmtS) (s : State) : Out :=
  issueS s sp.val { aux := 2, imm := 0xFF } f false (barBody s sp.val f)

/-! ## Hints -/

/-- R124, R445 PHASE: LEVEL in IMM[3:0], LEAD in IMM[31:16]; LEVEL 0 withdraws the spire's hint, and a LEAD below 20 µs counts
as 20. -/
def execPhase (sp : Sp) (f : FmtS) (s : State) : Out :=
  issueS s sp.val { imm := 0xFFFF000F } f false
    (fun x =>
      let level := bitsOf f.imm.toNat 3 0
      -- R483: hints issued while the power core is away are discarded
      if decide (2 ≤ s.fld .fwproc 1 1 0) then s.advance sp.val x else
      let h := if level = 0 then s.hints.erase sp.val else s.hints.set sp.val (level, max 20 (bitsOf f.imm.toNat 31 16))
      (s.setHints h).advance sp.val x)

/-- R124, R399 EPOCH: s1 becomes the kernel's epoch when it is after it. -/
def execEpoch (sp : Sp) (f : FmtS) (s : State) : Out :=
  issueS s sp.val { rs1 := true } f false
    (fun x =>
      let v := x.getS f.rs1
      let k := x.kernel.map (fun k => if seqAfter v k.epoch then { k with epoch := v } else k)
      s.advance sp.val { x with kernel := k })

end Sys2Proof.Machine
end

