-- ==== Sys2Proof/Machine/Fields.lean ====
section
/-! DEFINITION. Fields of 64-byte commands and descriptors (R3, R4). -/

namespace Sys2Proof.Machine

/-- `n` bytes at offset `o` of a command, as a number (R3). -/
def cmdField (raw : W512) (o n : Nat) : Nat := bitsOf raw.toNat (8 * (o + n) - 1) (8 * o)

/-- The mask of some byte ranges (offset, length) of a command. -/
def byteMask (l : List (Nat × Nat)) : Nat := l.foldl (fun m r => m ||| ((2 ^ (8 * r.2) - 1) <<< (8 * r.1))) 0

/-- Is a bit of a command outside the mask nonzero? -/
def strayBits (raw : W512) (mask : Nat) : Bool := raw.toNat &&& ((2 ^ 512 - 1) ^^^ mask) ≠ 0

/-- Is a bit of a field [hi:lo] of the bytes from `o` upward set? -/
def cmdBits (raw : W512) (o hi lo : Nat) : Nat := bitsOf raw.toNat (8 * o + hi) (8 * o + lo)

end Sys2Proof.Machine
end

