-- ==== Sys2Proof/Machine/Land.lean ====
section
/-! DEFINITION. Reducing adds (R87 to R89, R114, R138, R140, R211, R213): one element added into its place, with flags and the
two bits of the window flag map. -/

namespace Sys2Proof.Machine

/-- The element size in the destination. -/
def Red.dstSize : Red → Nat
  | .fp32 => 4 | .bf16 => 2 | .windowed => 16

/-- The format in the destination. -/
def Red.dstFmt : Red → Fmt
  | .fp32 => .fp32 | .bf16 => .bf16 | .windowed => .wide

/-- R87: a contribution converted into the window: pattern, flags, map bits (underflow 1, overflow 2). -/
def windowed (frame : Int) (f : Fmt) (pat : Nat) : Nat × Flags × Nat :=
  if f = .wide then (pat, Flags.none, 0)
  else
    let c := toWide frame (unpack f 0 pat)
    (c.pat, Flags.cond c.lost Flags.wun ||| Flags.cond c.ovr Flags.wov ||| Flags.cond c.invalid Flags.nv,
      (if c.lost then 1 else 0) + (if c.ovr then 2 else 0))

/-- The sum of two elements: pattern, flags, map bits. A windowed contribution is converted by R87 and summed by R76; FP32 and
BF16 are summed exactly and rounded once by RNE. -/
def redAdd (red : Red) (frame : Int) (f : Fmt) (old pat : Nat) : Nat × Flags × Nat :=
  match red with
  | .windowed =>
    let (c, fl, b) := windowed frame f pat
    let (w, o) := wideAdd old c
    (w, fl ||| Flags.cond o Flags.wov, if w = wideInvalid then 3 else b ||| (if o then 2 else 0))
  | _ =>
    let g := red.dstFmt
    let v := vadd .rne (unpack g 0 old) (unpack g 0 pat)
    let (p, fl) := convert g 0 .rne 0 v.1
    (p, v.2 ||| fl, 0)

/-- The two map bits that an arriving element's flags carry (R213): WUN 1, WOV 2. -/
def mapBits (fl : Flags) : Nat := (if fl.getLsbD 7 then 1 else 0) + (if fl.getLsbD 6 then 2 else 0)

/-- An element added into a memory at `a`; a poisoned granule discards it (R141). Answers memory, flags, map bits, and whether it
was discarded. -/
def landElem (m : Memory) (p : Tab Unit) (d : RedData) (a i : Nat) : Memory × Flags × Nat × Bool :=
  let k := d.red.dstSize
  if anyPoison p a k then (m, Flags.none, 0, true)
  else
    let (w, fl, b) := redAdd d.red d.frame d.fmt (m.readLE a k) (d.elems.getD i 0)
    let g := d.flags.getD i Flags.none
    (m.writeLE a k w, fl ||| g, b ||| (if d.red = .windowed then mapBits g else 0), false)

/-- The map bits of an element ORed into a map byte of a memory: element n of the region, map at `map` (R89). -/
def orMap (m : Memory) (map n bits : Nat) : Memory :=
  if bits = 0 then m
  else
    let a := map + n / 4
    m.write a (m.read a ||| BitVec.ofNat 8 (bits <<< (2 * (n % 4))))

end Sys2Proof.Machine
end

