-- ==== Sys2Proof/Machine/Retire.lean ====
section
/-! DEFINITION. Retirement of memory units (R509), spare rows (R156), and the error counts of ports (R175). -/

namespace Sys2Proof.Machine

/-- Belfry ticks in a millisecond, an hour and a day (R17, R453). -/
def tickMs : Nat := 3125
def tickHour : Nat := 3600000 * tickMs
def tickDay : Nat := 24 * tickHour

/-- The port of a unit that fills: a channel, or a far-tier segment 256 + e. -/
def portOfUnit (u : Nat) : Nat := if u < 256 then u else 256 + (u - 256) / 8

/-- The segments of far-tier controller `f` (R10). -/
def segmentsOf (f : Nat) : List Nat := upFrom (8 * f) 8

/-- Is a memory unit bound: the channel, or any segment of the controller 256 + f? -/
def State.unitBound (s : State) (u : Nat) : Bool :=
  if u < 256 then s.fld .chcfg u 1 0 = 1 else (segmentsOf (u - 256)).any (fun e => s.fld .fscfg e 1 0 = 1)

/-- Is a memory unit retired (R509)? -/
def State.unitRetired (s : State) (u : Nat) : Bool :=
  if u < 256 then s.fld .chcfg u 1 0 = 3 else (segmentsOf (u - 256)).all (fun e => s.fld .fscfg e 1 0 = 3)

/-- The register RLPENDj of a channel. -/
def pendReg (j : Nat) : RegName := match j with | 0 => .rlpend0 | 1 => .rlpend1 | 2 => .rlpend2 | _ => .rlpend3

/-- Is a unit marked for retirement (R512)? -/
def State.unitPending (s : State) (u : Nat) : Bool :=
  if u < 256 then s.bit (pendReg (u / 64)) 0 (u % 64) else s.bit .rlpendf 0 (u - 256)

/-- The mark of a unit set. -/
def State.setPending (s : State) (u : Nat) : State :=
  if u < 256 then s.setFld (pendReg (u / 64)) 0 (u % 64) (u % 64) 1 else s.setFld .rlpendf 0 (u - 256) (u - 256) 1

/-- RETIRED posted for a memory unit (R493): ARG2 is 1 while its release is awaited. -/
def State.postRetired (s : State) (u : Nat) (pending : Nat) : State :=
  s.postPFs { code := 0x0104, vdid := 0x3F, arg0 := if u < 256 then 1 else 2, arg1 := if u < 256 then u else u - 256, arg2 := pending }

/-- The STATE of a unit becomes 0b11. -/
def State.retireUnit (s : State) (u : Nat) : State :=
  if u < 256 then s.setFld .chcfg u 1 0 3 else (segmentsOf (u - 256)).foldl (fun s e => s.setFld .fscfg e 1 0 3) s

/-- R509: a memory unit meets a threshold: an unbound one is retired at once, a bound one is marked. -/
def State.markUnit (s : State) (u : Nat) : State :=
  if s.unitRetired u || s.unitPending u then s
  else if s.unitBound u then (s.setPending u).postRetired u 1
  else (s.retireUnit u).postRetired u 0

/-- An uncorrectable error found by a port, repaired or not: CHUE counts it, and 64 within 24 h mark the unit (R193, R509). -/
def State.noteUe (s : State) (u : Nat) : State :=
  let s := s.bump .chue u
  let p := s.port u
  let now := s.reg .btime 0
  let ues := (p.ues.filter (fun t => decide ((now - t).toNat < tickDay))) ++ [now]
  let s := s.setPort u { p with ues := ues }
  if 64 ≤ ues.length then s.markUnit u else s

/-- R156: a spare row of a basin taken; ROWSPARE as BSPARE falls to 16 and to 0, which marks the channel (R509). With none left
nothing is taken. -/
def State.useSpare (s : State) (c : Nat) : State :=
  let left := s.fld .bspare c 9 0
  if left = 0 then s
  else
    let s := s.setFld .bspare c 9 0 (left - 1)
    let s := if left - 1 = 16 ∨ left - 1 = 0 then
        s.postPFs { code := 0x0107, vdid := 0x3F, arg0 := c, arg1 := left - 1, arg2 := 0 } else s
    if left - 1 = 0 then s.markUnit c else s

end Sys2Proof.Machine
end

