-- ==== Sys2Proof/Machine/TileIssue.lean ====
section
/-! DEFINITION. Issue of tile instructions (R31 to R33, R57, R64, R93, R95 to R99, R107, R109, R110, R112 to R115, R120, R123):
encoding and issue checks, the captured descriptors and values, and the queue entry. -/

namespace Sys2Proof.Machine

/-! ## Descriptor checks (R31, R64) -/

/-- The scale tile of a descriptor. -/
def Spire.scaleOf (sp : Spire) (d : TDesc) : TDesc := sp.td d.scaleT

/-- R64: a scale tile that does not fit its element tile; `col` for the source of a TMOVE with PAN 1 (log 43: it is row-major). -/
def scaleBad (d sd : TDesc) (col : Bool) : Bool :=
  sd.bad || sd.fmt ≠ .int8 || sd.mx || sd.layout ≠ 0
    || (if d.layout = 1 || (col && d.cols = 32) then d.rows % 32 ≠ 0 || sd.rows ≠ d.rows / 32 || sd.cols ≠ 32
        else sd.rows ≠ d.rows || sd.cols ≠ d.cols / 32)

/-- R31, R64: does descriptor `t` raise DESC? With `scaled` its scale tile is checked too. -/
def Spire.descBad (sp : Spire) (t : Nat) (scaled : Bool := true) (col : Bool := false) : Bool :=
  let d := sp.td t
  d.bad || (scaled && d.mx && scaleBad d (sp.scaleOf d) col)

/-- The first check of a list that fails: cause, detail. -/
def firstFault (l : List (Bool × Nat × Nat)) : Option (Nat × Nat) := (l.find? (·.1)).map (·.2)

/-- Does a local tile meet the code region (R23)? -/
def Spire.tileInCode (sp : Spire) (d : TDesc) : Bool := d.runs.any (fun r => sp.inCode r.1 r.2)

/-! ## Entering a queue -/

/-- The scale-tile descriptors captured with some descriptors (R32). -/
def Spire.withScales (sp : Spire) (l : List TDesc) : List TDesc := l ++ (l.filter (·.mx)).map sp.scaleOf

/-- A new queue entry (R32). -/
def Spire.entry (sp : Spire) (op : TileOp) (descs : List TDesc) (vals : List W64) : QEntry :=
  { seq := sp.seq, pc := sp.pc, op := op, descs := sp.withScales descs, vals := vals, started := false, snap := .zero,
    snapPoison := .empty, late := [], met := [], acc := [], waiting := [], got := [], wrote := 0, err := none }

/-- A tile queue. -/
def Spire.queue (sp : Spire) (q : TileQ) : List QEntry := match q with | .mq => sp.mq | .vq => sp.vq | .tq => sp.tq
def Spire.setQueue (sp : Spire) (q : TileQ) (l : List QEntry) : Spire :=
  match q with | .mq => { sp with mq := l } | .vq => { sp with vq := l } | .tq => { sp with tq := l }

/-- The number of a queue in a fault record (R129). -/
def queueNum (q : TileQ) : Nat := match q with | .mq => 1 | .vq => 2 | .tq => 3

/-- R33: is a queue full? -/
def Spire.full (sp : Spire) (q : TileQ) : Bool := decide (16 ≤ (sp.queue q).length)

/-- The first byte of a tile's runs, in order, that lies in the code region. -/
def Spire.firstInCode (sp : Spire) (runs : List (Nat × Nat)) : Nat :=
  ((runs.find? (fun r => sp.inCode r.1 r.2)).map (fun r => max r.1 sp.codeBase)).getD 0

/-- The instruction enters its queue, or raises the first fault of its checks; CODE_WRITE names the first byte of its outputs in the code region
(R129). -/
def enter (s : State) (n : Nat) (sp : Spire) (q : TileQ) (size : Nat) (checks : List (Bool × Nat × Nat)) (e : QEntry) : State :=
  match firstFault checks with
  | some (c, d) => s.issueFault n c (if c = Cause.codeWrite then sp.firstInCode e.outRuns else 0) d (queueNum q)
  | none => s.advance n (sp.setQueue q (sp.queue q ++ [e])) size

/-! ## MMA (R95, R107) -/

/-- R93: the encoding checks of format M. -/
def illegalM (f : FmtM) : Bool :=
  guardReserved f.gp f.gn || f.rsv ≠ 0 || f.init = 3 || (f.init ≠ 2 && f.tp ≠ 0) || (f.ks ≠ 0 && f.ki ≠ 0)

/-- The K extent (R107). -/
def Spire.extent (sp : Spire) (f : FmtM) : Nat := if f.ks = 0 then f.ki.toNat else (sp.getS f.ks).get 15 0

/-- The class of an MMA's operands (R43). -/
def classOf (a : Fmt) : AccClass := if a.wideClass then .wide else .fp32

/-- R43: the class an accumulator will hold when an MMA that issues now starts. -/
def Spire.pendingClass (sp : Spire) (a : Nat) : AccClass :=
  sp.mq.foldl (fun c e => match e.op with
    | .mma f => if f.acc.toNat = a then classOf (e.descs.getD 0 default).fmt else c
    | _ => c) (sp.acc a).cls

/-- R107: the checks of an MMA, in order. The spec does not say which descriptor a DESC record names when a scale tile or the multiple-of-32 check
fails: the element tile is named, TA for that check; nor what a block-scaled preload tile with an unfit scale tile raises: OPERAND, since MX is refused
there (log 189). -/
def mmaChecks (sp : Spire) (f : FmtM) : List (Bool × Nat × Nat) :=
  let da := sp.td f.ta.toNat
  let db := sp.td f.tb.toNat
  let dp := sp.td f.tp.toNat
  let k := sp.extent f
  let off (d : TDesc) : Bool := d.bad || d.space ≠ 0 || d.layout ≠ 1
  let sbad (d : TDesc) : Bool := d.mx && (scaleBad d (sp.scaleOf d) false || (sp.scaleOf d).space ≠ 0)
  let cls := classOf da.fmt
  [ (off da, Cause.desc, f.ta.toNat), (off db, Cause.desc, f.tb.toNat), (! pairs da.fmt db.fmt, Cause.format, 0),
    (k = 0 || decide (min da.rows db.rows < k), Cause.operand, 0),
    ((da.mx || db.mx) && k % 32 ≠ 0, Cause.desc, f.ta.toNat),
    (sbad da, Cause.desc, f.ta.toNat), (sbad db, Cause.desc, f.tb.toNat),
    (f.init = 2 && dp.bad, Cause.desc, f.tp.toNat),
    (f.init = 2 && (dp.space ≠ 0 || dp.layout ≠ 0 || dp.mx || dp.rows ≠ 32 || dp.cols ≠ 32
      || ! (dp.fmt = .fp32 || (dp.fmt = .wide && cls = .wide))), Cause.operand, 0),
    (f.init = 0 && sp.pendingClass f.acc.toNat ≠ .none && sp.pendingClass f.acc.toNat ≠ cls, Cause.format, 0) ]

/-- R107 MMA enters MQ. -/
def execMma (sp : Sp) (f : FmtM) (s : State) : Out :=
  issue s sp.val 16 (illegalM f) f.gp f.gn (fun x => x.busy f.ks || x.full .mq)
    (fun x =>
      let named := [x.td f.ta.toNat, x.td f.tb.toNat] ++ (if f.init = 2 then [x.td f.tp.toNat] else [])
      enter s sp.val x .mq 16 (mmaChecks x f) (x.entry (.mma f) named [BitVec.ofNat 64 (x.extent f)]))
    1

/-! ## VEXPR (R96, R109, R110) -/

/-- R96: the codes of the inputs. -/
def FmtV.ins (f : FmtV) : List (BitVec 5) := [f.in0, f.in1, f.in2]

/-- R93, R96, R109: the encoding checks of format V. -/
def illegalV (f : FmtV) : Bool :=
  guardReserved f.gp f.gn || f.rsv ≠ 0 || f.ext ≠ 0xFF || (RM.ofCode f.rm.toNat).isNone || (f.red = 0 && f.tr ≠ 0)
    || [f.in0, f.in1, f.in2].any (fun c => decide (17 < c.toNat) && c ≠ 31) || badStages [f.in0, f.in1, f.in2] f.stages

/-- R110: the shape and place checks of VEXPR, after DESC of each descriptor it names (TD, the inputs, TR). -/
def vexprChecks (sp : Spire) (f : FmtV) : List (Bool × Nat × Nat) :=
  let td := sp.td f.td.toNat
  let ins := [f.in0, f.in1, f.in2].filter (fun c => decide (c.toNat < 16))
  let local' (d : TDesc) : Bool := d.space = 0 && d.layout = 0 && (! d.mx || (sp.scaleOf d).space = 0)
  let fits (r c : Nat) : Bool := (r = td.rows || r = 1) && (c = td.cols || c = 1)
  let tr := sp.td f.tr.toNat
  let usesAcc : Bool := [f.in0, f.in1, f.in2].any (fun c => c = 16 || c = 17)
  [(sp.descBad f.td.toNat, Cause.desc, f.td.toNat)]
    ++ ins.map (fun c => (sp.descBad c.toNat, Cause.desc, c.toNat))
    ++ [ (f.red ≠ 0 && sp.descBad f.tr.toNat, Cause.desc, f.tr.toNat),
      (! local' td || ins.any (fun c => ! local' (sp.td c.toNat) || ! fits (sp.td c.toNat).rows (sp.td c.toNat).cols)
        || (usesAcc && ! fits 32 32)
        || (if f.red = 0 then f.noout = 1
            else ! local' tr || tr.mx || tr.fmt ≠ .fp32 || tr.rows ≠ td.rows || tr.cols ≠ 1), Cause.operand, 0),
      ((f.noout = 0 && (sp.tileInCode td || (td.mx && sp.tileInCode (sp.scaleOf td)))) || (f.red ≠ 0 && sp.tileInCode tr),
        Cause.codeWrite, 0) ]

/-- R110 VEXPR, a double instruction, enters VQ. -/
def execVexpr (sp : Sp) (f : FmtV) (s : State) : Out :=
  issue s sp.val 32 (illegalV f) f.gp f.gn
    (fun x => [f.sc0, f.sc1, f.sc2, f.sc3, f.str].any x.busy || x.full .vq)
    (fun x =>
      let ins := [f.in0, f.in1, f.in2].filter (fun c => decide (c.toNat < 16))
      let named := [x.td f.td.toNat] ++ ins.map (fun c => x.td c.toNat) ++ (if f.red = 0 then [] else [x.td f.tr.toNat])
      enter s sp.val x .vq 32 (vexprChecks x f) (x.entry (.vexpr f) named []))
    2

/-! ## TMOVE and VGATHER (R97, R112 to R115) -/

/-- R114: the formats of a reducing transfer. -/
def redFormats (red : Nat) (src dst : Fmt) : Bool :=
  match red with
  | 1 => src = .fp32 && dst = .fp32
  | 2 => src = .bf16 && dst = .bf16
  | 3 => (src = .fp32 || src = .bf16 || src = .wide) && dst = .wide
  | _ => true

/-- R114: is a device address in the far tier? -/
def farAddress (a : Nat) : Bool := match placeOf a with | .far _ _ => true | _ => false

/-- R112 to R114: the checks of a TMOVE, after DESC of TS and TD. The scale tile of a panel lies with it in the local scratchpad (log 43).
Where MX is itself refused, an unfit scale tile is not looked at (log 189). A SPACE 0b001 that names the issuing spire itself is taken as any spire of
the virtual device (log 190). -/
def tmoveChecks (sp : Spire) (f : FmtX) : List (Bool × Nat × Nat) :=
  let ts := sp.td f.ts.toNat
  let td := sp.td f.td.toNat
  let same : Bool := ts.fmt = td.fmt && ts.mx = td.mx
  let panel : Bool :=
    td.space = 0 && f.red = 0 && same
      && (if f.pan = 1 then ts.rows = td.rows && ts.cols = 32 else ts.rows = 32 && ts.cols = td.rows)
  let plain : Bool := ts.rows = td.rows && ts.cols = td.cols && (f.red ≠ 0 || same)
  let reduces : Bool :=
    (td.space = 1 || td.space = 2) && ! ts.mx && ! td.mx && redFormats f.red.toNat ts.fmt td.fmt
      && ! (td.space = 2 && farAddress td.addr)
  [ (sp.descBad f.ts.toNat (f.red = 0) (f.pan = 1 && td.layout = 1), Cause.desc, f.ts.toNat),
    (sp.descBad f.td.toNat (f.red = 0), Cause.desc, f.td.toNat),
    ((ts.space ≠ 0 && td.space ≠ 0) || ts.layout ≠ 0 || ! (if td.layout = 1 then panel else plain)
      || (f.red ≠ 0 && ! reduces) || (td.layout = 1 && td.mx && (sp.scaleOf td).space ≠ 0), Cause.operand, 0) ]

/-- R112 TMOVE enters TQ. -/
def execTmove (sp : Sp) (f : FmtX) (s : State) : Out :=
  issue s sp.val 16 (guardReserved f.gp f.gn || f.rsv ≠ 0 || f.ti ≠ 0 || f.rb ≠ 0 || f.sc ≠ 0) f.gp f.gn (fun x => x.full .tq)
    (fun x => enter s sp.val x .tq 16 (tmoveChecks x f) (x.entry (.tmove f) [x.td f.ts.toNat, x.td f.td.toNat] []))
    3

/-- R115: the checks of a VGATHER, after DESC of TD and TI; MX is refused with OPERAND, whatever its scale tile (log 189). -/
def vgatherChecks (sp : Spire) (f : FmtX) : List (Bool × Nat × Nat) :=
  let td := sp.td f.td.toNat
  let ti := sp.td f.ti.toNat
  [ (sp.descBad f.td.toNat false, Cause.desc, f.td.toNat), (sp.descBad f.ti.toNat false, Cause.desc, f.ti.toNat),
    (td.space ≠ 0 || td.layout ≠ 0 || td.mx || td.rows ≠ 1 || decide (64 < td.cols) || ! [8, 16, 32, 64].contains td.fmt.bits
      || ti.space ≠ 0 || ti.layout ≠ 0 || ti.mx || ti.fmt ≠ .int32 || ti.rows ≠ 1 || ti.cols ≠ td.cols, Cause.operand, 0),
    (sp.tileInCode td, Cause.codeWrite, 0) ]

/-- R115 VGATHER enters TQ. -/
def execVgather (sp : Sp) (f : FmtX) (s : State) : Out :=
  issue s sp.val 16
    (guardReserved f.gp f.gn || f.rsv ≠ 0 || f.ts ≠ 0 || f.pan ≠ 0 || f.fin ≠ 0 || f.red ≠ 0 || f.frame ≠ 0 || f.grp ≠ 0)
    f.gp f.gn (fun x => x.busy f.rb || x.full .tq)
    (fun x => enter s sp.val x .tq 16 (vgatherChecks x f)
      (x.entry (.vgather f) [x.td f.td.toNat, x.td f.ti.toNat] [x.getS f.rb]))
    3

/-! ## BCMD and FSIGNAL (R120, R123) -/

/-- R123 BCMD enters TQ. -/
def execBcmd (sp : Sp) (f : FmtS) (s : State) : Out :=
  issue s sp.val 16 (illegalS { rs1 := true, rs2 := true, imm := 0xF } f) f.gp f.gn
    (fun x => x.busy f.rs1 || x.busy f.rs2 || x.full .tq)
    (fun x =>
      let off := (x.getS f.rs2).toNat
      enter s sp.val x .tq 16
        [(off % 64 ≠ 0 || decide (spadBytes < off + 64 * (bitsOf f.imm.toNat 3 0 + 1)), Cause.operand, 0)]
        (x.entry (.bcmd f) [] [x.getS f.rs1, x.getS f.rs2]))
    3

/-- R120 FSIGNAL enters TQ. -/
def execFsignal (sp : Sp) (f : FmtS) (s : State) : Out :=
  issue s sp.val 16 (illegalS { rs1 := true, rs2 := true } f) f.gp f.gn
    (fun x => x.busy f.rs1 || x.busy f.rs2 || x.full .tq)
    (fun x => enter s sp.val x .tq 16 [] (x.entry (.fsignal f) [] [x.getS f.rs1, x.getS f.rs2]))
    3

end Sys2Proof.Machine
end

