-- ==== Sys2Proof/Machine/Translate.lean ====
section
/-! DEFINITION. Translation (chapter 14): the geometry of a context's tables, the checks of an entry, the caches, wanting a
translation and what a walk answers. -/

namespace Sys2Proof.Machine

/-! ## Roots and geometry (R357, R359, R360) -/

/-- A table format: index widths from the top, and for a parametric table its descriptor. -/
structure Geometry where
  widths : List Nat
  par : Option W64
deriving DecidableEq, Repr

/-- The widths of a parametric descriptor (R360). -/
def parWidths (d : W64) : List Nat := (upFrom 0 (d.get 2 0)).map (fun i => d.get (6 + 4 * i) (3 + 4 * i))

/-- R360: does a descriptor keep the rules of its table? -/
def parOk (d : W64) : Bool :=
  let ws := parWidths d
  decide (1 ≤ d.get 2 0) && decide (d.get 2 0 ≤ 5) && ws.all (fun w => decide (1 ≤ w) && decide (w ≤ 9))
    && (upFrom (d.get 2 0) (5 - d.get 2 0)).all (fun i => d.get (6 + 4 * i) (3 + 4 * i) = 0)
    && decide (1 ≤ d.get 48 43) && decide (d.get 48 43 ≤ 52) && decide (d.get 42 37 + d.get 48 43 ≤ 64)
    && decide (12 + ws.foldl (· + ·) 0 ≤ 57) && ! d.getLsbD 29 && d.get 63 51 = 0

/-- The geometry of a root (R357); none for MODE 0. -/
def Trans.geometry (t : Trans) (root : W64) : Option Geometry :=
  match root.get 3 0 with
  | 1 => some ⟨[9, 9, 9], none⟩
  | 2 => some ⟨[9, 9, 9, 9], none⟩
  | 3 => some ⟨[9, 9, 9, 9, 9], none⟩
  | 4 => let d := t.pdesc.get 0 (root.get 7 4); some ⟨parWidths d, some d⟩
  | _ => none

/-- The page-number bits translated. -/
def Geometry.bits (g : Geometry) : Nat := g.widths.foldl (· + ·) 0

/-- The bits below the index of a level. -/
def Geometry.below (g : Geometry) (level : Nat) : Nat := (g.widths.drop (level + 1)).foldl (· + ·) 0

/-- The index of a page at a level. -/
def Geometry.index (g : Geometry) (level page : Nat) : Nat := page / 2 ^ g.below level % 2 ^ g.widths.getD level 0

/-- The indices above a level, as one number. -/
def Geometry.stem (g : Geometry) (level page : Nat) : Nat := page % 2 ^ g.bits / 2 ^ (g.bits - (g.widths.take level).foldl (· + ·) 0)

/-- R359, R360: is the 57-bit address of a page canonical? -/
def Geometry.canonical (g : Geometry) (page : Nat) : Bool :=
  let n := g.bits
  let high := page / 2 ^ n % 2 ^ (45 - n)
  let top := page.testBit (n - 1)
  let copies := match g.par with | some d => d.getLsbD 50 | none => true
  high = (if copies && top then 2 ^ (45 - n) - 1 else 0)

/-! ## Causes (R372) -/

def trNotValid : Nat := 1
def trCanon : Nat := 2
def trSuper : Nat := 3
def trRsvd : Nat := 4
def trWalkErr : Nat := 5
def trNoRead : Nat := 6
def trNoWrite : Nat := 7
def trNoAcc : Nat := 8
def trNoMode : Nat := 9

/-- What one entry says (R359, R361): a pointer to the next table, a leaf, or a cause. `w` tells whether the entries above
allow writes. -/
inductive Entry where
  | pointer (table : Nat) (w : Bool)
  /-- page number, read permitted, write permitted -/
  | leaf (ppn : Nat) (r w : Bool)
  | bad (cause : Nat)
deriving DecidableEq, Repr

/-- R359: an entry of a RISC-V table. -/
def riscvEntry (last : Bool) (e : W64) : Entry :=
  let b (i : Nat) : Bool := e.getLsbD i
  if ! b 0 then .bad trNotValid
  else if b 63 || e.get 60 54 ≠ 0 then .bad trRsvd
  else if b 2 && ! b 1 then .bad trNotValid
  else if ! b 1 && ! b 3 then
    if b 6 || b 7 || b 4 then .bad trRsvd
    else if last then .bad trNotValid
    else .pointer (e.get 53 10 * 4096) true
  else if ! last then .bad trSuper
  else if ! b 6 then .bad trNoAcc
  else .leaf (e.get 53 10) (b 1 && b 4) (b 2 && b 4 && b 7)

/-- R361: an entry of a parametric table. -/
def parEntry (d : W64) (last w : Bool) (e : W64) : Entry :=
  if ! e.getLsbD (d.get 28 23) then .bad trNotValid
  else
    let w := w && (e.getLsbD (d.get 35 30) != d.getLsbD 36)
    let p := e.get (d.get 42 37 + d.get 48 43 - 1) (d.get 42 37)
    if last then .leaf p true w else .pointer (p * 4096) w

/-- An entry of a table. -/
def Geometry.entry (g : Geometry) (level : Nat) (w : Bool) (e : W64) : Entry :=
  let last : Bool := level + 1 = g.widths.length
  match g.par with
  | some d => parEntry d last w e
  | none => riscvEntry last e

/-! ## Caches (R362, R363) -/

/-- The capacity of a cache. -/
def cacheSize (c : Nat) : Nat := if c < 16 then 512 else if c < 82 then 64 else 8192

/-- Does a translation allow an access? -/
def Leaf.allows (l : Leaf) (write : Bool) : Bool := if write then l.w else l.r

/-- The state with its translation state changed. -/
def State.setTrans (s : State) (t : Trans) : State := { s with trans := t }

/-- A leaf placed in its cache; the entry it displaces, if any, is a free value: the spec gives the ways of a cache and not
its index or its choice of victim (log 23). -/
def State.cacheLeaf (s : State) (l : Leaf) : State :=
  let (x, s) := s.free
  let rest := s.trans.leaves.filter (fun k => ! (k.cache = l.cache && k.ctx = l.ctx && k.gen = l.gen && k.page = l.page))
  let mates := rest.filter (fun k => k.cache = l.cache)
  let evict : Bool := x % 2 = 1 || decide (cacheSize l.cache ≤ mates.length)
  let rest := match evict, mates[x / 2 % (max 1 mates.length)]? with
    | true, some m => rest.filter (fun k => k ≠ m)
    | _, _ => rest
  s.setTrans { s.trans with leaves := rest ++ [l] }

/-- A non-leaf entry placed in its tower's cache, in the same way. -/
def State.cacheBranch (s : State) (b : Branch) : State :=
  let (x, s) := s.free
  let rest := s.trans.branches.filter (fun k => ! (k.tower = b.tower && k.ctx = b.ctx && k.gen = b.gen && k.level = b.level
    && k.stem = b.stem))
  let mates := rest.filter (fun k => k.tower = b.tower)
  let evict : Bool := x % 2 = 1 || decide (1024 ≤ mates.length)
  let rest := match evict, mates[x / 2 % (max 1 mates.length)]? with
    | true, some m => rest.filter (fun k => k ≠ m)
    | _, _ => rest
  s.setTrans { s.trans with branches := rest ++ [b] }

/-- A cached leaf that allows the access. -/
def State.hit (s : State) (cache ctx gen page : Nat) (write : Bool) : Option Leaf :=
  s.trans.leaves.find? (fun l => l.cache = cache && l.ctx = ctx && l.gen = gen && l.page = page && l.allows write)

/-! ## Wanting a translation -/

/-- The generation and root of a context. -/
def State.ctxGen (s : State) (c : Nat) : Nat := ((s.objs.ctxs.live.find? c).map (·.head.gen)).getD 0
def State.ctxRoot (s : State) (c : Nat) : W64 := ((s.objs.ctxs.live.find? c).map (·.root)).getD 0

/-- A failed translation counted and recorded (R373). -/
def State.noteFail (s : State) (t ctx cause page : Nat) (write : Bool) : State :=
  let s := s.bump .trflt t
  let s := s.setReg .trlast t (BitVec.ofNat 64 (ctx + cause * 2 ^ 8 + (if write then 2 ^ 12 else 0)))
  s.setReg .trlastva t (BitVec.ofNat 64 (page * 4096))

/-- The translation a requester has asked for. -/
def State.wantOf (s : State) (a : Asker) (page : Nat) (write : Bool) : Option Want :=
  s.trans.wants.find? (fun w => w.asker = a && w.page = page && w.write = write)

/-- What is known of a page without a walk: MODE 0 and a bad address fail at once (R359), a cached leaf serves. Answers what was
found, and the state with a leaf of the tower's cache copied into the requester's. -/
def State.lookup (s : State) (cache tower ctx page : Nat) (write : Bool) : Option Found × State :=
  match s.trans.geometry (s.ctxRoot ctx) with
  | none => (some (.bad trNoMode), s.noteFail tower ctx trNoMode page write)
  | some g =>
    if ! g.canonical page then (some (.bad trCanon), s.noteFail tower ctx trCanon page write)
    else
      let gen := s.ctxGen ctx
      match s.hit cache ctx gen page write, s.hit (82 + tower) ctx gen page write with
      | some l, _ => (some (.page l.ppn), s)
      | none, some l => (some (.page l.ppn), s.cacheLeaf { l with cache := cache })
      | none, none => (none, s)

/-- A translation asked for, unless the requester has asked already. -/
def State.want (s : State) (a : Asker) (cache tower ctx page : Nat) (write : Bool) : State :=
  if (s.wantOf a page write).isSome then s
  else
    let (f, s) := s.lookup cache tower ctx page write
    let w : Want := { asker := a, cache := cache, tower := tower, ctx := ctx, gen := s.ctxGen ctx, page := page, write := write,
                      found := f, old := [] }
    s.setTrans { s.trans with wants := s.trans.wants ++ [w] }

/-- A requester lets go of what it asked for (R368). -/
def State.unwant (s : State) (a : Asker) : State :=
  s.setTrans { s.trans with wants := s.trans.wants.filter (fun w => w.asker ≠ a) }

/-- A requester lets go of one page. -/
def State.unwantPage (s : State) (a : Asker) (page : Nat) : State :=
  s.setTrans { s.trans with wants := s.trans.wants.filter (fun w => ! (w.asker = a && w.page = page)) }

/-! ## Walks (R359, R361, R364) -/

/-- Does a walk serve a want? -/
def Walk.serves (k : Walk) (w : Want) : Bool :=
  w.found.isNone && w.tower = k.tower && w.ctx = k.ctx && w.gen = k.gen && w.page = k.page

/-- A walk ends: every request it serves takes its outcome, unless it went stale (R368). -/
def State.endWalk (s : State) (n : Nat) (k : Walk) (e : Entry) : State :=
  let s := s.setTrans { s.trans with walks := s.trans.walks.erase n }
  if k.stale then s
  else
    let served := s.trans.wants.filter k.serves
    let verdict (w : Want) : Found := match e with
      | .leaf p r wr => if w.write then (if wr then .page p else .bad trNoWrite) else (if r then .page p else .bad trNoRead)
      | .bad c => .bad c
      | .pointer _ _ => .bad trNotValid
    let s := s.setTrans { s.trans with
      wants := s.trans.wants.map (fun w => if k.serves w then { w with found := some (verdict w) } else w) }
    served.foldl
      (fun s w => match verdict w, e with
        | .bad c, _ => s.noteFail k.tower k.ctx c k.page w.write
        | .page p, .leaf _ r wr =>
          let l : Leaf := { cache := w.cache, ctx := k.ctx, gen := k.gen, page := k.page, ppn := p, r := r, w := wr }
          (s.cacheLeaf { l with cache := 82 + k.tower }).cacheLeaf l
        | _, _ => s)
      s

/-- R362: where a walk begins: the deepest level whose table the tower cache holds. -/
def State.walkStart (s : State) (g : Geometry) (tower ctx gen page : Nat) : Nat × Nat × Bool :=
  let good := s.trans.branches.filter (fun b => b.tower = tower && b.ctx = ctx && b.gen = gen
    && b.stem = g.stem b.level page && decide (b.level < g.widths.length))
  good.foldl (fun r b => if r.1 < b.level then (b.level, b.table, b.w) else r) (0, (s.ctxRoot ctx).get 63 12 * 4096, true)

/-- The bus address of the entry a walk reads next. -/
def Walk.entryAddr (k : Walk) (g : Geometry) : Nat := k.table + 8 * g.index k.level k.page

end Sys2Proof.Machine
end

