-- ==== Sys2Proof/Machine/TileRun.lean ====
section
/-! DEFINITION. Start and completion of tile instructions (R34 to R37, R45, R99, R108, R111 to R115, R120, R123, R127, R128,
R229 to R232): the scoreboard, the start checks, the requests made, and what is written at completion. -/

namespace Sys2Proof.Machine

/-! ## The scoreboard (R35, R37) -/

/-- R37: does the later MMA accumulate onto what the earlier one leaves in the same accumulator? -/
def chained (earlier later : TileOp) : Bool :=
  match earlier, later with
  | .mma f, .mma g => f.acc = g.acc && g.init = 0
  | _, _ => false

/-- R35: must `later` wait for `earlier`, whose reads are done already with `done`? -/
def hazard (earlier later : TileOp) (done : Bool := false) : Bool :=
  let skip (r : Nat) : Bool := chained earlier later && decide (16 ≤ r)
  later.reads.any (fun r => earlier.writes.contains r)
    || later.writes.any (fun r => ! skip r && (earlier.writes.contains r || (! done && earlier.reads.contains r)))

/-- R34, R35: the instruction of a queue that starts next, if nothing holds it back. -/
def Spire.nextStart (sp : Spire) (q : TileQ) : Option QEntry :=
  match (sp.queue q).find? (fun e => ! e.started) with
  | none => none
  | some e =>
    let inFlight := ((sp.queue q).filter (·.started)).length
    if q = .tq ∧ 8 ≤ inFlight then none
    else if sp.tiles.any (fun x => decide (x.seq < e.seq) && hazard x.op e.op x.done.isSome) then none
    else some e

/-- An entry of a queue changed. -/
def Spire.updEntry (sp : Spire) (q : TileQ) (seq : Nat) (f : QEntry → QEntry) : Spire :=
  sp.setQueue q ((sp.queue q).map (fun e => if e.seq = seq then f e else e))

/-- The entry as it starts: with the scratchpad as it stands. -/
def QEntry.begin (e : QEntry) (sp : Spire) : QEntry := { e with started := true, snap := sp.spad, snapPoison := sp.poison }

/-! ## Leaving the queue -/

/-- R232: a transfer of a write group has failed: the group's final-held writes are lost. -/
def State.groupLoses (s : State) (n : Nat) (e : QEntry) (f : FmtX) : State :=
  s.setNet { s.net with badGroups := s.net.badGroups ++ [(n, f.grp.toNat, e.seq)] }

/-- R229: the final-held transfer of a group has ended, and the group with it: what failed in it is forgotten, and transfers of it still in
flight belong to no later group. -/
def State.groupEnds (s : State) (n : Nat) (e : QEntry) (f : FmtX) : State :=
  let sp := s.spire n
  let part (x : QEntry) : QEntry := match x.op with
    | .tmove g => if decide (x.seq < e.seq) && g.grp = f.grp && g.fin = 0 then { x with op := .tmove { g with grp := 0 } } else x
    | _ => x
  (s.setSpire n { sp with tq := sp.tq.map part }).setNet
    { s.net with badGroups := s.net.badGroups.filter (fun k => ! (k.1 = n && k.2.1 = f.grp.toNat && decide (k.2.2 < e.seq))) }

/-- A tile instruction leaves its queue: what waited for it waits no longer; the final-held writes of a group it failed are
discarded (R230 to R232). -/
def State.tileGone (s : State) (n : Nat) (q : TileQ) (e : QEntry) (ok : Bool) : State :=
  let sp := s.spire n
  let wait := match sp.wait with
    | .bar b deps tdeps sent arrived => .bar b deps (tdeps.erase e.seq) sent arrived
    | w => w
  let s := s.setSpire n { sp.setQueue q ((sp.queue q).filter (fun x => x.seq ≠ e.seq)) with wait := wait }
  let s := s.unwant (.tile n e.seq)
  let mine (r : Req) : Bool := r.agent = .spire n && r.tdeps.contains e.seq
  let s := if ok then s else s.discardHeld (fun r => r.strict && mine r)
  let s := match e.op with | .tmove f => if f.grp = 0 then s else if f.fin = 1 then s.groupEnds n e f else if ok then s else s.groupLoses n e f | _ => s
  let free (r : Req) : Req := if mine r then { r with tdeps := r.tdeps.erase e.seq } else r
  let s := s.setNet { s.net with reqs := s.net.reqs.map free }
  (s.releaseHeld.sendArrival n).tryBoundary n

/-- A fault of a tile instruction (R127, R129). -/
def State.tileFault (s : State) (n : Nat) (q : TileQ) (e : QEntry) (phase : Phase) (cause addr bytes detail : Nat) : State :=
  let f : FaultRec := { seq := e.seq, cause := cause, phase := phase, queue := queueNum q, further := 0, pc := e.pc, addr := addr,
                        bytes := bytes, detail := detail }
  (s.setSpire n ((s.spire n).raise f)).tileGone n q e false

/-- A start fault: no byte has moved. -/
def State.startFault (s : State) (n : Nat) (q : TileQ) (e : QEntry) (cause addr : Nat) : State :=
  s.tileFault n q e .start cause addr 0 0

/-! ## The pieces of a transfer -/

/-- A piece of a transfer: number of its first byte (R128), address on the source side and on the destination side, bytes. -/
structure Piece where
  pos : Nat
  src : Nat
  dst : Nat
  len : Nat
deriving DecidableEq, Repr

/-- The pieces of one row, its outside range cut by `cut`. `w` tells which side is outside. -/
def rowPieces (cut : Nat → Nat → List (Nat × Nat)) (pos src dst n : Nat) (w : Bool) : List Piece :=
  (cut (if w then dst else src) n).map (fun c =>
    let o := c.1 - (if w then dst else src)
    ⟨pos + o, src + o, dst + o, c.2⟩)

/-- The pieces of a plain transfer between row-major tiles of one shape. -/
def plainPieces (cut : Nat → Nat → List (Nat × Nat)) (ts td : TDesc) (w : Bool) : List Piece :=
  (upFrom 0 ts.rows).flatMap (fun r =>
    rowPieces cut (r * ts.rowBytes) (ts.addr + r * ts.stride) (td.addr + r * td.stride) ts.rowBytes w)

/-- The pieces that fetch a source tile into its own places, positions from `base`. -/
def fetchPieces (cut : Nat → Nat → List (Nat × Nat)) (ts : TDesc) (base : Nat) : List Piece :=
  (upFrom 0 ts.rows).flatMap (fun r =>
    let a := ts.addr + r * ts.stride
    rowPieces cut (base + r * ts.rowBytes) a a ts.rowBytes false)

/-- R225: how a transfer cuts the range of a tile: into granules, or whole blocks where its device memory is encrypted. -/
def State.tileCut (s : State) (n : Nat) (d : TDesc) : Nat → Nat → List (Nat × Nat) :=
  if d.space = 2 then s.units (s.spire n).vdid else granules

/-- The reads of a host range, by the host's answers: cut at 512 bytes (log 45). -/
def hostCut (a n : Nat) : List (Nat × Nat) := cutFrom 512 (n / 512 + 2) a n

/-! ## Start checks of a TMOVE (R112, R128) -/

/-- A failing byte: its number, side (0 read, 1 write), cause and address. -/
structure Failing where
  pos : Nat
  side : Nat
  cause : Nat
  addr : Nat
deriving DecidableEq, Repr

/-- R128: the failure reported: the lowest-numbered byte, the read side first. -/
def pickFailing (l : List Failing) : Option Failing :=
  l.foldl (fun b f => match b with
    | none => some f
    | some g => if f.pos < g.pos || (f.pos = g.pos && f.side < g.side) then some f else some g) none

/-- The spire fault of a translation cause (R372). -/
def spireCause (c : Nat) : Nat := if c = trNoRead || c = trNoWrite then Cause.permission else Cause.translate

/-- Which side of a transfer the checks look at. -/
def sideNum (write : Bool) : Nat := if write then 1 else 0

/-- The failures of one side of a row-major tile; byte numbers from `base`. -/
def State.sideFailures (s : State) (n seq : Nat) (d : TDesc) (write : Bool) (base : Nat) : List Failing :=
  let sp := s.spire n
  let fail (pos cause addr : Nat) : Failing := ⟨pos, sideNum write, cause, addr⟩
  let own : Bool := write && (d.space = 0 || (d.space = 1 && d.spire = n))
  let spire : List Failing := if d.space = 1 && (s.spire d.spire).vdid ≠ sp.vdid then [fail base Cause.range d.addr] else []
  let row (r : Nat) : List Failing :=
    let a := d.addr + r * d.stride
    let p := base + r * d.rowBytes
    let code : List Failing :=
      if own && sp.inCode a d.rowBytes then [fail (p + (sp.codeBase - a)) Cause.codeWrite (max a sp.codeBase)] else []
    let dev : List Failing :=
      if d.space ≠ 2 then [] else
        (granules a d.rowBytes).filterMap (fun g => match s.rangeCheck sp.vdid g.1 write with
          | .at _ => none
          | .readOnly => some (fail (p + (g.1 - a)) Cause.permission g.1)
          | .outside => some (fail (p + (g.1 - a)) Cause.range g.1))
    let host : List Failing :=
      if d.space ≠ 3 then []
      else if s.confidential sp.vdid then [fail p Cause.permission a]
      else
        (cutFrom 4096 (d.rowBytes / 4096 + 2) a d.rowBytes).filterMap (fun g =>
          match (s.wantOf (.tile n seq) (g.1 / 4096) write).bind (·.found) with
          | some (.bad c) => some (fail (p + (g.1 - a)) (spireCause c) g.1)
          | _ => none)
    code ++ dev ++ host
  spire ++ (upFrom 0 d.rows).flatMap row

/-- R113, R128: the failures of a packed-panel destination: its bytes in the code region, each numbered by the source byte that
feeds it. -/
def Spire.panelFailures (sp : Spire) (ts td : TDesc) (pan : Bool) : List Failing :=
  if ! sp.inCode td.addr td.span then []
  else
    let d := panelDepth td.fmt
    (upFrom 0 td.rows).flatMap (fun k =>
      (upFrom 0 32).filterMap (fun i =>
        let bit := (i * d + k % d) * td.fmt.bits
        let a := td.addr + k / d * panelStep td.fmt + bit / 8
        let pos := if pan then k * ts.rowBytes + i * ts.fmt.bits / 8 else i * ts.rowBytes + k * ts.fmt.bits / 8
        if sp.inCode a 1 then some ⟨pos, 1, Cause.codeWrite, a⟩ else none))

/-- Does the TMOVE also move a scale tile (R113)? -/
def movesScales (ts td : TDesc) : Bool := td.layout = 1 && ts.mx

/-- R128: the failures of a TMOVE. The bytes of scale tiles are numbered after those of the tile (log 43). -/
def State.tmoveFailures (s : State) (n : Nat) (e : QEntry) (f : FmtX) : List Failing :=
  let ts := e.descs.getD 0 default
  let td := e.descs.getD 1 default
  let total := ts.rows * ts.rowBytes
  s.sideFailures n e.seq ts false 0
    ++ (if td.layout = 1 then (s.spire n).panelFailures ts td (f.pan = 1) else s.sideFailures n e.seq td true 0)
    ++ (if movesScales ts td then
          s.sideFailures n e.seq (e.descs.getD 2 default) false total ++ s.sideFailures n e.seq (e.descs.getD 3 default) true total
        else [])

/-- The host pages of a tile. -/
def TDesc.pages (d : TDesc) : List Nat :=
  if d.space ≠ 3 then [] else
    ((upFrom 0 d.rows).flatMap (fun r =>
      (cutFrom 4096 (d.rowBytes / 4096 + 2) (d.addr + r * d.stride) d.rowBytes).map (fun g => g.1 / 4096))).eraseDups

/-- The pages a TMOVE needs translated, each with its direction (R128). -/
def QEntry.hostPages (e : QEntry) : List (Nat × Bool) :=
  let ts := e.descs.getD 0 default
  let td := e.descs.getD 1 default
  ts.pages.map (·, false) ++ td.pages.map (·, true)
    ++ (if movesScales ts td then (e.descs.getD 2 default).pages.map (·, false) else [])

/-- The cluster of a spire (R10). -/
def clusterOf (n : Nat) : Nat := n / 16

/-- The translations a TMOVE needs asked for. A confidential virtual device reaches no host page (R423). -/
def State.wantPages (s : State) (n : Nat) (e : QEntry) : State :=
  if s.confidential (s.spire n).vdid then s
  else e.hostPages.foldl
    (fun s p => s.want (.tile n e.seq) (clusterOf n) (towerOfSpire n) (s.spire n).ctx p.1 p.2) s

/-- Are they all known? -/
def State.pagesKnown (s : State) (n : Nat) (e : QEntry) : Bool :=
  s.confidential (s.spire n).vdid
    || e.hostPages.all (fun p => ((s.wantOf (.tile n e.seq) p.1 p.2).bind (·.found)).isSome)

/-! ## Requests of a TMOVE -/

/-- The target of an outside address of a tile. -/
def State.tileTarget (s : State) (n seq : Nat) (d : TDesc) (a : Nat) (write : Bool) : Target :=
  match d.space with
  | 1 => .spad d.spire a
  | 2 => (match s.rangeCheck (s.spire n).vdid a write with | .at p => .dev p | _ => .dev a)
  | _ =>
    let ppn := match (s.wantOf (.tile n seq) (a / 4096) write).bind (·.found) with | some (.page p) => p | _ => 0
    .host (s.fnOfCtx (s.spire n).ctx / 64) (ppn * 4096 + a % 4096)

/-- R114: the kind of a reducing transfer. -/
def redOf (red : Nat) : Red := match red with | 1 => .fp32 | 2 => .bf16 | _ => .windowed

/-- What one piece of a transfer out asks: a plain write of its bytes, or a reducing write of its elements. -/
def pieceKind (f : FmtX) (ts : TDesc) (bytes : List Byte) : ReqKind :=
  if f.red = 0 then .write bytes
  else
    let k := ts.fmt.bits / 8
    let elems := (upFrom 0 (bytes.length / k)).map (fun i => natLE ((bytes.drop (i * k)).take k))
    .reduce { red := redOf f.red.toNat, frame := f.frame.toInt, fmt := ts.fmt, elems := elems, flags := elems.map (fun _ => Flags.none) }

/-- R213, R171: the pieces of a transfer out: atomic units of a plain one; packets of up to 32 elements of a row of a reducing one, each split where
it crosses a 2 KiB boundary of a window (log 34). -/
def State.outPieces (s : State) (n : Nat) (f : FmtX) (ts td : TDesc) : List Piece :=
  if f.red = 0 then plainPieces (s.tileCut n td) ts td true
  else
    let ks := ts.fmt.bits / 8
    let kd := td.fmt.bits / 8
    let windowed : Bool := td.space = 2 && (match placeOf td.addr with | .window _ _ => true | _ => false)
    (upFrom 0 ts.rows).flatMap (fun r =>
      let a := td.addr + r * td.stride
      (cutFrom 32 (ts.cols / 32 + 2) 0 ts.cols).flatMap (fun c =>
        let b := a + c.1 * kd
        (if windowed then cutFrom 2048 8 b (c.2 * kd) else [(b, c.2 * kd)]).map (fun g =>
          let o := (g.1 - a) / kd
          ⟨r * ts.rowBytes + o * ks, ts.addr + r * ts.stride + o * ks, g.1, g.2 / kd * ks⟩)))

/-- R229: the place in program order where the group that a FIN transfer ends began, as far as its queue tells. -/
def Spire.groupStart (sp : Spire) (e : QEntry) (f : FmtX) : Nat :=
  (sp.tq.filter (fun x => decide (x.seq < e.seq))).foldl
    (fun m x => match x.op with
      | .tmove g => if g.grp = f.grp ∧ g.fin = 1 then max m (x.seq + 1) else m
      | _ => m)
    0

/-- R232: has an earlier write of the group that a FIN transfer ends been lost? -/
def State.groupLost (s : State) (n : Nat) (e : QEntry) (f : FmtX) : Bool :=
  f.fin = 1 && f.grp ≠ 0
    && s.net.badGroups.any (fun k => k.1 = n && k.2.1 = f.grp.toNat && decide ((s.spire n).groupStart e f ≤ k.2.2) && decide (k.2.2 < e.seq))

/-- R230, R231: what the writes of a FIN transfer wait for: TMOVEs of the group, or every earlier transfer and store. -/
def Spire.finDeps (sp : Spire) (e : QEntry) (f : FmtX) : List Nat × List Nat :=
  if f.fin = 0 then ([], [])
  else
    let earlier := sp.tq.filter (fun x => decide (x.seq < e.seq))
    if f.grp = 0 then
      ((sp.stores.filter (fun x => decide (x.seq < e.seq))).map (·.id),
        earlier.filterMap (fun x => match x.op with | .tmove _ => some x.seq | _ => none))
    else
      -- only the writes since the group began (R229)
      let start := sp.groupStart e f
      ([], earlier.filterMap (fun x => match x.op with
        | .tmove g => if g.grp = f.grp ∧ g.fin = 0 ∧ start ≤ x.seq then some x.seq else none
        | _ => none))

/-- The requests of a transfer, with the numbers they take, made one after another. -/
def State.sendAll (s : State) (l : List Req) : State := l.foldl State.send s

/-- R532: the bytes that the transfer port moves to or from one tile: within the scratchpad, over a direct link (R199), or over the mesh. -/
def State.countMoved (s : State) (n : Nat) (d : TDesc) (bytes : Nat) : State :=
  if d.space = 0 then s.countPerf n evLocal bytes
  else
    let s := s.countPerf n (if d.space = 1 && neighbours n d.spire then evDirect else evRouted) bytes
    if d.space = 3 then s.countPerf n evHost bytes else s

/-- A TMOVE out of the local scratchpad: its writes are made as it starts, from the bytes it finds (log 44); what others in flight write there is
free, and a write of theirs that comes while a piece has not landed may still be in it (`State.reread`). -/
def State.startOut (s : State) (n : Nat) (e : QEntry) (f : FmtX) : State :=
  let sp := s.spire n
  let ts := e.descs.getD 0 default
  let td := e.descs.getD 1 default
  if ts.rowsOf.any (fun r => anyPoison sp.poison r.1 r.2) then
    let a := ((ts.rowsOf.find? (fun r => anyPoison sp.poison r.1 r.2)).map (·.1)).getD ts.addr
    s.setSpire n (sp.updEntry .tq e.seq (fun x => { x.begin sp with err := some (Cause.poison, 0, a) }))
  else if s.groupLost n e f then
    s.setSpire n (sp.updEntry .tq e.seq (fun x => { x.begin sp with err := some (Cause.bus, 0, td.addr) }))
  else
    let (m, s) := s.looseSpad n e.seq sp.spad
    let ps := s.outPieces n f ts td
    let ids := upFrom s.nextId ps.length
    let (deps, tdeps) := sp.finDeps e f
    let reqs := (ps.zip ids).map (fun pi =>
      { plainReq pi.2 (.spire n) sp.vdid sp.cls (s.tileTarget n e.seq td pi.1.dst true) pi.1.dst
          (pieceKind f ts (m.readN pi.1.src pi.1.len)) with
        grp := f.grp.toNat, fin := f.fin = 1, deps := deps, tdeps := tdeps, strict := f.fin = 1 && f.grp ≠ 0 })
    let acc := (ps.zip ids).map (fun pi => { id := pi.2, len := pi.1.len, pos := pi.1.pos : TileAccess })
    let bytes := ts.rows * ts.rowBytes
    let s := { s with nextId := s.nextId + ps.length }
    let s := s.setSpire n (sp.updEntry .tq e.seq (fun x => { x.begin sp with acc := acc, waiting := ids }))
    (s.countMoved n td bytes).sendAll reqs

/-- A TMOVE into the local scratchpad: its reads are made; a tile in host memory is read by the host (log 45). -/
def State.startIn (s : State) (n : Nat) (e : QEntry) : State :=
  let sp := s.spire n
  let ts := e.descs.getD 0 default
  let td := e.descs.getD 1 default
  let ss := e.descs.getD 2 default
  let part (d : TDesc) (base : Nat) : List (TDesc × Piece) :=
    if d.space = 1 || d.space = 2 then (fetchPieces (s.tileCut n d) d base).map (d, ·) else []
  let ps := part ts 0 ++ (if movesScales ts td then part ss (ts.rows * ts.rowBytes) else [])
  let ids := upFrom s.nextId ps.length
  let reqs := (ps.zip ids).map (fun pi =>
    plainReq pi.2 (.spire n) sp.vdid sp.cls (s.tileTarget n e.seq pi.1.1 pi.1.2.src false) pi.1.2.src (.read pi.1.2.len))
  let acc := (ps.zip ids).map (fun pi => { id := pi.2, len := pi.1.2.len, pos := pi.1.2.pos : TileAccess })
  let s := { s with nextId := s.nextId + ps.length }
  (s.setSpire n (sp.updEntry .tq e.seq (fun x => { x.begin sp with acc := acc, waiting := ids }))).sendAll reqs

/-- R112, R128: a TMOVE starts, once every page it needs is translated. -/
def State.startTmove (s : State) (n : Nat) (e : QEntry) (f : FmtX) : State :=
  let s := s.wantPages n e
  if ! s.pagesKnown n e then s
  else
    match pickFailing (s.tmoveFailures n e f) with
    | some x => s.startFault n .tq e x.cause x.addr
    | none =>
      if (e.descs.getD 1 default).space ≠ 0 then s.startOut n e f
      else if (e.descs.getD 0 default).space ≠ 0
          || (movesScales (e.descs.getD 0 default) (e.descs.getD 1 default) && (e.descs.getD 2 default).space ≠ 0) then s.startIn n e
      else s.setSpire n ((s.spire n).updEntry .tq e.seq (fun x => x.begin (s.spire n)))

/-! ## VGATHER, BCMD and FSIGNAL start -/

/-- R115: the addresses of a gather. -/
def gatherAddrs (e : QEntry) (f : FmtX) (rd : Nat → Byte) : List Nat :=
  let td := e.descs.getD 0 default
  let ti := e.descs.getD 1 default
  (upFrom 0 td.cols).map (fun i =>
    let x := toSigned 32 (ti.elem rd 0 i)
    let y : Int := ((e.vals.getD 0 0).toNat : Int) + x * (if f.sc = 1 then (td.fmt.size : Int) else 1)
    (y % ((2 ^ 64 : Nat) : Int)).toNat)

/-- One element of a gather: from the data cache, or a line asked for (R48). -/
def State.gatherOne (s : State) (n : Nat) (stale : List (Nat × Nat)) (seq pc i a k : Nat) : State :=
  let sp := s.spire n
  match sp.cache.find? (a / 64) with
  | some line =>
    s.setSpire n (sp.updEntry .tq seq (fun x => { x with got := x.got ++ [(i * k, (line.drop (a % 64)).take k)] }))
  | none =>
    match s.readAt sp.vdid a with
    | none => s
    | some p =>
      let (id, s) := s.fresh
      let l : Load := { id := id, use := .gather seq i, seq := seq, pc := pc, addr := a, rd := 0, size := k, signed := false,
                        install := ! stale.any (fun r => acquireHits r.1 r.2 (a / 64)), patch := [] }
      let sp := sp.updEntry .tq seq (fun x => { x with waiting := x.waiting ++ [id] })
      let s := (s.setSpire n { sp with loads := sp.loads ++ [l] }).countPerf n evMiss 1
      s.send (plainReq id (.spire n) sp.vdid sp.cls (.dev (p - p % 64)) (a - a % 64) (.read 64))

/-- R115: a VGATHER starts: every address is checked before any element is read. -/
def State.startGather (s : State) (n : Nat) (e : QEntry) (f : FmtX) : State :=
  let sp := s.spire n
  let td := e.descs.getD 0 default
  let ti := e.descs.getD 1 default
  let k := td.fmt.size
  if anyPoison sp.poison ti.addr ti.rowBytes then
    s.setSpire n (sp.updEntry .tq e.seq (fun x => { x.begin sp with err := some (Cause.poison, 0, ti.addr) }))
  else
    let (m, s) := s.looseSpad n e.seq sp.spad
    let addrs := gatherAddrs e f m.read
    let bad := addrs.filter (fun a => a % k ≠ 0 || (s.readAt sp.vdid a).isNone)
    match bad.min? with
    | some a => s.startFault n .tq e (if a % k ≠ 0 then Cause.align else Cause.range) a
    | none =>
      let s := s.setSpire n (sp.updEntry .tq e.seq (fun x => x.begin sp))
      addrs.zipIdx.foldl (fun s ai => s.gatherOne n e.stale e.seq e.pc ai.2 ai.1 k) s

/-- Does a virtual device hold the channel beside a basin (R133)? -/
def State.holdsBasin (s : State) (v c : Nat) : Bool := s.fld .chcfg c 1 0 = 1 && s.fld .chcfg c 7 2 = v

/-- R123, R133: a BCMD starts: its commands are read from the scratchpad and go to the basin's ring. -/
def State.startBcmd (s : State) (n : Nat) (e : QEntry) (f : FmtS) : State :=
  let sp := s.spire n
  let c := relocBasin (s.vd sp.vdid).relocs ((e.vals.getD 0 0).get 7 0)
  let off := (e.vals.getD 1 0).toNat
  let k := bitsOf f.imm.toNat 3 0 + 1
  if ! s.holdsBasin sp.vdid c then s.startFault n .tq e Cause.range 0
  else if anyPoison sp.poison off (64 * k) then
    s.setSpire n (sp.updEntry .tq e.seq (fun x => { x.begin sp with err := some (Cause.poison, 0, off) }))
  else
    let (id, s) := s.fresh
    let (m, s) := s.looseSpad n e.seq sp.spad
    let cmds := (upFrom 0 k).map (fun i => BitVec.ofNat 512 (m.readLE (off + 64 * i) 64))
    let s := s.setSpire n (sp.updEntry .tq e.seq (fun x => { x.begin sp with waiting := [id] }))
    s.setNet { s.net with appends := s.net.appends ++
      [{ id := id, agent := .spire n, vd := sp.vdid, gen := (s.vd sp.vdid).gen, basin := c, cmds := cmds }] }

/-- R120: an FSIGNAL starts once every earlier TQ instruction has completed and every earlier store has been acknowledged. -/
def State.startFsignal (s : State) (n : Nat) (e : QEntry) : State :=
  let sp := s.spire n
  if sp.tq.any (fun x => decide (x.seq < e.seq)) || sp.stores.any (fun x => decide (x.seq < e.seq)) then s
  else
    match s.named tyFence ((e.vals.getD 0 0).extractLsb' 0 32) (fun c => c = sp.ctx) with
    | none => s.startFault n .tq e Cause.handle 0
    | some slot =>
      let gen := ((s.fence slot).map (·.head.gen)).getD 0
      let id := s.nextId
      let s := s.setSpire n (sp.updEntry .tq e.seq (fun x => { x.begin sp with waiting := [id] }))
      s.sendSignal (.spire n) sp.vdid slot gen (e.vals.getD 1 0) false

/-! ## TILE_START -/

/-- The start of the instruction that is next in its queue. -/
def State.startTile (s : State) (n : Nat) (q : TileQ) (e : QEntry) : State :=
  let sp := s.spire n
  match e.op with
  | .mma f =>
    -- R43, R107: class and frame exponent are set as the MMA starts
    let da := e.descs.getD 0 default
    let db := e.descs.getD 1 default
    let cls := classOf da.fmt
    let frame : Int := if da.mx || db.mx then f.frame.toInt else if cls = .wide then 56 else 0
    let a := f.acc.toNat
    let sp := sp.updEntry q e.seq (fun x => x.begin sp)
    s.setSpire n (sp.setAcc a { sp.acc a with cls := cls, frame := frame })
  | .vexpr f =>
    let late := [sp.getS f.sc0, sp.getS f.sc1, sp.getS f.sc2, sp.getS f.sc3, sp.getS f.str, sp.seed, BitVec.ofNat 64 sp.rident]
    s.setSpire n (sp.updEntry q e.seq (fun x => { x.begin sp with late := late }))
  | .tmove f => s.startTmove n e f
  | .vgather f => s.startGather n e f
  | .bcmd f => s.startBcmd n e f
  | .fsignal _ => s.startFsignal n e

/-- R35: the readers that hold back the next instruction of a queue may be done with their reads. -/
def State.freeReaders (s : State) (n : Nat) (q : TileQ) : State :=
  match ((s.spire n).queue q).find? (fun e => ! e.started) with
  | some e => s.endHolds n (fun x => decide (x.seq < e.seq) && hazard x.op e.op && ! hazard x.op e.op true)
  | none => s

/-- R34, R35 TILE_START. -/
def execTileStart (sp : Sp) (q : TileQ) (s : State) : Out :=
  let x := s.spire sp.val
  .next (
    if (x.run = .running ∨ x.run = .ending) ∧ ! x.waking then
      match x.nextStart q with
      | some e => s.startTile sp.val q e
      | none =>
        let s := s.freeReaders sp.val q
        match (s.spire sp.val).nextStart q with
        | some e => s.startTile sp.val q e
        | none => s
    else s)

/-! ## Reading and writing at completion (R36) -/

/-- Some bytes from `src` on with those laid over them that begin at `off`. -/
def overlay (src : Nat) (bs : List Byte) (off : Nat) (d : List Byte) : List Byte :=
  bs.zipIdx.map (fun (b : Byte × Nat) =>
    let p := src + b.2
    if off ≤ p ∧ p < off + d.length then d.getD (p - off) 0 else b.1)

/-- R36: a transfer out, or a BCMD, in flight may still read a granule that another tile instruction writes: a free value says, for each piece that
has not landed, whether it carries the new bytes. -/
def State.reread (s : State) (n seq off : Nat) (d : List Byte) : State :=
  let late (s : State) (src len : Nat) (change : State → State) : State :=
    if off < src + len ∧ src < off + d.length then
      let (x, s) := s.free
      if x % 2 = 1 then change s else s
    else s
  ((s.spire n).tq.filter (fun x => x.started && x.seq ≠ seq && x.done.isNone && x.waiting ≠ [])).foldl
    (fun s x => match x.op with
      | .tmove f =>
        let ts := x.descs.getD 0 default
        if (x.descs.getD 1 default).space = 0 then s
        else (x.acc.filter (fun a => x.waiting.contains a.id)).foldl
          (fun s a =>
            let src := ts.byteAt a.pos
            late s src a.len (fun s =>
              let upd (r : Req) : Req := if r.id = a.id then { r with kind := again f ts src off d r.kind } else r
              s.setNet { s.net with reqs := s.net.reqs.map upd }))
          s
      | .bcmd _ =>
        let src := (x.vals.getD 1 0).toNat
        s.net.appends.foldl
          (fun s a =>
            if ! x.waiting.contains a.id then s
            else late s src (64 * a.cmds.length) (fun s =>
              let laid (c : BitVec 512 × Nat) : BitVec 512 := BitVec.ofNat 512 (natLE (overlay (src + 64 * c.2) (bytesLE 64 c.1.toNat) off d))
              s.setNet { s.net with appends := s.net.appends.map (fun b => if b.id = a.id then { b with cmds := b.cmds.zipIdx.map laid } else b) }))
          s
      | _ => s)
    s
where
  /-- a piece's request made again from its source bytes with the new ones laid over them -/
  again (f : FmtX) (ts : TDesc) (src off : Nat) (d : List Byte) : ReqKind → ReqKind
    | .write bs => .write (overlay src bs off d)
    | .reduce r => pieceKind f ts (overlay src (r.elems.flatMap (bytesLE (ts.fmt.bits / 8))) off d)
    | k => k

/-- R36: the writes of a completing tile instruction; where another's write met the granule since the start, a free value says
which of the two it holds. -/
def State.tileWrites (s : State) (n : Nat) (e : QEntry) (ws : List (Nat × List Byte)) : State :=
  ws.foldl
    (fun s w =>
      (granules w.1 w.2.length).foldl
        (fun s g =>
          let clash := e.met.any (fun m => decide (m.1 / 64 * 64 < g.1 + g.2) && decide (g.1 / 64 * 64 < m.1 + m.2.length))
          let d := (w.2.drop (g.1 - w.1)).take g.2
          if clash then
            let (x, s) := s.free
            if x % 2 = 1 then (s.setSpire n ((s.spire n).put g.1 d).1).reread n e.seq g.1 d else s
          else (s.setSpire n ((s.spire n).put g.1 d).1).reread n e.seq g.1 d)
        s)
    s

/-- Writes with free bytes: those that come from inputs which the instruction's own outputs meet, otherwise than in place (R36, R110). -/
def State.scramble (s : State) (ws : List (Nat × List Byte)) : List (Nat × List Byte) × State :=
  let total := ws.foldl (fun n w => n + w.2.length) 0
  let base := s.ctr
  let r := ws.foldl
    (fun (a : List (Nat × List Byte) × Nat) w =>
      (a.1 ++ [(w.1, (upFrom 0 w.2.length).map (fun i => BitVec.ofNat 8 (Config.free (base + a.2 + i))))], a.2 + w.2.length))
    ([], 0)
  (r.1, { s with ctr := s.ctr + total })

/-- The first poisoned row of some runs, in the scratchpad as an instruction found it. -/
def firstPoison (p : Tab Unit) (runs : List (Nat × Nat)) : Option Nat := (runs.find? (fun r => anyPoison p r.1 r.2)).map (·.1)

/-! ## Completion -/

/-- The runs of a panel that a K extent reads. -/
def panelRuns (d : TDesc) (sd : Option TDesc) (k : Nat) : List (Nat × Nat) :=
  (d.addr, ceilDiv k (panelDepth d.fmt) * panelStep d.fmt)
    :: (match sd with | some x => (upFrom 0 (k / 32)).map (fun b => (x.addr + b * x.stride, 32)) | none => [])

/-- R108: an MMA completes. -/
def State.finishMma (s : State) (n : Nat) (e : QEntry) (f : FmtM) : State :=
  let ds := e.scaled
  let (da, sa) := ds.getD 0 default
  let (db, sb) := ds.getD 1 default
  let dp := (ds.getD 2 default).1
  let k := (e.vals.getD 0 0).toNat
  let a := f.acc.toNat
  let acc := (s.spire n).acc a
  let wide : Bool := classOf da.fmt = .wide
  let frame : Int := if da.mx || db.mx then f.frame.toInt else if wide then 56 else 0
  let runs := panelRuns da sa k ++ panelRuns db sb k ++ (if f.init = 2 then dp.rowsOf else [])
  if f.init = 0 ∧ acc.poison.cells ≠ [] then s.tileFault n .mq e .completion Cause.poison 0 0 0
  else
    match firstPoison e.snapPoison runs with
    | some p => s.tileFault n .mq e .completion Cause.poison p 0 0
    | none =>
      let (m, s) := s.tileView n e
      let init (i : Nat) : Nat × Flags :=
        if f.init = 0 then ((acc.entries.get 0 i).toNat, Flags.none)
        else if f.init = 1 then (0, Flags.none)
        else
          let p := dp.elem m.read (i / 32) (i % 32)
          if wide && dp.fmt = .fp32 then preloadWide frame (unpack .fp32 0 p) else (p, Flags.none)
      let (l, fl) := mmaResult wide frame da db sa sb k m.read init
      let sp := s.spire n
      let sp := sp.setAcc a { cls := acc.cls, frame := acc.frame, entries := ⟨(l.filter (fun c => c.2 ≠ 0)).reverse⟩, poison := .empty }
      let s := (s.setSpire n (sp.flag fl)).countPerf n evKStep (ceilDiv k (kDepth da.fmt db.fmt))
      s.tileGone n .mq e true

/-- The inputs of a VEXPR: IN0 to IN2 with the captured descriptors in order. -/
def vexprIns (sp : Spire) : List (BitVec 5) → List (TDesc × Option TDesc) → List VIn
  | [], _ => []
  | c :: r, ds =>
    if c = 31 then .none :: vexprIns sp r ds
    else if c = 16 ∨ c = 17 then .acc (sp.acc (c.toNat - 16)) :: vexprIns sp r ds
    else (match ds with | (d, sd) :: q => .tile d sd :: vexprIns sp r q | [] => .none :: vexprIns sp r [])

/-- The runs that an input reads. -/
def VIn.runs : VIn → List (Nat × Nat)
  | .tile d sd => d.rowsOf ++ ((sd.map TDesc.rowsOf).getD [])
  | _ => []

/-- R110: may an output read and write a tile in place: the same ADDR, STRIDE and element size? -/
def TDesc.inPlace (d td : TDesc) : Bool := d.addr = td.addr && d.stride = td.stride && d.fmt.bits = td.fmt.bits

/-- R110: does row r of an input, with its scales, meet an output otherwise than in place? `td` with its scale tile and `tr` where they are
written. -/
def VIn.rowClashes (i : VIn) (r : Nat) (td : Option (TDesc × Option TDesc)) (tr : Option TDesc) : Bool :=
  match i with
  | .tile d sd =>
    let row (x : TDesc) : List (Nat × Nat) := [(x.addr + (if x.rows = 1 then 0 else r) * x.stride, x.rowBytes)]
    let scales : List (Nat × Nat) := (sd.map row).getD []
    let meets (y : Option TDesc) (runs : List (Nat × Nat)) : Bool := (y.map (fun t => runsMeet t.rowsOf runs)).getD false
    let out := td.map (·.1)
    let outScale := td.bind (·.2)
    let kept : Bool := (out.map d.inPlace).getD false
    let scaleKept : Bool := match sd, outScale with | some x, some y => x.inPlace y | _, _ => false
    (meets out (row d) && ! kept) || (meets outScale scales && ! scaleKept) || meets out scales || meets outScale (row d)
      || meets tr (row d ++ scales)
  | _ => false

/-- R36, R110, R111: what a VEXPR writes and the flags it sets. A row whose inputs its own outputs meet, otherwise than in place, is free, with its
flags; so are the bytes that both outputs hold, which the spec does not settle (log 15). -/
def State.vexprOut (s : State) (a : VArgs) (rd : Nat → Byte) : List (Nat × List Byte) × Flags × State :=
  let td := if a.f.noout = 1 then none else some (a.td, a.tdScale)
  let tr := if a.f.red = 0 then none else some a.tr
  let taint (r : Nat) : Bool := a.ins.any (fun i => i.rowClashes r td tr)
  let main : List (Nat × Nat) := (td.map (fun x => x.1.rowsOf ++ ((x.2.map TDesc.rowsOf).getD []))).getD []
  let red : List (Nat × Nat) := (tr.map TDesc.rowsOf).getD []
  let (ws, fl, s) :=
    if (upFrom 0 a.td.rows).any taint then
      (upFrom 0 a.td.rows).foldl
        (fun (acc : List (Nat × List Byte) × Flags × State) r =>
          let o := vexprRow a rd r
          if taint r then
            let (ws, s) := acc.2.2.scramble o.writes
            let (x, s) := s.free
            (acc.1 ++ ws, acc.2.1 ||| BitVec.ofNat 9 x, s)
          else (acc.1 ++ o.writes, acc.2.1 ||| o.flags, acc.2.2))
        ([], Flags.none, s)
    else
      let o := vexprResult a rd
      (o.writes, o.flags, s)
  if ! runsMeet main red then (ws, fl, s)
  else
    let (ws, s) := ws.foldl
      (fun (acc : List (Nat × List Byte) × State) w =>
        let (bs, s) := acc.2.loosen w.1 w.2 (fun p => inRuns main p && inRuns red p)
        (acc.1 ++ [(w.1, bs)], s))
      ([], s)
    (ws, fl, s)

/-- R111: a VEXPR completes. -/
def State.finishVexpr (s : State) (n : Nat) (e : QEntry) (f : FmtV) : State :=
  let sp := s.spire n
  let ds := e.scaled
  let (td, tdScale) := ds.getD 0 default
  let tr := (ds.getLastD default).1
  let seen : Spire := match e.done with | some (a0, a1) => { sp with a0 := a0, a1 := a1 } | none => sp
  let ins := vexprIns seen [f.in0, f.in1, f.in2] (ds.drop 1)
  let cs := (e.late.take 4).map (fun w => if midFmt ins = .fp64 then w.toNat else w.toNat % 2 ^ 32)
  let badAcc : Bool := ins.any (fun i => match i with | .acc a => a.poison.cells ≠ [] | _ => false)
  match (if badAcc then some 0 else firstPoison e.snapPoison (ins.flatMap VIn.runs)) with
  | some p => s.tileFault n .vq e .completion Cause.poison p 0 0
  | none =>
    let (m, s) := s.tileView n e
    let a : VArgs := { f := f, td := td, tdScale := tdScale, tr := tr, ins := ins, cs := cs, stream := (e.late.getD 4 0).toNat,
                       seed := e.late.getD 5 0, rident := (e.late.getD 6 0).toNat }
    let (ws, fl, s) := s.vexprOut a m.read
    let s := s.tileWrites n e ws
    let s := (s.setSpire n ((s.spire n).flag fl)).countPerf n evElem (vexprElems a)
    s.tileGone n .vq e true

/-- The bytes of a transfer in, laid at their own addresses: `d` from position `base`. -/
def gotMemory (d : TDesc) (base : Nat) (got : List (Nat × List Byte)) : Memory :=
  got.foldl
    (fun m g => if base ≤ g.1 ∧ g.1 < base + d.rows * d.rowBytes then m.writeN (d.byteAt (g.1 - base)) g.2 else m) .zero

/-- The answers of the host for a tile, by pieces of at most 512 bytes within a page: the bytes in order, and the first piece
that failed. An answer that is missing counts as zeros (log 45). -/
def hostGot (d : TDesc) (base : Nat) (host : List HostAns) : List (Nat × List Byte) × Option (Nat × Nat) :=
  ((fetchPieces hostCut d base).zipIdx).foldl
    (fun (r : List (Nat × List Byte) × Option (Nat × Nat)) (pi : Piece × Nat) =>
      match host[pi.2]? with
      | some .busError => (r.1, match r.2 with | none => some (pi.1.pos, pi.1.src) | x => x)
      | some (.data bs) => (r.1 ++ [(pi.1.pos, (bs ++ List.replicate pi.1.len 0).take pi.1.len)], r.2)
      | none => (r.1 ++ [(pi.1.pos, List.replicate pi.1.len 0)], r.2))
    ([], none)

/-- R112, R113: the scratchpad writes of a TMOVE into the local scratchpad, from a memory that holds its source. -/
def inWrites (e : QEntry) (f : FmtX) (src scales : Memory) (dst : Nat → Byte) : List (Nat × List Byte) :=
  let ts := e.descs.getD 0 default
  let td := e.descs.getD 1 default
  if td.layout = 1 then
    panelWrites ts td (f.pan = 1) src.read dst
      ++ (if ts.mx then scaleWrites (e.descs.getD 2 default) (e.descs.getD 3 default) (f.pan = 1) scales.read else [])
  else (upFrom 0 td.rows).map (fun r => (td.addr + r * td.stride, src.readN (ts.addr + r * ts.stride) ts.rowBytes))

/-- A local TMOVE whose destination meets its source: the bytes that come from places it writes itself are free, unless the two tiles are one, which
the copy leaves as it is. The layout run on a memory that marks those places says which bytes these are (log 15). -/
def State.selfMove (s : State) (e : QEntry) (f : FmtX) (ws : List (Nat × List Byte)) : List (Nat × List Byte) × State :=
  let ts := e.descs.getD 0 default
  let td := e.descs.getD 1 default
  let ss := e.descs.getD 2 default
  let dst := ws.map (fun w => (w.1, w.2.length))
  let src := (if ts.space = 0 then ts.rowsOf else []) ++ (if movesScales ts td && ss.space = 0 then ss.rowsOf else [])
  if ! runsMeet dst src || (td.layout = 0 && ts.addr = td.addr && ts.stride = td.stride) then (ws, s)
  else
    let mark (l : List (Nat × Nat)) : Memory :=
      l.foldl (fun (m : Memory) r => m.writeN r.1 ((upFrom r.1 r.2).map (fun a => if inRuns dst a then 0xFF else 0))) .zero
    let doubt := (inWrites e f (mark (if ts.space = 0 then ts.rowsOf else [])) (mark (if ss.space = 0 then ss.rowsOf else [])) (fun _ => 0)).map (·.2)
    (ws.zip doubt).foldl
      (fun (acc : List (Nat × List Byte) × State) (wd : (Nat × List Byte) × List Byte) =>
        let (bs, s) := acc.2.loosen wd.1.1 wd.1.2 (fun p => wd.2.getD (p - wd.1.1) 0 ≠ 0)
        (acc.1 ++ [(wd.1.1, bs)], s))
      ([], s)

/-- The transfer failed after bytes had moved (R53, R127). -/
def State.failTile (s : State) (n : Nat) (e : QEntry) : State :=
  let (cause, _, addr) := e.err.getD (Cause.bus, 0, 0)
  s.tileFault n .tq e .completion cause addr e.wrote 0

/-- R230, R231: may the writes of a FIN transfer into the local scratchpad land? -/
def Spire.finReady (sp : Spire) (e : QEntry) (f : FmtX) : Bool := sp.finDeps e f = ([], [])

/-- A TMOVE completes (R34, R113). A transfer in that failed leaves the granules it did not reach; which of those it had it wrote
is open, and it writes none (log 42). -/
def State.finishTmove (s : State) (n : Nat) (e : QEntry) (f : FmtX) (host : List HostAns) : State :=
  let sp := s.spire n
  let ts := e.descs.getD 0 default
  let td := e.descs.getD 1 default
  if e.err.isSome then s.failTile n e
  else if td.space ≠ 0 then s.tileGone n .tq e true
  else if ! sp.finReady e f then s
  else if s.groupLost n e f then s.tileFault n .tq e .completion Cause.bus td.addr 0 0
  else
    let total := ts.rows * ts.rowBytes
    let ss := e.descs.getD 2 default
    let scaled := movesScales ts td
    let isLocal (d : TDesc) : Bool := d.space = 0
    let (g, bad) := if ts.space = 3 then hostGot ts 0 host else (e.got, none)
    let (g2, bad2) := if scaled && ss.space = 3 then hostGot ss total (host.drop (if ts.space = 3 then g.length else 0)) else (e.got, none)
    let poison := firstPoison e.snapPoison
      ((if isLocal ts then ts.rowsOf else []) ++ (if scaled && isLocal ss then ss.rowsOf else []))
    match poison, (match bad with | some x => some x | none => bad2) with
    | some p, _ => s.tileFault n .tq e .completion Cause.poison p 0 0
    | none, some (_, a) => s.tileFault n .tq e .completion Cause.bus a 0 0
    | none, none =>
      let (m, s) := if isLocal ts || (scaled && isLocal ss) then s.tileView n e else (.zero, s)
      let src := if isLocal ts then m else gotMemory ts 0 g
      let scales := if isLocal ss then m else gotMemory ss total g2
      let ws := inWrites e f src scales sp.spad.read
      let (ws, s) := s.selfMove e f ws
      let s := s.tileWrites n e ws
      let s := s.countMoved n ts total
      let s := if scaled then s.countMoved n ss (ss.rows * ss.rowBytes) else s
      s.tileGone n .tq e true

/-- R115: a VGATHER completes. -/
def State.finishGather (s : State) (n : Nat) (e : QEntry) : State :=
  let td := e.descs.getD 0 default
  if e.err.isSome then s.failTile n e
  else
    let ws := e.got.map (fun g => (td.addr + g.1, g.2))
    (s.tileWrites n e ws).tileGone n .tq e true

/-- A tile instruction with nothing outstanding completes. FSIGNAL completes on its acknowledgement (FENCE_ACK). -/
def State.finishTile (s : State) (n : Nat) (e : QEntry) (host : List HostAns) : State :=
  match e.op with
  | .mma f => s.finishMma n e f
  | .vexpr f => s.finishVexpr n e f
  | .tmove f => s.finishTmove n e f host
  | .vgather _ => s.finishGather n e
  | .bcmd _ => if e.err.isSome then s.failTile n e else s.tileGone n .tq e true
  | .fsignal _ => s

/-- R34 TILE_COMPLETE: of entry `k` of a queue; MQ and VQ complete in order. -/
def execTileComplete (sp : Sp) (q : TileQ) (k : Nat) (host : List HostAns) (s : State) : Out :=
  .next (
    match ((s.spire sp.val).queue q)[k]? with
    | some e => if e.started && e.waiting = [] && (q = .tq || k = 0) then s.finishTile sp.val e host else s
    | none => s)

end Sys2Proof.Machine
end

