-- ==== Sys2Proof/Machine/SpireEvents.lean ====
section
/-! DEFINITION. Events of a spire (R27, R34, R56, R57, R103, R117, R118, R121, R127, R129, R130, R234, R395, R448): answers and
acknowledgements that reach it, polls and timeouts, halting, saving, mooring and waking. -/

namespace Sys2Proof.Machine

/-! ## Answers of reads -/

/-- A line with the stores of its own spire made since (R49). -/
def patched (bytes : List Byte) (ps : List (Nat × List Byte)) : List Byte :=
  ps.foldl (fun bs p => bs.take p.1 ++ p.2 ++ bs.drop (p.1 + p.2.length)) bytes

/-- A line installed in the data cache: 1,024 lines in 128 sets of 8 (R22). The victim of a full set is a free value, since the
spec gives no replacement rule (log 23). Nothing is installed while an FWAIT is pending (R121). -/
def State.install (s : State) (n line : Nat) (bytes : List Byte) : State :=
  let sp := s.spire n
  let waiting : Bool := match sp.wait with | .fwait _ _ _ _ _ _ => true | _ => false
  if waiting || sp.run = .free then s
  else
    let mates := (sp.cache.keys.filter (fun k => k % 128 = line % 128 && k ≠ line))
    if mates.length < 8 then s.setSpire n { sp with cache := sp.cache.set line bytes }
    else
      let (x, s) := s.free
      let victim := mates.getD (x % mates.length) 0
      s.setSpire n { sp with cache := (sp.cache.erase victim).set line bytes }

/-- The fault of an answer that is not OK (R126). -/
def badCause (st : AccStatus) : Nat := if st = .poison then Cause.poison else Cause.bus

/-- A completion fault of the scalar unit. -/
def State.scalarFault (s : State) (n seq pc cause addr : Nat) : State := s.setSpire n ((s.spire n).lateFault seq pc cause addr)

/-- R118: a poll of a WAITF returns with its word. -/
def State.pollReturns (s : State) (n : Nat) (v : W64) : State :=
  let sp := s.spire n
  match sp.wait with
  | .waitf f seq addr true w lo len _ expired =>
    if waitfLook.compare (f.aux.extractLsb' 1 3).toNat v w then waitfEnds s n f sp true v lo len
    else if expired then waitfEnds s n f sp false v lo len
    else s.setSpire n { sp with wait := .waitf f seq addr true w lo len false false }
  | _ => s

/-- The data of a scalar read, LDA, gather element or poll used (R27, R103, R117, R118). -/
def State.useLoad (s : State) (n : Nat) (l : Load) (r : Resp) : State :=
  let off := l.addr % 64
  let line := if l.use = .acquire ∨ l.use = .poll then [] else r.bytes
  let word := if l.use = .acquire ∨ l.use = .poll then r.bytes else (r.bytes.drop off).take l.size
  let s := if l.install && line ≠ [] then s.install n (l.addr / 64) (patched line l.patch) else s
  match l.use with
  | .poll => s.pollReturns n (BitVec.ofNat 64 (natLE word))
  | .gather seq i =>
    let upd (e : QEntry) : QEntry := { e with got := e.got ++ [(i * l.size, word)], waiting := e.waiting.erase l.id }
    s.setSpire n ((s.spire n).updEntry .tq seq upd)
  | _ => s.setSpire n ((s.spire n).setS l.rd (extend l.size l.signed (natLE word)))

/-- The answer of a scalar read or gather element. -/
def State.loadReturns (s : State) (n : Nat) (l : Load) (r : Resp) : State :=
  let sp := s.spire n
  let s := s.setSpire n { sp with loads := sp.loads.filter (fun x => x.id ≠ l.id) }
  if r.status = .ok then s.useLoad n l r
  else match l.use with
    | .gather seq _ =>
      let upd (e : QEntry) : QEntry :=
        let x := (badCause r.status, 0, l.addr)
        { e with waiting := e.waiting.erase l.id, err := some (match e.err with | some y => if y.2.2 ≤ l.addr then y else x | none => x) }
      s.setSpire n ((s.spire n).updEntry .tq seq upd)
    | _ => s.scalarFault n l.seq l.pc (badCause r.status) l.addr

/-- The earlier of two errors of a transfer, by byte number. -/
def worseErr (e : Option (Nat × Nat × Nat)) (x : Nat × Nat × Nat) : Option (Nat × Nat × Nat) :=
  match e with | some y => if y.2.1 ≤ x.2.1 then some y else some x | none => some x

/-- The address that a byte of a transfer has on the outside. -/
def QEntry.outside (e : QEntry) (pos : Nat) : Nat :=
  let ts := e.descs.getD 0 default
  let td := e.descs.getD 1 default
  if td.space ≠ 0 then (if ts.fmt.bits = td.fmt.bits then td.byteAt pos else td.byteAt (pos / (ts.fmt.bits / 8) * (td.fmt.bits / 8)))
  else if pos < ts.rows * ts.rowBytes then ts.byteAt pos
  else (e.descs.getD 2 default).byteAt (pos - ts.rows * ts.rowBytes)

/-- An answer of a transfer's read. -/
def State.tileReturns (s : State) (n : Nat) (e : QEntry) (r : Resp) : State :=
  match e.acc.find? (fun a => a.id = r.id) with
  | none => s
  | some a =>
    let upd (x : QEntry) : QEntry :=
      let x := { x with waiting := x.waiting.erase r.id }
      if r.status = .ok then { x with got := x.got ++ [(a.pos, r.bytes)] }
      else { x with err := worseErr x.err (badCause r.status, a.pos, e.outside a.pos) }
    s.setSpire n ((s.spire n).updEntry .tq e.seq upd)

/-- R27 LOAD_DATA_RETURN: the answer of a read of a spire arrives. -/
def execLoadDataReturn (id : Nat) (s : State) : Out :=
  .next (
    match s.net.resps.find? (fun r => r.id = id) with
    | some r =>
      match r.agent with
      | .spire n =>
        let s := s.setNet { s.net with resps := s.net.resps.filter (fun x => x.id ≠ id) }
        let sp := s.spire n
        let s := match sp.loads.find? (fun l => l.id = id) with
          | some l => s.loadReturns n l r
          | none =>
            match sp.tq.find? (fun (e : QEntry) => e.waiting.contains id) with
            | some e => s.tileReturns n e r
            | none => s
        s.acknowledged id AccStatus.ok
      | _ => s
    | none => s)

/-! ## Acknowledgements of writes (R103, R119, R122, R395) -/

/-- The kernels past their boundary whose stores are all acknowledged end (R395). -/
def State.closeTails (s : State) : State :=
  let gone := s.tails.filter (fun t => t.ids = [])
  gone.foldl (fun s t => s.instanceEnded t.kernel t.spire t.fault) { s with tails := s.tails.filter (fun t => t.ids ≠ []) }

/-- What an acknowledgement does to the spire that made the write. -/
def State.ackSpire (s : State) (n id : Nat) (st : AccStatus) : State :=
  let sp := s.spire n
  let hit := sp.stores.find? (fun x => x.id = id)
  let wait := match sp.wait with
    | .bar b deps tdeps sent arrived => .bar b (deps.erase id) tdeps sent arrived
    | w => w
  let upd (e : QEntry) : QEntry :=
    match e.waiting.contains id, e.acc.find? (fun a => a.id = id) with
    | true, some a =>
      if st = .ok then { e with waiting := e.waiting.erase id, wrote := e.wrote + a.len }
      else { e with waiting := e.waiting.erase id, err := worseErr e.err (badCause st, a.pos, e.outside a.pos) }
    | true, none =>
      { e with waiting := e.waiting.erase id, err := if st = AccStatus.ok then e.err else some (badCause st, 0, 0) }
    | false, _ => e
  let s := s.setSpire n { sp with stores := sp.stores.filter (fun x => x.id ≠ id), tq := sp.tq.map upd, wait := wait }
  let s := match hit with
    | some x => if st = AccStatus.ok then s else s.scalarFault n x.seq x.pc (badCause st) x.addr
    | none => s
  let tail (t : Tail) : Tail :=
    if t.ids.contains id then
      { t with ids := t.ids.erase id,
               fault := if st = .ok then t.fault else match t.fault with | some c => some c | none => some (badCause st) }
    else t
  (({ s with tails := s.tails.map tail }).sendArrival n).closeTails

/-! ## Polls and timeouts -/

/-- R118 WAITF_POLL. -/
def execWaitfPoll (sp : Sp) (s : State) : Out :=
  let x := s.spire sp.val
  .next (
    match x.wait with
    | .waitf f _ addr true v lo len false expired =>
      match s.readAt x.vdid addr with
      | some p => waitfRead s sp.val x f addr p v lo len expired
      | none => s.scalarFault sp.val x.seq x.pc Cause.bus addr
    | .waitf f _ off false v lo len _ _ => waitfLook s sp.val f x off v lo len false
    | _ => s)

/-- R118 WAITF_TIMEOUT: none is set when IMM[31:0] is 0. The wait ends at the read after it. -/
def execWaitfTimeout (sp : Sp) (s : State) : Out :=
  let x := s.spire sp.val
  .next (
    match x.wait with
    | .waitf f seq addr dev v lo len polling _ =>
      if bitsOf f.imm.toNat 31 0 = 0 then s
      else if dev then s.setSpire sp.val { x with wait := .waitf f seq addr true v lo len polling true }
      else waitfLook s sp.val f x addr v lo len true
    | _ => s)

/-- FWAIT completes with an outcome (R121). -/
def fwaitEnds (s : State) (n : Nat) (f : FmtS) (ok : Bool) (v : W64) : State :=
  let sp := s.spire n
  s.advance n { (sp.setS f.rd v).setP f.pd ok with wait := .none }

/-- R121 FWAIT_COMPLETE: the release has reached the spire, and the invalidation has ended. -/
def execFwaitComplete (sp : Sp) (s : State) : Out :=
  .next (
    match (s.spire sp.val).wait with
    | .fwait f _ _ _ _ (some st) => fwaitEnds s sp.val f (st = 0) st
    | _ => s)

/-- R121 FWAIT_TIMEOUT: none is set when IMM[31:0] is 0. A wait satisfied as it issued does not time out (log 46). -/
def execFwaitTimeout (sp : Sp) (s : State) : Out :=
  .next (
    match (s.spire sp.val).wait with
    | .fwait f _ _ _ early _ =>
      if bitsOf f.imm.toNat 31 0 = 0 || early then s else fwaitEnds s sp.val f false (BitVec.allOnes 64)
    | _ => s)

/-! ## Halting and saving -/

/-- R129 SPIRE_HALT: everything started has completed; the record goes to the cluster control core, which tells the DISPATCH
(R395). -/
def execSpireHalt (sp : Sp) (s : State) : Out :=
  let x := s.spire sp.val
  .next (
    match x.run, x.kernel, x.fault with
    | .draining, some k, some f =>
      if x.drained then (((s.setSpire sp.val { x with run := .halted }).dropHint sp.val).instanceLeaves sp.val k (some f.cause))
      else s
    | _, _, _ => s)

/-- The poison of the scratchpad at its place in the record (R57). -/
def Spire.recordPoison (x : Spire) : Tab Unit := ⟨x.poison.cells.map (fun c => (c.1 + 0x400, c.2))⟩

/-- R56, R57 SPIRE_SAVE: the drain has ended; the record goes to the lowest free save slot, a faulted kernel's with its flag
(R130), and the spire is free. -/
def execSpireSave (sp : Sp) (s : State) : Out :=
  let n := sp.val
  let x := s.spire n
  .next (
    match x.kernel with
    | some k =>
      let v := x.vdid
      let d := s.vd v
      -- a halted kernel is saved when its spire is reclaimed or replaced (R298, R307), and has told its DISPATCH already
      let halted : Bool := x.run = .halted && (s.leavingSpire n || x.retired)
      match if x.run = .preempted || halted then d.freeSlot else none with
      | some slot =>
        let places := s.placesOf v ((s.reg .vdsave v).get 51 0 + slotBytes * slot) recordBytes
        if ! x.drained || x.stores ≠ [] || x.loads ≠ [] then s
        else if ! s.mayTouchAll true places then s.rouseAll places
        else
          let faulted := x.fault.isSome
          let rec' : SaveRec := { slot := slot, order := d.nextSave, faulted := faulted, kernel := k, gen := d.gen, queued := x.queuedSides }
          let s := s.putBlock v ((s.reg .vdsave v).get 51 0 + slotBytes * slot) recordBytes (x.record d.gen faulted) x.recordPoison
          let s := s.setVd v { s.vd v with saves := (s.vd v).saves ++ [rec'], nextSave := d.nextSave + 1 }
          let s := match s.privSlot k.ctx with | some i => s.bump .scpre i | none => s
          let s := s.dropHint n
          let s := match halted, x.fault with | false, some f => s.instanceLeaves n k (some f.cause) | _, _ => s
          (s.setSpire n (x.zeroed n)).spireFreed n
      | none => s
    | none => s)

/-! ## Mooring (R448) -/

/-- R448 SPIRE_MOOR: a spire that has had no kernel for SPIDLE cycles moors while PWMOOR.EN is set. -/
def execSpireMoor (sp : Sp) (s : State) : Out :=
  let x := s.spire sp.val
  .next (if x.run = .free ∧ ! x.waking ∧ s.bit .pwmoor 0 32 then s.setSpire sp.val { x with moored := true } else s)

end Sys2Proof.Machine
end

