-- ==== Sys2Proof/Machine/Basin.lean ====
section
/-! DEFINITION. Basins (chapter 5): command rings, the commands, reduce-on-land, replica repair, mooring. A command's arm runs the
command at the head of the ring when its opcode is that command's and nothing holds it; BASIN_COMMAND_COMPLETE ends it. -/

namespace Sys2Proof.Machine

/-! ## Basins and their rings -/

/-- A basin that is given work wakes (R162). -/
def Basin.wake (b : Basin) : Basin := if b.moored then { b with moored := false, waking := true } else b

/-- The acknowledgement of a thing made by an agent on its way back. -/
def State.answer (s : State) (id : Nat) (agent : Agent) (st : AccStatus) : State :=
  s.setNet { s.net with acks := s.net.acks ++ [⟨id, agent, st⟩] }

/-- R133 BASIN_APPEND: an append placed whole, refused, or left waiting while the ring lacks room. -/
def execBasinAppend (id : Nat) (s : State) : Out :=
  .next (
    match s.net.appends.find? (fun a => a.id = id) with
    | none => s
    | some a =>
      let c := a.basin
      let b := s.basin c
      let gone := s.setNet { s.net with appends := s.net.appends.filter (fun x => x.id ≠ id) }
      if ! s.holdsBasin a.vd c then gone.answer id a.agent .range
      else if a.gen ≠ (s.vd a.vd).gen then gone.answer id a.agent .aborted
      else if 256 < b.ring.length + a.cmds.length then s
      else
        let n := s.reg .bseqa c
        let cmds := a.cmds.zipIdx.map (fun ci =>
          { num := n + BitVec.ofNat 64 ci.2, raw := ci.1, vd := a.vd, gen := a.gen, checked := false, sigf := none, waitf := none,
            since := 0, poisoned := false : BCmd })
        let s := gone.setReg .bseqa c (n + BitVec.ofNat 64 a.cmds.length)
        let b := { b with ring := b.ring ++ cmds }
        (s.setBasin c b.wake).answer id a.agent .ok)

/-! ## Commands -/

def BCmd.op (h : BCmd) : Nat := cmdField h.raw 0 1
def BCmd.sig (h : BCmd) : Bool := h.raw.getLsbD 8
def BCmd.wait (h : BCmd) : Bool := h.raw.getLsbD 9
def BCmd.cls (h : BCmd) : Nat := bitsOf h.raw.toNat 18 16
def BCmd.rm (h : BCmd) : Nat := bitsOf h.raw.toNat 21 19
def BCmd.arg (h : BCmd) : Nat := cmdField h.raw 3 1

/-- R135: is a reserved field of the header nonzero? -/
def BCmd.headerBad (h : BCmd) : Bool :=
  bitsOf h.raw.toNat 15 10 ≠ 0 || bitsOf h.raw.toNat 23 22 ≠ 0 || cmdField h.raw 20 4 ≠ 0
    || (! h.sig && (cmdField h.raw 4 4 ≠ 0 || cmdField h.raw 8 8 ≠ 0))
    || (! h.wait && (cmdField h.raw 16 4 ≠ 0 || cmdField h.raw 24 8 ≠ 0))
    || (h.op ≠ 3 && h.rm ≠ 0) || (! [7, 8, 9].contains h.op && h.arg ≠ 0)

/-- R134: the slot of a fence that a handle names, belonging to a context of a virtual device. -/
def State.fenceOf (s : State) (v : Nat) (h : BitVec 32) : Option Nat :=
  (s.named tyFence h (fun _ => true)).bind (fun i =>
    match s.fence i with | some f => if s.vdOfCtx f.head.owner = v then some i else none | none => none)

/-- The statuses of R137. -/
def bsReserved : Nat := 1
def bsOpcode : Nat := 2
def bsOperand : Nat := 3
def bsRange : Nat := 4
def bsPermission : Nat := 5
def bsTable : Nat := 6
def bsRowRange : Nat := 7
def bsPoison : Nat := 8
def bsBus : Nat := 9
def bsFenceErr : Nat := 10
def bsAborted : Nat := 11

/-- What a command's work comes to: the state, its status, its writes outside the channel, the bytes it moved at its own port (R408), and whether an
access of it is held at a port, so that it does not run yet (R160, R188, R303). -/
structure BDone where
  st : State
  status : Nat
  waiting : List Nat
  moved : Nat := 0
  held : Bool := false

/-- Work that has done nothing yet. -/
def BDone.start (s : State) (status : Nat := 0) : BDone := { st := s, status := status, waiting := [] }

/-- Bytes read in the basin's own channel. -/
def BDone.reads (d : BDone) (n : Nat) : BDone := { d with moved := d.moved + n }

/-- The head command's fate set. -/
def State.basinRuns (s : State) (c status : Nat) (waiting : List Nat) : State :=
  s.setBasin c { s.basin c with run := some ⟨status, waiting⟩ }

/-- The head command changed. -/
def State.setHead (s : State) (c : Nat) (h : BCmd) : State :=
  let b := s.basin c
  s.setBasin c { b with ring := h :: b.ring.drop 1 }

/-- R134: the checks of the head: its handles, whose fences it then holds; true: it goes on. -/
def State.checkHead (s : State) (c : Nat) (h : BCmd) : Bool × State :=
  if h.checked then (true, s)
  else
    let sigf := if h.sig then s.fenceOf h.vd (BitVec.ofNat 32 (cmdField h.raw 4 4)) else none
    let waitf := if h.wait then s.fenceOf h.vd (BitVec.ofNat 32 (cmdField h.raw 16 4)) else none
    let hold (s : State) (f : Option Nat) : State := match f with | some i => s.hold tyFence i | none => s
    let s := hold (hold s sigf) waitf
    let s := s.setHead c { h with checked := true, sigf := sigf, waitf := waitf, since := s.reg .btime 0 }
    if (h.sig && sigf.isNone) || (h.wait && waitf.isNone) then (false, s.basinRuns c bsOperand []) else (true, s)

/-- R134: what the wait fence of a checked head says: none while it holds the head, else whether it carries an error. -/
def State.headWait (s : State) (h : BCmd) : Option Bool :=
  if ! h.wait then some false
  else if h.released then some true
  else match h.waitf.bind s.fence with
    | none => some true
    | some f => if f.status ≠ 0 then some true else if (BitVec.ofNat 64 (cmdField h.raw 24 8)).ule f.value then some false else none

/-- R304: has the copy of an evacuation from a channel ended, so that its basin starts no new command before the switch? -/
def State.switching (s : State) (c : Nat) : Bool :=
  s.evacs.cells.any (fun k =>
    ! k.2.switched && ! k.2.far && k.2.src.contains c && (k.2.chunks.cells.filter (fun d => d.2 = .done)).length = k.2.total)

/-- The head of a ring, once nothing holds it. -/
def State.basinReady (s : State) (c : Nat) : Option BCmd :=
  let b := s.basin c
  if b.run.isSome || b.moored || b.waking || s.portHeld c || s.portQueued c || s.switching c then none else b.ring.head?

/-- The command of opcode `op` at the head of a ring runs: header, handles, wait, then its own work (R134 to R137). `mask` names
the body bytes in use. -/
def basinCommand (c : Chan) (op mask : Nat) (work : State → BCmd → BDone) (s : State) : Out :=
  .next (
    match s.basinReady c.val with
    | none => s
    | some h =>
      if h.op ≠ op || h.poisoned then s
      else
        let (ok, s) := s.checkHead c.val h
        if ! ok then s
        else match s.headWait ((s.basin c.val).ring.headD h) with
          | none => s
          | some true => s.basinRuns c.val bsFenceErr []
          | some false =>
            if h.headerBad || strayBits h.raw (byteMask [(0, 32)] ||| mask) then s.basinRuns c.val bsReserved []
            else
              let d := work s h
              if d.held then s else (d.st.granted c.val h.cls d.moved).basinRuns c.val d.status d.waiting)

/-- A command that changes nothing but has a status. -/
def bfail (s : State) (status : Nat) : BDone := .start s status

/-- Does a range lie in the part of a channel that software reaches (R132, R137): below CHTOP, where a counter area begins (R184)? -/
def State.inChan (s : State) (c off n : Nat) : Bool := off + n ≤ s.fld .chtop c 31 0

/-- The physical address of a channel offset. -/
def chanAddr (c off : Nat) : Nat := nearAddr c off

/-- May a basin's command write its channel (R137)? -/
def State.chanReadOnly (s : State) (c : Nat) : Bool := s.bit .chcfg c 24

/-- The status of a range check of a destination, byte ranges in order (R137). -/
def State.destStatus (s : State) (v a n : Nat) : Nat :=
  (granules a n).foldl
    (fun st g => if st ≠ 0 then st else match s.rangeCheck v g.1 true with
      | .at _ => 0 | .readOnly => bsPermission | .outside => bsRange) 0

/-- One write of a basin's command to device memory: into its own channel at once, elsewhere as a request. -/
def BDone.put (d : BDone) (c : Nat) (h : BCmd) (a : Nat) (bytes : List Byte) : BDone :=
  (granules a bytes.length).foldl
    (fun d g =>
      let piece := (bytes.drop (g.1 - a)).take g.2
      match d.st.rangeCheck h.vd g.1 true with
      | .at p =>
        if portOf p = c then
          let (s, bad) := d.st.devWrite p piece
          { d with st := s, status := if bad then bsPoison else d.status, moved := d.moved + g.2, held := d.held || d.st.copying p }
        else
          let (id, s) := d.st.fresh
          { d with st := s.send (plainReq id (.basin c) h.vd h.cls (.dev p) g.1 (.write piece)), waiting := d.waiting ++ [id] }
      | _ => { d with status := if d.status = 0 then bsRange else d.status })
    d

/-- Bytes of the basin's own channel. -/
def State.chanRead (s : State) (c off n : Nat) : List Byte := s.dev.readN (chanAddr c off) n

/-- Is a range of the channel poisoned? -/
def State.chanPoison (s : State) (c off n : Nat) : Bool := anyPoison s.devPoison (chanAddr c off) n

/-- Is no chunk of a physical range being copied by an evacuation (R303)? -/
def State.copyFree (s : State) (a n : Nat) : Bool := (cutFrom (2 ^ 20) (n / 2 ^ 20 + 2) a n).all (fun g => ! s.copying g.1)

/-- A write into the basin's own channel. -/
def BDone.local' (d : BDone) (c off : Nat) (bytes : List Byte) : BDone :=
  let (s, bad) := d.st.devWrite (chanAddr c off) bytes
  { d with st := s, status := if bad && d.status = 0 then bsPoison else d.status, moved := d.moved + bytes.length,
           held := d.held || ! d.st.copyFree (chanAddr c off) bytes.length }

/-- R136 NOP. -/
def execBasinNop (c : Chan) (s : State) : Out := basinCommand c 0 0 (fun s _ => .start s) s

/-- R153 FILL. -/
def execBasinFill (c : Chan) (s : State) : Out :=
  basinCommand c 1 (byteMask [(32, 16)])
    (fun s h =>
      let off := cmdField h.raw 32 4
      let n := cmdField h.raw 36 4
      let pat := bytesLE 8 (cmdField h.raw 40 8)
      if off % 64 ≠ 0 ∨ n % 64 ≠ 0 then bfail s bsOperand
      else if ! s.inChan c.val off n then bfail s bsRange
      else if s.chanReadOnly c.val then bfail s bsPermission
      else BDone.local' (.start s) c.val off ((List.replicate (n / 8) pat).flatten))
    s

/-- The bytes before the first poisoned granule of a channel range. -/
def State.soundBytes (s : State) (c off n : Nat) : Nat :=
  match (granules off n).find? (fun g => s.chanPoison c g.1 g.2) with
  | some g => g.1 - off
  | none => n

/-- R154 COPY: every source byte is read before any is written; it stops at poison. -/
def execBasinCopy (c : Chan) (s : State) : Out :=
  basinCommand c 2 (byteMask [(32, 16)])
    (fun s h =>
      let off := cmdField h.raw 32 4
      let n := cmdField h.raw 36 4
      let dst := cmdField h.raw 40 8
      if off % 64 ≠ 0 ∨ n % 64 ≠ 0 ∨ dst % 64 ≠ 0 then bfail s bsOperand
      else if ! s.inChan c.val off n then bfail s bsRange
      else if s.destStatus h.vd dst n ≠ 0 then bfail s (s.destStatus h.vd dst n)
      else
        let k := s.soundBytes c.val off n
        BDone.put ((BDone.start s (if k < n then bsPoison else 0)).reads k) c.val h dst (s.chanRead c.val off k))
    s

/-- R154: the formats of CONVERT. -/
def convertFormat (code : Nat) : Option Fmt :=
  match Fmt.ofCode code with
  | some f => if [Fmt.fp32, .fp64, .fp16, .bf16, .e4m3, .e5m2, .int8, .int32, .wide].contains f then some f else none
  | none => none

/-- R73, R81, R87: one element converted. Into WIDE, an infinity becomes the overflow mark of its sign, as R73's table of conversions has it, with
the flag of that mark; R87 speaks of contributions to a sum (log 47). -/
def convertElem (sf df : Fmt) (frame : Int) (rm : RM) (r pat : Nat) : Nat × Flags :=
  if df = .wide then
    if sf = .wide then (pat, Flags.none)
    else match unpack sf frame pat with
      | .inf neg => (if neg then wideNegOvf else widePosOvf, Flags.wov)
      | v =>
        let k := toWide frame v
        (k.pat, Flags.cond k.lost Flags.wun ||| Flags.cond k.ovr Flags.wov ||| Flags.cond k.invalid Flags.nv)
  else convert df 0 rm r (unpack sf frame pat)

/-- The two's complement value of a 10-bit field. -/
def frame10 (x : Nat) : Int := toSigned 10 (x % 1024)

/-- The rounding identity of a basin (R149). -/
def basinIdent (c : Nat) : Nat := c ||| 0x100

/-- R154 CONVERT: it stops at a poisoned source granule. -/
def execConvert (c : Chan) (s : State) : Out :=
  basinCommand c 3 (byteMask [(32, 13), (48, 14)] ||| (0xFF <<< 360) ||| (0x3 <<< 368))
    (fun s h =>
      let so := cmdField h.raw 32 4
      let dst := cmdField h.raw 36 4
      let n := cmdField h.raw 40 4
      let frame := frame10 (cmdField h.raw 45 2)
      let seed := BitVec.ofNat 64 (cmdField h.raw 48 8)
      let stream := cmdField h.raw 56 6
      match convertFormat (cmdField h.raw 44 1 % 16), convertFormat (cmdField h.raw 44 1 / 16), RM.ofCode h.rm with
      | some sf, some df, some rm =>
        let ss := sf.size
        let ds := df.size
        if so % 64 ≠ 0 ∨ dst % 64 ≠ 0 then bfail s bsOperand
        else if so < dst + n * ds ∧ dst < so + n * ss ∧ ¬ (so = dst ∧ ss = ds) then bfail s bsOperand
        else if ! s.inChan c.val so (n * ss) || ! s.inChan c.val dst (n * ds) then bfail s bsRange
        else if s.chanReadOnly c.val then bfail s bsPermission
        else
          let k := s.soundBytes c.val so (n * ss) / ss
          let outs := (upFrom 0 k).map (fun j =>
            convertElem sf df frame rm (mix seed (basinIdent c.val) ((stream + j) % 2 ^ 48))
              (natLE (s.chanRead c.val (so + j * ss) ss)))
          let d := BDone.local' ((BDone.start s (if k < n then bsPoison else 0)).reads (k * ss)) c.val dst (outs.flatMap (fun o => bytesLE ds o.1))
          { d with st := d.st.basinFlag c.val (outs.foldl (fun f o => f ||| o.2) Flags.none) }
      | _, _, _ => bfail s bsOperand)
    s

/-- R155 CHECKSUM. -/
def execChecksum (c : Chan) (s : State) : Out :=
  basinCommand c 4 (byteMask [(32, 9), (48, 8)])
    (fun s h =>
      let off := cmdField h.raw 32 4
      let n := cmdField h.raw 36 4
      let alg := cmdField h.raw 40 1
      let res := cmdField h.raw 48 8
      if off % 64 ≠ 0 ∨ n % 64 ≠ 0 ∨ 1 < alg ∨ res % 8 ≠ 0 then bfail s bsOperand
      else if ! s.inChan c.val off n then bfail s bsRange
      else if s.destStatus h.vd res 8 ≠ 0 then bfail s (s.destStatus h.vd res 8)
      else if s.soundBytes c.val off n < n then bfail s bsPoison
      else
        let bs := s.chanRead c.val off n
        BDone.put ((BDone.start s).reads n) c.val h res (bytesLE 8 (if alg = 0 then crc32c bs else crc64 bs)))
    s

/-! ## Narrow rows (R151, R152) -/

/-- Do two ranges share a byte? -/
def rangesMeet (a n b m : Nat) : Bool := decide (a < b + m) && decide (b < a + n) && n ≠ 0 && m ≠ 0

/-- The rows of a GATHER written one after another, from row `i`: index array at `io`, table at `tab`, rows of `rs` bytes, to the
scratchpad of a spire or to device memory. It stops at poison, and after a row that a spire refuses (R152). -/
def gatherRows (c : Nat) (h : BCmd) (io tab rs dst : Nat) (spire : Option Nat) : Nat → Nat → BDone → BDone
  | 0, _, d => d
  | k + 1, i, d =>
    if d.st.chanPoison c (io + 4 * i) 4 then { d with status := bsPoison }
    else
      let row := tab + natLE (d.st.chanRead c (io + 4 * i) 4) * rs
      let out : Bool := ! d.st.inChan c row rs
      if ! out && d.st.chanPoison c row rs then { d with status := bsPoison }
      else
        let bytes := if out then List.replicate rs 0 else d.st.chanRead c row rs
        let d := { d.reads (if out then 4 else 4 + rs) with status := if out then bsRowRange else d.status }
        let a := dst + i * rs
        match spire with
        | none =>
          let d := d.put c h a bytes
          if d.status = bsPoison then d else gatherRows c h io tab rs dst spire k (i + 1) d
        | some t =>
          let (id, s) := d.st.fresh
          let refused := (s.spire t).inCode a rs
          let d := { d with st := s.send (plainReq id (.basin c) h.vd h.cls (.spad t a) a (.write bytes)), waiting := d.waiting ++ [id] }
          if refused then d else gatherRows c h io tab rs dst spire k (i + 1) d

/-- R151 GATHER. DSPIRE has a meaning only with DSPACE 1; a nonzero one beside DSPACE 0 is taken as a broken field rule (log 193). -/
def execGather (c : Chan) (s : State) : Out :=
  basinCommand c 5 (byteMask [(32, 15), (48, 8)])
    (fun s h =>
      let io := cmdField h.raw 32 4
      let n := cmdField h.raw 36 4
      let tab := cmdField h.raw 40 4
      let gran := cmdField h.raw 44 1
      let dspace := cmdField h.raw 45 1
      let dspire := cmdField h.raw 46 1
      let dst := cmdField h.raw 48 8
      let rs := if gran = 1 then 64 else 32
      if io % 64 ≠ 0 ∨ n = 0 ∨ 16777216 < n ∨ 1 < gran ∨ tab % rs ≠ 0 ∨ dst % 64 ≠ 0 ∨ 1 < dspace
          ∨ (dspace = 0 ∧ dspire ≠ 0) ∨ ! s.inChan c.val io (4 * n) then bfail s bsOperand
      else if dspace = 1 then
        if (s.spire dspire).vdid ≠ h.vd ∨ spadBytes < dst + n * rs then bfail s bsRange
        else gatherRows c.val h io tab rs dst (some dspire) n 0 (.start s)
      else if s.destStatus h.vd dst (n * rs) ≠ 0 then bfail s (s.destStatus h.vd dst (n * rs))
      else if (granules dst (n * rs)).any (fun g => match s.rangeCheck h.vd g.1 true with
          | .at p => portOf p = c.val && rangesMeet (p % 2 ^ 32) g.2 io (4 * n)
          | _ => false) then bfail s bsOperand
      else gatherRows c.val h io tab rs dst none n 0 (.start s))
    s

/-- The rows of a SCATTER, from row `i`: source rows at `so`, index array at `io`, table at `tab`. -/
def scatterRows (c so io tab rs : Nat) : Nat → Nat → BDone → BDone
  | 0, _, d => d
  | k + 1, i, d =>
    if d.st.chanPoison c (io + 4 * i) 4 || d.st.chanPoison c (so + i * rs) rs then { d with status := bsPoison }
    else
      let row := tab + natLE (d.st.chanRead c (io + 4 * i) 4) * rs
      if ! d.st.inChan c row rs then scatterRows c so io tab rs k (i + 1) { d with status := bsRowRange }
      else
        let (s, bad) := d.st.devWrite (chanAddr c row) (d.st.chanRead c (so + i * rs) rs)
        let d := { d with st := s, moved := d.moved + 4 + 2 * rs, held := d.held || d.st.copying (chanAddr c row) }
        if bad then { d with status := bsPoison } else scatterRows c so io tab rs k (i + 1) d

/-- R151 SCATTER. -/
def execScatter (c : Chan) (s : State) : Out :=
  basinCommand c 6 (byteMask [(32, 13), (48, 4)])
    (fun s h =>
      let so := cmdField h.raw 32 4
      let n := cmdField h.raw 36 4
      let tab := cmdField h.raw 40 4
      let gran := cmdField h.raw 44 1
      let io := cmdField h.raw 48 4
      let rs := if gran = 1 then 64 else 32
      if so % 64 ≠ 0 ∨ io % 64 ≠ 0 ∨ n = 0 ∨ 16777216 < n ∨ 1 < gran ∨ tab % rs ≠ 0 ∨ ! s.inChan c.val so (n * rs) ∨ ! s.inChan c.val io (4 * n) then
        bfail s bsOperand
      else if s.chanReadOnly c.val then bfail s bsPermission
      else scatterRows c.val so io tab rs n 0 (.start s))
    s

/-! ## The optimizer step (R144 to R150) -/

/-- A format code of a weight, moment or gradient. -/
def optFormat (wide : Bool) (code : Nat) : Option Fmt :=
  match Fmt.ofCode code with
  | some f =>
    if f = .fp32 || f = .bf16 || (f = .fp16 && ! wide) || (f = .wide && wide) then some f else none
  | none => none

/-- An operation-table entry (R144). -/
structure OptEntry where
  kind : Nat
  w : Fmt
  m : Fmt
  v : Fmt
  g : Fmt
  rmw : RM
  rms : RM
  frame : Int
  /-- the stage stored as m, user form -/
  mstage : Option Nat
  stages : List StageF
deriving DecidableEq, Repr

/-- R144: the entry that an OPTTAB body spells; none where it breaks the rules. -/
def optEntry (raw : W512) : Option OptEntry :=
  let kind := cmdField raw 32 1
  let b := BitVec.ofNat 120 (cmdField raw 40 15)
  let stages := liveStages (stagesOf b)
  let ms := cmdField raw 38 1
  let user : Bool := kind = 2
  match optFormat false (cmdField raw 33 1 % 16), optFormat false (cmdField raw 33 1 / 16), optFormat false (cmdField raw 34 1 % 16),
      optFormat true (cmdField raw 34 1 / 16), RM.ofCode (cmdField raw 35 1 % 8), RM.ofCode (cmdField raw 35 1 / 8 % 8) with
  | some w, some m, some v, some g, some rmw, some rms =>
    if 2 < kind ∨ (user ∧ badStages [0, 0, 0] b) ∨ (! user ∧ (b ≠ 0 ∨ ms ≠ 0))
        ∨ (user ∧ stages.length ≤ ms % 8) then none
    else some { kind := kind, w := w, m := m, v := v, g := g, rmw := rmw, rms := rms, frame := frame10 (cmdField raw 36 2),
                mstage := if user ∧ ms.testBit 7 then some (ms % 8) else none, stages := stages }
  | _, _, _, _, _, _ => none

/-- R144 OPTTAB. -/
def execOpttab (c : Chan) (s : State) : Out :=
  basinCommand c 8 (byteMask [(32, 3), (40, 15)] ||| (0x3F <<< 280) ||| (0x3FF <<< 288) ||| (0x87 <<< 304))
    (fun s h =>
      if 7 < h.arg then bfail s bsOperand
      else match optEntry h.raw with
        | none => bfail s bsTable
        | some _ => .start (s.setBasin c.val { s.basin c.val with ops := (s.basin c.val).ops.set h.arg h.raw }))
    s

/-- An FP32 result with its flags. -/
abbrev FR := Nat × Flags

def fval (p : Nat) : Val := unpack .fp32 0 p
def fneg (p : Nat) : Nat := p ^^^ 0x80000000
def fmulR (a b : Nat) : FR := mid .fp32 (vmul (fval a) (fval b))
def faddR (a b : Nat) : FR := mid .fp32 (vadd .rne (fval a) (fval b))
def fsubR (a b : Nat) : FR := mid .fp32 (vadd .rne (fval a) (vneg (fval b)))
def ffmaR (a b c : Nat) : FR := mid .fp32 (vfma .rne (fval a) (fval b) (fval c))
def fsqrtR (a : Nat) : FR := mid .fp32 (vsqrt (fval a))
def frcpR (a : Nat) : FR := vrcp .fp32 (midLayout .fp32) a

/-- FP32 one. -/
def fone : Nat := 0x3F800000

/-- The hyperparameters (R145). -/
structure Hyper where
  lr : Nat
  beta1 : Nat
  beta2 : Nat
  eps : Nat
  wd : Nat
  bc1 : Nat
  bc2 : Nat
  gscale : Nat
  seed : W64
  stream : Nat
  uc0 : Nat
  uc1 : Nat
deriving DecidableEq, Repr

/-- The hyperparameter block read; none where a reserved field is nonzero. -/
def hyperOf (b : List Byte) : Option Hyper :=
  let w (o n : Nat) : Nat := natLE ((b.drop o).take n)
  if w 46 2 ≠ 0 ∨ w 56 8 ≠ 0 then none
  else some { lr := w 0 4, beta1 := w 4 4, beta2 := w 8 4, eps := w 12 4, wd := w 16 4, bc1 := w 20 4, bc2 := w 24 4,
              gscale := w 28 4, seed := BitVec.ofNat 64 (w 32 8), stream := w 40 6, uc0 := w 48 4, uc1 := w 52 4 }

/-- What one element comes to: new weight, first moment, second moment, flags. -/
structure OptOut where
  w : Nat
  m : Option Nat
  v : Option Nat
  flags : Flags
deriving DecidableEq, Repr

/-- R147: one AdamW element. -/
def adamw (p : Hyper) (w m v g : Nat) : OptOut :=
  let om1 := fsubR fone p.beta1
  let om2 := fsubR fone p.beta2
  let lwd := fmulR p.lr p.wd
  let g1 := fmulR g p.gscale
  let t1 := fmulR om1.1 g1.1
  let m1 := ffmaR p.beta1 m t1.1
  let gg := fmulR g1.1 g1.1
  let t2 := fmulR om2.1 gg.1
  let v1 := ffmaR p.beta2 v t2.1
  let vb := fmulR v1.1 p.bc2
  let sq := fsqrtR vb.1
  let d := faddR sq.1 p.eps
  let mb := fmulR m1.1 p.bc1
  let rc := frcpR d.1
  let u := fmulR mb.1 rc.1
  let w1 := ffmaR (fneg lwd.1) w w
  let w2 := ffmaR (fneg p.lr) u.1 w1.1
  { w := w2.1, m := some m1.1, v := some v1.1,
    flags := [om1, om2, lwd, g1, t1, m1, gg, t2, v1, vb, sq, d, mb, rc, u, w1, w2].foldl (fun f x => f ||| x.2) Flags.none }

/-- R147: one momentum SGD element. -/
def sgd (p : Hyper) (w m g : Nat) : OptOut :=
  let g1 := fmulR g p.gscale
  let g2 := ffmaR p.wd w g1.1
  let b1 := ffmaR p.beta1 m g2.1
  let w1 := ffmaR (fneg p.lr) b1.1 w
  { w := w1.1, m := some b1.1, v := none, flags := [g1, g2, b1, w1].foldl (fun f x => f ||| x.2) Flags.none }

/-- R148: the rounding mode of the CVT stages of a user-composed entry, which the spec does not name: a fixed function of the entry's fields (R60),
with no body (log 48). -/
def OptEntry.cvtMode (e : OptEntry) : RM := (RM.ofCode (Config.userRounding e.rmw.code e.rms.code % 6)).getD .rne

/-- R148: one element of a user-composed entry. -/
def userOpt (e : OptEntry) (p : Hyper) (r w m g : Nat) : OptOut :=
  let g1 := fmulR g p.gscale
  let (vs, fl) := runStages .fp32 e.cvtMode r [g1.1, w, m] [p.lr, p.wd, p.uc0, p.uc1] e.stages ([], Flags.none)
  { w := vs.getLastD 0, m := e.mstage.map (fun k => vs.getD k 0), v := none, flags := g1.2 ||| fl }

/-- The offsets of the arrays of an OPT (R146). -/
structure OptArrays where
  w : Nat
  m : Nat
  v : Nat
  g : Nat
deriving DecidableEq, Repr

/-- A stored element in FP32: exact, but for a WIDE gradient, which rounds by R81. -/
def optLoad (f : Fmt) (frame : Int) (pat : Nat) : FR := if f = .fp32 then (pat, Flags.none) else mid .fp32 (unpack f frame pat, Flags.none)

/-- The bytes that one element of an OPT moves in its channel, with its new state; held where a place it writes is being copied (R303). -/
def BDone.optMoved (d : BDone) (c : Nat) (e : OptEntry) (o : OptArrays) (gz : Bool) (j : Nat) (s : State) : BDone :=
  let copied (off : Nat) (f : Fmt) : Bool := d.st.copying (chanAddr c (off + j * f.size))
  let adam : Bool := e.kind = 0
  { d with st := s, moved := d.moved + 2 * (e.w.size + e.m.size + (if adam then e.v.size else 0)) + e.g.size,
           held := d.held || copied o.w e.w || copied o.m e.m || (adam && copied o.v e.v) || (gz && copied o.g e.g) }

/-- R147, R149, R150: elements `j` onward; gradients come from `g0`, the memory before any granule was zeroed. -/
def optLoop (c : Nat) (e : OptEntry) (p : Hyper) (o : OptArrays) (gz : Bool) (g0 : Memory) : Nat → Nat → BDone → BDone
  | 0, _, d => d
  | k + 1, j, d =>
    let s := d.st
    let adam : Bool := e.kind = 0
    let at' (off : Nat) (f : Fmt) : Nat := off + j * f.size
    let bad (off : Nat) (f : Fmt) : Bool := s.chanPoison c (at' off f) f.size
    if bad o.w e.w || bad o.m e.m || (adam && bad o.v e.v) || bad o.g e.g then { d with status := bsPoison }
    else
      let ld (off : Nat) (f : Fmt) : Nat := natLE (s.chanRead c (at' off f) f.size)
      let w := optLoad e.w 0 (ld o.w e.w)
      let m := optLoad e.m 0 (ld o.m e.m)
      let v := if adam then optLoad e.v 0 (ld o.v e.v) else (0, Flags.none)
      let g := optLoad e.g e.frame (g0.readLE (chanAddr c (at' o.g e.g)) e.g.size)
      let rnd (i : Nat) : Nat := mix p.seed (basinIdent c) ((p.stream + 3 * j + i) % 2 ^ 48)
      let r := match e.kind with
        | 0 => adamw p w.1 m.1 v.1 g.1
        | 1 => sgd p w.1 m.1 g.1
        | _ => userOpt e p (rnd 0) w.1 m.1 g.1
      let wr (off : Nat) (f : Fmt) (rm : RM) (i : Nat) (x : Option Nat) (sf : State × Flags) : State × Flags :=
        match x with
        | none => sf
        | some y =>
          let (q, fl) := convert f 0 rm (rnd i) (fval y)
          ((sf.1.devWrite (chanAddr c (at' off f)) (bytesLE f.size q)).1, sf.2 ||| fl)
      let gran := at' o.g e.g / 64 * 64
      let s := if gz then (s.devWrite (chanAddr c gran) (List.replicate 64 0)).1 else s
      let fl := r.flags ||| w.2 ||| m.2 ||| v.2 ||| g.2
      let (s, fl) := wr o.v e.v e.rms 2 r.v (wr o.m e.m e.rms 1 r.m (wr o.w e.w e.rmw 0 (some r.w) (s, fl)))
      optLoop c e p o gz g0 k (j + 1) (d.optMoved c e o gz j (s.basinFlag c fl))

/-- R146 OPT. -/
def execOpt (c : Chan) (s : State) : Out :=
  basinCommand c 7 (byteMask [(32, 20), (56, 8)] ||| (0x1 <<< 416))
    (fun s h =>
      let n := cmdField h.raw 32 4
      let o : OptArrays := ⟨cmdField h.raw 36 4, cmdField h.raw 40 4, cmdField h.raw 44 4, cmdField h.raw 48 4⟩
      let hp := cmdField h.raw 56 8
      if 7 < h.arg then bfail s bsOperand
      else match ((s.basin c.val).ops.find? h.arg).bind optEntry with
        | none => bfail s bsTable
        | some e =>
          let adam : Bool := e.kind = 0
          let spans := [(o.w, n * e.w.size), (o.m, n * e.m.size), (o.g, n * e.g.size)] ++ (if adam then [(o.v, n * e.v.size)] else [])
          let clash : Bool := spans.zipIdx.any (fun a => spans.zipIdx.any (fun b => a.2 ≠ b.2 && rangesMeet a.1.1 a.1.2 b.1.1 b.1.2))
          if n = 0 ∨ hp % 64 ≠ 0 ∨ (! adam ∧ o.v ≠ 0) ∨ spans.any (fun a => a.1 % 64 ≠ 0) ∨ clash then bfail s bsOperand
          else if spans.any (fun a => ! s.inChan c.val a.1 a.2) then bfail s bsRange
          else match s.readAt h.vd hp with
            | none => bfail s bsRange
            | some p =>
              if s.chanReadOnly c.val then bfail s bsPermission
              -- the block lies at another port, perhaps: the read waits for it
              else if ! s.mayTouch false p 64 then { BDone.start s with held := true }
              else if anyPoison s.devPoison p 64 then bfail s bsPoison
              else match hyperOf (s.dev.readN p 64) with
                | none => bfail s bsReserved
                | some hy => optLoop c.val e hy o (h.raw.getLsbD 416) s.dev n 0 (.start (s.granted (portOf p) h.cls 64)))
    s

/-- R143 WINCFG. -/
def execWincfg (c : Chan) (s : State) : Out :=
  basinCommand c 9 (byteMask [(32, 12)])
    (fun s h =>
      let k := h.arg
      let w : WinSlot := ⟨cmdField h.raw 32 4, cmdField h.raw 36 4, cmdField h.raw 40 4⟩
      let b := s.basin c.val
      let others := b.wins.cells.filter (fun x => x.1 ≠ k)
      let clash : Bool :=
        rangesMeet w.map (w.len / 64) w.off w.len
          || others.any (fun x => rangesMeet w.off w.len x.2.off x.2.len || rangesMeet w.map (w.len / 64) x.2.off x.2.len
            || rangesMeet x.2.map (x.2.len / 64) w.off w.len)
      if 3 < k ∨ w.off % 64 ≠ 0 ∨ w.len % 64 ≠ 0 ∨ w.map % 64 ≠ 0 then bfail s bsOperand
      else if w.len = 0 then .start (s.setBasin c.val { b with wins := b.wins.erase k })
      else if ! s.inChan c.val w.off w.len || ! s.inChan c.val w.map (w.len / 64) then bfail s bsRange
      else if clash then bfail s bsOperand
      else .start (s.setBasin c.val { b with wins := b.wins.set k w }))
    s

/-! ## Replica repair (R156, R157) -/

/-- R156: one granule of a replicated range repaired: a spare row is taken while one is left, and the replica's data is written.
A replica that is poisoned too leaves poison. -/
def State.repairGranule (s : State) (c off : Nat) (r : Replica) : State :=
  let g := off / 64 * 64
  let src := r.addr + (g - r.off)
  let a := chanAddr c g
  if anyPoison s.devPoison src 64 then s.poisonGranule a
  else ((s.useSpare c).devWrite a (s.dev.readN src 64)).1

/-- The replica entry that covers a range. -/
def Basin.replicaOf (b : Basin) (off n : Nat) : Option Replica :=
  (b.replicas.cells.find? (fun (k : Nat × Replica) => decide (k.2.off ≤ off) && decide (off + n ≤ k.2.off + k.2.len))).map (·.2)

/-- R157: the granules found uncorrectable repaired in order. One whose replica is uncorrectable too stays poisoned, and the
command stops there (R137, R156). -/
def repairAll (c : Nat) (r : Replica) : List Nat → State → BDone
  | [], s => .start s
  | g :: rest, s =>
    let s := s.repairGranule c g r
    if s.chanPoison c (g / 64 * 64) 64 then .start s bsPoison else repairAll c r rest s

/-- R157 REPAIR: `bad` are the offsets of the granules that read as uncorrectable; poisoned ones count too. -/
def execRepair (c : Chan) (bad : List Nat) (s : State) : Out :=
  basinCommand c 10 (byteMask [(32, 8)])
    (fun s h =>
      let off := cmdField h.raw 32 4
      let n := cmdField h.raw 36 4
      match (s.basin c.val).replicaOf off n with
      | none => bfail s bsOperand
      | some r =>
        if off % 64 ≠ 0 ∨ n % 64 ≠ 0 then bfail s bsOperand
        else
          let hit := (granules off n).filter (fun g => bad.any (fun b => b / 64 = g.1 / 64) || s.chanPoison c.val g.1 64)
          repairAll c.val r (hit.map (·.1)) s)
    s

/-- R156 REPLICA_REPAIR: a read of the granule met an uncorrectable error in a replicated range. With `replicaBad` the replica's
granule is uncorrectable too. -/
def execReplicaRepair (c : Chan) (off : Nat) (replicaBad : Bool) (s : State) : Out :=
  .next (
    match (s.basin c.val).replicaOf (off / 64 * 64) 64 with
    | none => s
    | some r => if replicaBad then s.poisonGranule (chanAddr c.val (off / 64 * 64)) else s.repairGranule c.val off r)

/-! ## Completion (R134, R137) -/

/-- A command leaves the ring with a status: BSEQR counts it; its fence is signalled, or BERR and BERRSEQ record an error. KIND is
that of the error status (R345). -/
def State.retireBasin (s : State) (c : Nat) (h : BCmd) (status : Nat) (kind : Nat := kindBasin) : State :=
  let s := s.setReg .bseqr c (s.reg .bseqr c + 1)
  let sigf := if h.checked then h.sigf else if h.sig then s.fenceOf h.vd (BitVec.ofNat 32 (cmdField h.raw 4 4)) else none
  let s := match sigf with
    | some slot =>
      let gen := ((s.fence slot).map (·.head.gen)).getD 0
      let v := if status = 0 then BitVec.ofNat 64 (cmdField h.raw 8 8) else errorValue (s.errStatus kind (if kind = kindBasin then status else 0))
      let s := if h.checked then s else s.hold tyFence slot
      s.sendSignal (.basin c) h.vd slot gen v true
    | none =>
      if status = 0 then s
      else (s.setReg .berr c (BitVec.ofNat 64 (status + h.op * 256))).setReg .berrseq c h.num
  match h.waitf with | some w => if h.checked then s.unhold tyFence w else s | none => s

/-- R137 BASIN_COMMAND_COMPLETE: the running command's writes have landed; or the head holds a reserved opcode, or cannot be read
(R494). -/
def execBasinCommandComplete (c : Chan) (s : State) : Out :=
  let b := s.basin c.val
  .next (
    match b.run, b.ring with
    | some r, h :: rest =>
      if r.waiting ≠ [] then s
      else (s.setBasin c.val { b with ring := rest, run := none }).retireBasin c.val h r.status
    | none, h :: _ =>
      if (h.op ≤ 10 && ! h.poisoned) || (s.basinReady c.val).isNone then s
      else if h.poisoned then s.basinRuns c.val bsPoison []
      else
        let (ok, s) := s.checkHead c.val h
        if ! ok then s
        else match s.headWait ((s.basin c.val).ring.headD h) with
          | none => s
          | some true => s.basinRuns c.val bsFenceErr []
          | some false => s.basinRuns c.val (if h.headerBad then bsReserved else bsOpcode) []
    | _, _ => s)

/-- R137: a refused write stops its command: each later write of it that is still on its way may not have left the basin yet (a free value). -/
def State.stopRun (s : State) (c : Nat) (r : BRun) : State :=
  let out := s.net.reqs.filter (fun q => r.waiting.contains q.id && q.arriving)
  let (gone, s) := out.foldl
    (fun (a : List Nat × State) q =>
      let (x, s) := a.2.free
      (if x % 2 = 1 then a.1 ++ [q.id] else a.1, s))
    ([], s)
  let s := s.setNet { s.net with reqs := s.net.reqs.filter (fun q => ! gone.contains q.id) }
  s.setBasin c { s.basin c with run := some ⟨r.status, r.waiting.filter (fun i => ! gone.contains i)⟩ }

/-- What an acknowledgement does to the basin that made the write. -/
def State.ackBasin (s : State) (c id : Nat) (st : AccStatus) : State :=
  let b := s.basin c
  match b.run with
  | some r =>
    if ! r.waiting.contains id then s
    else if st = .ok then s.setBasin c { b with run := some ⟨r.status, r.waiting.erase id⟩ }
    else
      let worse := if st = .poison then bsPoison else bsBus
      s.stopRun c ⟨if r.status = 0 ∨ r.status = bsRowRange then worse else r.status, r.waiting.erase id⟩
  | none => s

/-! ## Reduce-on-land (R138 to R142) -/

/-- The map bits of an element ORed into the map of the window slot its region lies in (R140, R143). -/
def Basin.mark (b : Basin) (c off bits : Nat) (m : Memory) : Memory :=
  match b.wins.cells.find? (fun w => decide (w.2.off ≤ off) && decide (off < w.2.off + w.2.len)) with
  | some w => orMap m (chanAddr c w.2.map) ((off - w.2.off) / 16) bits
  | none => m

/-- R138: all elements of a reducing write added into the channel. Answers the state, flags, elements landed, and whether one met
poison. -/
def State.landWrite (s : State) (c : Nat) (d : RedData) (off : Nat) : State × Flags × Nat × Bool :=
  (upFrom 0 d.elems.length).foldl
    (fun (r : State × Flags × Nat × Bool) i =>
      let (s, fl, n, bad) := r
      let o := off + i * d.red.dstSize
      let (m, f, bits, lost) := landElem s.dev s.devPoison d (chanAddr c o) i
      let m := if d.red = .windowed then (s.basin c).mark c o bits m else m
      ({ s with dev := m }, fl ||| f, if lost then n else n + 1, bad || lost))
    (s, Flags.none, 0, false)

/-- R303: what a reducing write changed is mirrored to the copies of running evacuations: its elements and its window flag map. -/
def State.mirrorLanding (s : State) (c : Nat) (d : RedData) (off : Nat) : State :=
  let n := d.elems.length * d.red.dstSize
  let again (s : State) (o n : Nat) : State := s.mirrorWrite (chanAddr c o) (s.dev.readN (chanAddr c o) n)
  let s := again s off n
  match d.red, (s.basin c).wins.cells.find? (fun w => decide (w.2.off ≤ off) && decide (off < w.2.off + w.2.len)) with
  | .windowed, some w =>
    let lo := (off - w.2.off) / 64
    again s (w.2.map + lo) ((off + n - w.2.off) / 64 + 1 - lo)
  | _, _ => s

/-- R303: would a landing write a chunk that is being copied: its elements, or its place in a window flag map? -/
def State.landHeld (s : State) (c : Nat) (d : RedData) (off : Nat) : Bool :=
  let n := d.elems.length * d.red.dstSize
  let maps := (s.basin c).wins.cells.filterMap (fun w =>
    if d.red = .windowed ∧ w.2.off < off + n ∧ off < w.2.off + w.2.len then some (w.2.map + (off - w.2.off) / 64) else none)
  ! s.copyFree (chanAddr c off) n || maps.any (fun m => ! s.copyFree (chanAddr c m) (n / 64 + 1))

/-- R138, R142 REDUCING_WRITE_LAND: the oldest write of a landing queue is added, and its acknowledgement leaves. One that finds its channel read-only
now is refused (R141). -/
def execReducingWriteLand (c : Chan) (s : State) : Out :=
  let b := s.basin c.val
  .next (
    match b.land with
    | [] => s
    | r :: rest =>
      match r.kind, r.target with
      | .reduce d, .dev a =>
        if b.moored ∨ b.waking ∨ s.portHeld c.val ∨ s.landHeld c.val d (a % 2 ^ 32) then s
        else
          let s := s.setBasin c.val { b with land := rest }.urge
          if s.chanReadOnly c.val then s.answer r.id r.agent .permission
          else
            let (s, fl, n, bad) := s.landWrite c.val d (a % 2 ^ 32)
            let s := s.mirrorLanding c.val d (a % 2 ^ 32)
            let s := (s.bump .slcnt (8 * c.val + r.cls) (d.elems.length * d.fmt.bits / 8)).basinFlag c.val fl
            let s := s.bump .bland c.val n
            s.answer r.id r.agent (if bad then .poison else .ok)
      | _, _ => s.setBasin c.val { b with land := rest }.urge)

/-- R162 BASIN_MOOR: ring and landing queue have stood empty for 4,096 basin cycles. -/
def execBasinMoor (c : Chan) (s : State) : Out :=
  let b := s.basin c.val
  .next (
    if b.ring = [] ∧ b.land = [] ∧ b.run.isNone ∧ ! b.waking ∧ s.bit .pwmoor 0 32 then s.setBasin c.val { b with moored := true }
    else s)

/-! ## Reset (R161) -/

/-- R161: a basin stopped by a reset: every command ends ABORTED, every landing write is discarded with BUS, the operation table is
not loaded; the window slots stay, since no rule clears them (log 194). `kind` tells which command the reset's timeout names. -/
def State.abortBasin (s : State) (c : Nat) (kind : Nat → Nat := fun _ => kindBasin) : State :=
  let b := s.basin c
  let s := s.setBasin c { b with ring := [], run := none, land := [], ops := .empty, urgent := false }
  let s := b.ring.zipIdx.foldl (fun s hi => s.retireBasin c hi.1 bsAborted (kind hi.2)) s
  b.land.foldl (fun s r => s.answer r.id r.agent .bus) s

end Sys2Proof.Machine
end

