-- ==== Sys2Proof/Machine/Crypto.lean ====
section
/-! DEFINITION. The published functions of R7 that the chapters on memory, security and pools use: SHAKE256 (FIPS 202), AES-256-GCM (FIPS 197, NIST SP
800-38D) and AES-256-XTS (IEEE 1619), written from those standards (log 21). -/

namespace Sys2Proof

/-! ## SHAKE256 (FIPS 202) -/

/-- A rotation to the left of a 64-bit lane. -/
def lrot (x n : Nat) : Nat := (x <<< n) % 2 ^ 64 ||| x >>> (64 - n)

/-- The rotations of step ρ, by lane x + 5y. -/
def keccakRho : List Nat := [0, 1, 62, 28, 27, 36, 44, 6, 55, 20, 3, 10, 43, 25, 39, 41, 45, 15, 21, 8, 18, 2, 61, 56, 14]

/-- The constants of step ι, by round. -/
def keccakIota : List Nat :=
  [0x1, 0x8082, 0x800000000000808A, 0x8000000080008000, 0x808B, 0x80000001, 0x8000000080008081, 0x8000000000008009, 0x8A, 0x88, 0x80008009, 0x8000000A]
  ++ [0x8000808B, 0x800000000000008B, 0x8000000000008089, 0x8000000000008003, 0x8000000000008002, 0x8000000000000080, 0x800A, 0x800000008000000A,
      0x8000000080008081, 0x8000000000008080, 0x80000001, 0x8000000080008008]

/-- One round on the 25 lanes: θ, ρ and π, χ, ι. -/
def keccakRound (a : List Nat) (rc : Nat) : List Nat :=
  let at' (l : List Nat) (x y : Nat) : Nat := l.getD (x % 5 + 5 * (y % 5)) 0
  let c := (upFrom 0 5).map (fun x => at' a x 0 ^^^ at' a x 1 ^^^ at' a x 2 ^^^ at' a x 3 ^^^ at' a x 4)
  let d := (upFrom 0 5).map (fun x => c.getD ((x + 4) % 5) 0 ^^^ lrot (c.getD ((x + 1) % 5) 0) 1)
  let t := (upFrom 0 25).map (fun i => lrot (a.getD i 0 ^^^ d.getD (i % 5) 0) (keccakRho.getD i 0))
  -- π: lane (x, y) takes lane (x + 3y, x)
  let b := (upFrom 0 25).map (fun i => at' t (i % 5 + 3 * (i / 5)) (i % 5))
  (upFrom 0 25).map (fun i =>
    let x := i % 5
    let y := i / 5
    let z := at' b x y ^^^ ((2 ^ 64 - 1 - at' b (x + 1) y) &&& at' b (x + 2) y)
    if i = 0 then z ^^^ rc else z)

/-- Keccak-f[1600]. -/
def keccakF (a : List Nat) : List Nat := keccakIota.foldl keccakRound a

/-- The rate of SHAKE256 in bytes. -/
def shakeRate : Nat := 136

/-- The lanes after `n` blocks of the padded message. -/
def shakeAbsorb : Nat → List Byte → List Nat → List Nat
  | 0, _, a => a
  | n + 1, m, a => shakeAbsorb n (m.drop shakeRate) (keccakF (a.zipIdx.map (fun (x : Nat × Nat) => if x.2 < 17 then x.1 ^^^ natLE ((m.drop (8 * x.2)).take 8) else x.1)))

/-- `n` blocks of output. -/
def shakeSqueeze : Nat → List Nat → List Byte
  | 0, _ => []
  | n + 1, a => (a.take 17).flatMap (bytesLE 8) ++ shakeSqueeze n (keccakF a)

/-- The message with its domain bits 1111 and the padding 10*1, as whole blocks. -/
def shakePad (m : List Byte) : List Byte :=
  let k := shakeRate - m.length % shakeRate
  m ++ (if k = 1 then [0x9F] else [0x1F] ++ List.replicate (k - 2) 0 ++ [0x80])

/-- The first n bytes of SHAKE256 over a message. -/
def shake256 (m : List Byte) (n : Nat) : List Byte :=
  (shakeSqueeze (n / shakeRate + 1) (shakeAbsorb (m.length / shakeRate + 1) (shakePad m) (List.replicate 25 0))).take n

/-- SHAKE256-256(x) of chapter 17: the first 32 bytes. -/
def digest (m : List Byte) : List Byte := shake256 m 32

/-! ## AES-256 (FIPS 197) -/

/-- The substitution table: byte x at bits 8x + 7 to 8x of each 128-bit row in turn. -/
def aesRows : List Nat :=
  [0x76ABD7FE2B670130C56F6BF27B777C63, 0xC072A49CAFA2D4ADF04759FA7DC982CA, 0x1531D871F1E5A534CCF73F362693FDB7, 0x75B227EBE28012079A059618C323C704]
  ++ [0x842FE329B3D63B52A05A6E1B1A2C8309, 0xCF584C4A39BECB6A5BB1FC20ED00D153, 0xA89F3C507F02F94585334D43FBAAEFD0, 0xD2F3FF1021DAB6BCF5389D928F40A351]
  ++ [0x73195D643D7EA7C41744975FEC130CCD, 0xDB0B5EDE14B8EE4688902A22DC4F8160, 0x79E4959162ACD3C25C2406490A3A32E0, 0x08AE7A65EAF4566CA94ED58D6D37C8E7]
  ++ [0x8A8BBD4B1F74DDE8C6B4A61C2E2578BA, 0x9E1DC186B95735610EF6034866B53E70, 0xDF2855CEE9871E9B948ED9691198F8E1, 0x16BB54B00F2D99416842E6BF0D89A18C]

/-- SubBytes of one byte. -/
def aesSub (x : Nat) : Nat := aesRows.getD (x / 16) 0 >>> (8 * (x % 16)) % 256

/-- A byte times x in GF(2⁸). -/
def aesDouble (x : Nat) : Nat := if x < 128 then 2 * x else (2 * x % 256) ^^^ 0x1B

/-- Two lists of bytes combined. -/
def xorNats (a b : List Nat) : List Nat := List.zipWith (· ^^^ ·) a b

/-- The rest of the key schedule: `w` holds the last eight words, newest first; `i` is the index of the next word. -/
def aesExpand : Nat → Nat → Nat → List (List Nat) → List (List Nat)
  | 0, _, _, _ => []
  | n + 1, i, rc, w =>
    let t := w.headD []
    let t := if i % 8 = 0 then xorNats ((t.drop 1 ++ t.take 1).map aesSub) [rc, 0, 0, 0] else if i % 8 = 4 then t.map aesSub else t
    let x := xorNats (w.getD 7 []) t
    x :: aesExpand n (i + 1) (if i % 8 = 0 then aesDouble rc else rc) (x :: w.take 7)

/-- The key schedule of a 32-byte key: 15 round keys of 16 bytes. -/
def aesKeys (key : List Byte) : List (List Nat) :=
  let k := key.map (·.toNat)
  let w := (upFrom 0 8).map (fun i => (k.drop (4 * i)).take 4)
  let all := w ++ aesExpand 52 8 1 w.reverse
  (upFrom 0 15).map (fun r => ((all.drop (4 * r)).take 4).flatten)

/-- ShiftRows, on a block of four columns of four bytes. -/
def aesShift (s : List Nat) : List Nat := (upFrom 0 16).map (fun i => s.getD (5 * i % 16) 0)

/-- MixColumns. -/
def aesMix (s : List Nat) : List Nat :=
  (upFrom 0 16).map (fun i =>
    let c := i / 4 * 4
    let b (k : Nat) : Nat := s.getD (c + (i + k) % 4) 0
    aesDouble (b 0) ^^^ aesDouble (b 1) ^^^ b 1 ^^^ b 2 ^^^ b 3)

/-- A block of 16 bytes enciphered. -/
def aesBlock (keys : List (List Nat)) (block : List Nat) : List Nat :=
  let s := xorNats block (keys.headD [])
  let s := ((keys.drop 1).take 13).foldl (fun s k => xorNats (aesMix (aesShift (s.map aesSub))) k) s
  xorNats (aesShift (s.map aesSub)) (keys.getD 14 [])

/-- The substitution table read backwards. -/
def aesUnsubTable : List Nat := (upFrom 0 256).map (fun y => ((upFrom 0 256).find? (fun x => aesSub x = y)).getD 0)

/-- A product in GF(2⁸) by a factor below 16. -/
def aesTimes (f x : Nat) : Nat :=
  let y := aesDouble x
  let z := aesDouble y
  (if f.testBit 0 then x else 0) ^^^ (if f.testBit 1 then y else 0) ^^^ (if f.testBit 2 then z else 0) ^^^ (if f.testBit 3 then aesDouble z else 0)

/-- ShiftRows undone. -/
def aesUnshift (s : List Nat) : List Nat := (upFrom 0 16).map (fun i => s.getD (13 * i % 16) 0)

/-- MixColumns undone. -/
def aesUnmix (s : List Nat) : List Nat :=
  (upFrom 0 16).map (fun i =>
    let c := i / 4 * 4
    let b (k : Nat) : Nat := s.getD (c + (i + k) % 4) 0
    aesTimes 14 (b 0) ^^^ aesTimes 11 (b 1) ^^^ aesTimes 13 (b 2) ^^^ aesTimes 9 (b 3))

/-- A block of 16 bytes deciphered; `table` is the substitution read backwards. -/
def aesUnblock (table : List Nat) (keys : List (List Nat)) (block : List Nat) : List Nat :=
  let back (s : List Nat) : List Nat := (aesUnshift s).map (fun x => table.getD x 0)
  let s := back (xorNats block (keys.getD 14 []))
  let s := ((keys.drop 1).take 13).reverse.foldl (fun s k => back (aesUnmix (xorNats s k))) s
  xorNats s (keys.headD [])

/-! ## XTS (IEEE 1619) -/

/-- A tweak times x in GF(2¹²⁸), as a little-endian number. -/
def xtsDouble (t : Nat) : Nat := if t < 2 ^ 127 then 2 * t else (2 * t % 2 ^ 128) ^^^ 0x87

/-- The blocks of a data unit, each with its tweak combined before and after `cipher`. -/
def xtsBlocks (cipher : List Nat → List Nat) : Nat → Nat → List Byte → List Byte
  | 0, _, _ => []
  | n + 1, t, m =>
    let w := (bytesLE 16 t).map (·.toNat)
    (xorNats (cipher (xorNats ((m.take 16).map (·.toNat)) w)) w).map (BitVec.ofNat 8) ++ xtsBlocks cipher n (xtsDouble t) (m.drop 16)

/-- The first tweak of data unit `n`: its 16-byte little-endian number under the second key. -/
def xtsTweak (key : List Byte) (n : Nat) : Nat :=
  natLE ((aesBlock (aesKeys (key.drop 32)) ((bytesLE 16 n).map (·.toNat))).map (BitVec.ofNat 8))

/-- AES-256-XTS: data unit `n`, whole blocks of 16 bytes, enciphered under a pair of keys of 32 bytes each. -/
def xtsEncrypt (key : List Byte) (n : Nat) (m : List Byte) : List Byte :=
  xtsBlocks (aesBlock (aesKeys (key.take 32))) (m.length / 16) (xtsTweak key n) m

/-- AES-256-XTS: the data unit deciphered. -/
def xtsDecrypt (key : List Byte) (n : Nat) (c : List Byte) : List Byte :=
  xtsBlocks (aesUnblock aesUnsubTable (aesKeys (key.take 32))) (c.length / 16) (xtsTweak key n) c

/-! ## GCM (NIST SP 800-38D) -/

/-- A block as a number, its first byte the most significant. -/
def gcmNat (b : List Nat) : Nat := b.foldl (fun n x => n * 256 + x) 0

/-- A product in GF(2¹²⁸), `n` bits of `x` still to take. -/
def gcmTimes : Nat → Nat → Nat → Nat → Nat
  | 0, _, _, z => z
  | n + 1, x, v, z => gcmTimes n x (if v % 2 = 1 then v / 2 ^^^ 0xE1 <<< 120 else v / 2) (if x.testBit n then z ^^^ v else z)

/-- A text in blocks of 16 bytes. -/
def gcmBlocks (t : List Byte) : List (List Byte) := (upFrom 0 ((t.length + 15) / 16)).map (fun i => (t.drop (16 * i)).take 16)

/-- GHASH over blocks, the last filled with zeros. -/
def gcmHash (h : Nat) (bs : List (List Byte)) (y : Nat) : Nat :=
  bs.foldl (fun y b => gcmTimes 128 (y ^^^ gcmNat ((b ++ List.replicate (16 - b.length) 0).map (·.toNat))) h 0) y

/-- The counter block `n` of a 12-byte IV, enciphered. -/
def gcmPad (keys : List (List Nat)) (iv : List Byte) (n : Nat) : List Byte :=
  (aesBlock keys (iv.map (·.toNat) ++ ((bytesLE 4 n).reverse.map (·.toNat)))).map (BitVec.ofNat 8)

/-- GCM encipherment and decipherment: the text combined with the keystream. -/
def gcmCrypt (key iv text : List Byte) : List Byte :=
  let keys := aesKeys key
  (gcmBlocks text).zipIdx.flatMap (fun (x : List Byte × Nat) => List.zipWith (· ^^^ ·) x.1 (gcmPad keys iv (x.2 + 2)))

/-- The GCM tag of a ciphertext. -/
def gcmTag (key iv aad ct : List Byte) : List Byte :=
  let keys := aesKeys key
  let h := gcmNat (aesBlock keys (List.replicate 16 0))
  let y := gcmHash h (gcmBlocks ct) (gcmHash h (gcmBlocks aad) 0)
  let y := gcmHash h [(bytesLE 8 (8 * aad.length)).reverse ++ (bytesLE 8 (8 * ct.length)).reverse] y
  List.zipWith (· ^^^ ·) ((bytesLE 16 y).reverse) (gcmPad keys iv 1)

end Sys2Proof
end

