-- ==== Sys2Proof/Machine/Cmds.lean ====
section
/-! DEFINITION. Host commands on queues (R289, R292, R342 to R344): whose turn it is, header checks, waits, statuses, and what a
command's work answers. A meaning runs the fetched command whose turn it is when its opcode is that meaning's. -/

namespace Sys2Proof.Machine

/-! ## Statuses (R292, R328, R344, R386, R418, R473, R486) -/

def stReserved : Nat := 0x01
def stOpcode : Nat := 0x02
def stNotPf : Nat := 0x03
def stVdid : Nat := 0x04
def stBusy : Nat := 0x05
def stRetired : Nat := 0x06
def stShare : Nat := 0x07
def stSave : Nat := 0x08
def stKind : Nat := 0x09
def stNoKey : Nat := 0x0A
def stLimit : Nat := 0x0B
def stOperand : Nat := 0x0C
def stAborted : Nat := 0x0D
def stNotDynamic : Nat := 0x0E
def stSplit : Nat := 0x0F
def stHandle : Nat := 0x10
def stFull : Nat := 0x11
def stFenceErr : Nat := 0x12
def stCancelled : Nat := 0x13
def stTimeout : Nat := 0x14
def stFault : Nat := 0x15
def stGrant : Nat := 0x16
def stNotFrozen : Nat := 0x17
def stFenceOrder : Nat := 0x18
def stBargeBad : Nat := 0x19
def stAuth : Nat := 0x1A
def stLifecycle : Nat := 0x1B
def stReplay : Nat := 0x1C
def stNoImage : Nat := 0x1D
def stBus : Nat := 0x1E
def stPoison : Nat := 0x1F
/-- RANGE of an object, work or security command: the spec names the status and gives it no code in the tables of R292 and R344, so
the code is open but for not being OK's (log 50). -/
def stRange : Nat := 1 + Config.rangeStatus % 255

/-! ## Turns -/

/-- What the work of a command comes to: it has ended, it runs on, or it holds its place and changes nothing. -/
inductive Fate where
  | ended (d : Done)
  | running
  | hold

/-- OP of a command. -/
def Cmd.op (c : Cmd) : Nat := cmdField c.raw 0 1

/-- The next command of a queue to start (R342). -/
def QueueObj.next (o : QueueObj) : Option Cmd := o.cmds.find? (fun c => c.stage = .waiting)

/-- Is an opcode a bind or module command's (R290, R328)? -/
def deviceWide (op : Nat) : Bool := op < 0x40

/-- A started command that keeps the control commands behind it waiting: any but an EVAC (log 51). -/
def Cmd.blocks (c : Cmd) : Bool := c.stage = .started && c.op ≠ 0x08

/-- Does a bind or module command run on any queue (R289)? -/
def State.bindRunning (s : State) : Bool :=
  s.objs.queues.live.cells.any (fun k => k.2.kind = 0 && k.2.cmds.any (fun c => c.blocks && deviceWide c.op))

/-- Is a firmware processor failed, or away (R483, R484)? -/
def State.procState (s : State) (p : Nat) : Nat := s.fld .fwproc p 1 0

/-- R510: have both scheduler cores failed? -/
def State.noScheduler (s : State) : Bool := s.procState 2 = 3 && s.procState 3 = 3

/-- The command whose turn it is on queue `q`, when its opcode is `op`. -/
def State.turn (s : State) (q kind op : Nat) : Option (QueueObj × Cmd) :=
  match s.objs.queues.live.find? q with
  | none => none
  | some o =>
    match o.next with
    | some c => if o.kind = kind && c.op = op && (kind ≠ 0 || ! o.cmds.any Cmd.blocks) then some (o, c) else none
    | none => none

/-- The fate of a command entered: its stage, its handles held (R337), the wait of a privileged context counted (R401). -/
def State.enter (s : State) (q : Nat) (c : Cmd) (f : Fate) (count : Bool := true) : State :=
  match f with
  | .hold => s
  | .running =>
    let s := s.updCmd q c.seq (fun x => { x with stage := if x.stage = .waiting then .started else x.stage })
    if count then s.noteStart q c.seq else s
  | .ended d => (if count then s.noteStart q c.seq else s).finishCmd q c.seq d

/-- The handles that a command names held until it retires (R337). -/
def State.nameHandles (s : State) (q : Nat) (c : Cmd) (l : List (Nat × Nat)) : State :=
  l.foldl (fun s h => s.hold h.1 h.2) (s.updCmd q c.seq (fun x => { x with holds := x.holds ++ l }))

/-- Has the command's function only VF rights (R311)? -/
def QueueObj.vf (o : QueueObj) : Bool := o.fn % 64 ≠ 0

/-- Ended with a status. -/
def State.fail (s : State) (status : Nat) (v : W64 := 0) : State × Fate := (s, .ended (s.failed status kindCommand v))

/-- Ended OK. -/
def State.okay (s : State) (v : W64 := 0) (h : BitVec 32 := 0) : State × Fate := (s, .ended (Done.ok v h))

/-- R343: an object command of opcode `op`; `mask` names the bytes in use besides OP. -/
def objectCmd (q : Qn) (op : Nat) (pf : Bool) (mask : Nat) (work : State → QueueObj → Cmd → State × Fate) (s : State) : Out :=
  .next (
    match s.turn q.val 0 op with
    | none => s
    | some (o, c) =>
      let (t, f) :=
        if pf && o.vf then s.fail stNotPf
        else if strayBits c.raw (0xFF ||| mask) then s.fail stReserved
        else work s o c
      t.enter q.val c f)

/-- R289, R328: a bind or module command of opcode `op`: from a PF, one at a time, by the scheduler core in charge. -/
def bindCmd (q : Qn) (op : Nat) (mask : Nat) (work : State → QueueObj → Cmd → State × Fate) (s : State) : Out :=
  .next (
    match s.turn q.val 0 op with
    | none => s
    | some (o, c) =>
      if op ≠ 0x23 && (s.noScheduler || (s.bindRunning && op ≠ 0x09)) then s
      else
        let (t, f) :=
          if o.vf then s.fail stNotPf
          else if s.bit .sustat 0 8 && op < 0x20 then s.fail stNoImage
          else if strayBits c.raw (0xFF ||| mask) then s.fail stReserved
          else work s o c
        t.enter q.val c f)

/-! ## Work commands (R342) -/

def Cmd.sig (c : Cmd) : Bool := c.raw.getLsbD 8
def Cmd.wait (c : Cmd) : Bool := c.raw.getLsbD 9
def Cmd.cls (c : Cmd) : Nat := bitsOf c.raw.toNat 18 16

/-- The reserved fields of the work header. -/
def Cmd.headerBad (c : Cmd) : Bool :=
  bitsOf c.raw.toNat 15 10 ≠ 0 || bitsOf c.raw.toNat 31 19 ≠ 0 || cmdField c.raw 20 4 ≠ 0
    || (! c.sig && (cmdField c.raw 4 4 ≠ 0 || cmdField c.raw 8 8 ≠ 0))
    || (! c.wait && (cmdField c.raw 16 4 ≠ 0 || cmdField c.raw 24 8 ≠ 0))

/-- A fence that a handle in a command names, for the command's context, as slot and generation. -/
def State.fenceNamed (s : State) (ctx : Nat) (h : BitVec 32) : Option (Nat × Nat) :=
  (s.named tyFence h (fun c => c = ctx)).map (fun i => (i, ((s.fence i).map (·.head.gen)).getD 0))

/-- The fence of a hold, while its storage stands. -/
def State.heldFence (s : State) (f : Option (Nat × Nat)) : Option FenceObj :=
  f.bind (fun x => (s.fence x.1).bind (fun o => if o.head.gen = x.2 then some o else none))

/-- R337: the fences of a command checked and held, once: SIGF by `sig`, WAITF by `wait`. Answers whether both are valid. -/
def State.acceptCmd (s : State) (q : Nat) (o : QueueObj) (c : Cmd) (sig wait : Option (BitVec 32)) : Bool × Cmd × State :=
  if c.checked then (true, c, s)
  else
    let find (h : Option (BitVec 32)) : Option (Nat × Nat) := h.bind (fun h => o.ctx.bind (fun x => s.fenceNamed x h))
    let sf := find sig
    let wf := find wait
    let l := (sf.toList ++ wf.toList).map (fun x => (tyFence, x.1))
    let s := (s.nameHandles q c l).updCmd q c.seq (fun x => { x with checked := true, sigf := sf, waitf := wf })
    ((sig.isNone || sf.isSome) && (wait.isNone || wf.isSome), { c with checked := true, sigf := sf, waitf := wf }, s)

/-- R342, R347: what the WAIT of a work command says: none while it holds, else the error status, 0 for the value reached. -/
def State.cmdWait (s : State) (c : Cmd) : Option (BitVec 32) :=
  if ! c.wait then some 0
  else if c.released ≠ 0 then some c.released
  else match s.heldFence c.waitf with
    | none => some 0
    | some f =>
      if f.status ≠ 0 then some f.status
      else if (BitVec.ofNat 64 (cmdField c.raw 24 8)).ule f.value then some 0 else none

/-- The virtual device of a queue's context. -/
def State.vdOfQueue (s : State) (o : QueueObj) : Nat := (o.ctx.map s.vdOfCtx).getD 0x3F

/-- Has the virtual device an open job (R391)? -/
def State.hasJob (s : State) (v : Nat) : Bool := s.bit .scvd v 0

/-- Does a started BRUN of a queue still wait for a channel at the head (R377)? -/
def State.awaitsChannel (s : State) (q : Nat) (o : QueueObj) : Bool :=
  o.cmds.any (fun c => c.stage = .started && c.op = 0x20 && ! s.barges.cells.any (fun k => k.2.queue = q && k.2.cseq = c.seq))

/-- R342: a compute or copy command of opcode `op`: handles, reserved fields, WAIT, then its work. -/
def workCmd (q : Qn) (kind op mask : Nat) (work : State → QueueObj → Cmd → State × Fate) (s : State) : Out :=
  .next (
    match s.turn q.val kind op with
    | none => s
    | some (o, c) =>
      if (s.vd (s.vdOfQueue o)).frozen || (kind = 2 && s.awaitsChannel q.val o) then s
      else
        let h32 (off : Nat) : BitVec 32 := BitVec.ofNat 32 (cmdField c.raw off 4)
        let (ok, c, s) := s.acceptCmd q.val o c (if c.sig then some (h32 4) else none) (if c.wait then some (h32 16) else none)
        let finish (r : State × Fate) (count : Bool) : State := r.1.enter q.val c r.2 count
        if ! ok then finish (s.fail stHandle) true
        else if c.headerBad || strayBits c.raw (byteMask [(0, 32)] ||| mask) then finish (s.fail stReserved) true
        else match s.cmdWait c with
          | none => s
          | some st =>
            if st ≠ 0 then finish (s, .ended ⟨stFenceErr, 0, 0, st⟩) true
            else finish (work s o c) (op ≠ 0x10))

end Sys2Proof.Machine
end

