-- ==== Sys2Proof/Machine/Meter.lean ====
section
/-! DEFINITION. Jobs and the meter (R389, R391, R453 to R458): opening and closing jobs, the attribution of an interval's energy,
records, their signatures, METER_READ and METER_ACK. -/

namespace Sys2Proof.Machine

/-- The state with the meter changed. -/
def State.setMeter (s : State) (m : Meter) : State := { s with meter := m }

/-- Records not acknowledged (R460). -/
def State.unacked (s : State) : Nat := s.fld .mtrstat 0 12 0

/-- Is the record ring full (R457)? -/
def State.meterFull (s : State) : Bool := s.bit .mtrstat 0 13

/-! ## Jobs (R391) -/

/-- R391: a job opened for a context. -/
def State.openJob (s : State) (v ctx : Nat) (jobid : W64) : State :=
  let now := s.reg .btime 0
  let j : Job := { vd := v, ctx := ctx, fn := s.fnOfCtx ctx, jobid := jobid, gen := (s.vd v).gen, tBegin := none, tEnd := 0, core := 0,
                   mem := 0, io := 0, ovh := 0, gap := false, sat := false, closed := none, lastRec := now }
  let s := s.setMeter { s.meter with jobs := s.meter.jobs ++ [j] }
  (((s.setFld .scvd v 0 0 1).setFld .scvd v 8 1 ctx).setReg .scjob v jobid).bump .scctx ctx

/-- R391: the open job of a virtual device closed; `flags` are its record's RESET and TRIP bits. -/
def State.closeJob (s : State) (v flags : Nat) : State :=
  if ! s.hasJob v then s
  else
    let close (j : Job) : Job := if j.vd = v ∧ j.closed.isNone then { j with closed := some (1 + flags) } else j
    (s.setMeter { s.meter with jobs := s.meter.jobs.map close }).setFld .scvd v 0 0 0

/-! ## An interval (R453, R454) -/

/-- Sums that stay at 2^64 − 1 (R455, R505): the sum, and whether it was cut. -/
def satAdd (a b : Nat) : Nat × Bool := if a + b < 2 ^ 64 then (a + b, false) else (2 ^ 64 - 1, true)

/-- R453, R460: a rail's energy corrected by its calibration: gain in 2^-20, offset in mW over 1 ms. The rounding of the gain's part
is not stated: `x` chooses down or up (log 52). -/
def calibrated (cal : W64) (e x : Nat) : Nat :=
  let g := toSigned 16 (cal.get 15 0) * (e : Int)
  let o := toSigned 16 (cal.get 31 16)
  let q := g / 2 ^ 20
  let q := if g % 2 ^ 20 ≠ 0 ∧ x % 2 = 1 then q + 1 else q
  ((e : Int) + q + o).toNat

/-- The meter groups with their rails, in the rail order of R440. -/
def groupRails : List (List Nat) := [[0], [1], [2, 3], [4, 5]]

/-- Activity of a virtual device in a group, and of all together. -/
def activityOf (l : List (Nat × Nat × Nat)) (g v : Nat) : Nat :=
  l.foldl (fun n a => if a.1 = g ∧ a.2.1 = v then n + a.2.2 else n) 0
def activityAll (l : List (Nat × Nat × Nat)) (g : Nat) : Nat := l.foldl (fun n a => if a.1 = g then n + a.2.2 else n) 0

/-- R454: the share of a virtual device in a group's energy, rounded down. -/
def shareOf (l : List (Nat × Nat × Nat)) (g v e : Nat) : Nat :=
  if activityAll l g = 0 then 0 else e * activityOf l g v / activityAll l g

/-- The job of a virtual device that takes its share: where one closed and another opened in the interval, the spec names none,
and a free value chooses (log 53). -/
def State.jobFor (s : State) (v : Nat) : Option Nat × State :=
  match (s.meter.jobs.zipIdx.filter (fun j => j.1.vd = v)).map (·.2) with
  | [] => (none, s)
  | [i] => (some i, s)
  | l => let (x, s) := s.free; (l[x % l.length]?, s)

/-- Energies added to a job. -/
def Job.take (j : Job) (core mem io ovh : Nat) : Job :=
  let a := satAdd j.core core
  let b := satAdd j.mem mem
  let c := satAdd j.io io
  let d := satAdd j.ovh ovh
  { j with core := a.1, mem := b.1, io := c.1, ovh := d.1, sat := j.sat || a.2 || b.2 || c.2 || d.2 }

/-- An energy register stepped (R460). -/
def State.addEnergy (s : State) (r : RegName) (n : Nat) : State := s.setReg r 0 (BitVec.ofNat 64 (satAdd (s.reg r 0).toNat n).1)

/-- R454: the energy of the four groups and the overhead shared among the jobs. -/
def State.attribute (s : State) (act : List (Nat × Nat × Nat)) (e : List Nat) (bell : Nat) : State :=
  let vds := (s.meter.jobs.map (·.vd)).eraseDups
  let part (v g : Nat) : Nat := shareOf act g v (e.getD g 0)
  let (s, shares) := vds.foldl
    (fun (r : State × List (Nat × Nat × Nat × Nat)) v =>
      let (i, s) := r.1.jobFor v
      match i with
      | some i => (s, r.2 ++ [(i, part v 0 + part v 1, part v 2, part v 3)])
      | none => (s, r.2))
    (s, [])
  let given := shares.foldl (fun n x => n + x.2.1 + x.2.2.1 + x.2.2.2) 0
  let over' := bell + (e.foldl (· + ·) 0 - given)
  if s.meter.jobs = [] then s.addEnergy .mtridle over'
  else
    let pot := over' + s.meter.carry
    let jobs := s.meter.jobs.zipIdx.map (fun j =>
      match shares.find? (fun x => x.1 = j.2) with
      | some x =>
        let t := x.2.1 + x.2.2.1 + x.2.2.2
        (j.1.take x.2.1 x.2.2.1 x.2.2.2 (if given = 0 then 0 else pot * t / given), if given = 0 then 0 else pot * t / given)
      | none => (j.1, 0))
    let shared := jobs.foldl (fun n j => n + j.2) 0
    s.setMeter { s.meter with jobs := jobs.map (·.1), carry := pot - shared }

/-! ## Records (R455 to R457) -/

/-- LCSTATE (R428, R437). -/
def State.lcState (s : State) : Nat := s.fld .lcstat 0 2 0

/-- R455: bytes 0 to 127 of a job's record. -/
def State.recordBody (s : State) (j : Job) (flags : Nat) (seq : W64) : List Byte :=
  let total := (satAdd (satAdd (satAdd j.core j.mem).1 j.io).1 j.ovh).1
  bytesLE 2 1 ++ bytesLE 1 flags ++ bytesLE 1 j.vd ++ bytesLE 2 (s.fld .cnnode 0 15 0) ++ [0, 0]
    ++ bytesLE 8 (s.reg .serial 0).toNat ++ bytesLE 4 (s.fld .mtrboot 0 31 0) ++ bytesLE 4 0 ++ bytesLE 8 seq.toNat
    ++ bytesLE 8 j.jobid.toNat ++ bytesLE 8 j.gen.toNat ++ bytesLE 8 (j.tBegin.getD 0).toNat ++ bytesLE 8 j.tEnd.toNat
    ++ bytesLE 8 j.core ++ bytesLE 8 j.mem ++ bytesLE 8 j.io ++ bytesLE 8 j.ovh ++ bytesLE 8 total
    ++ bytesLE 8 (s.reg .mtrmod 0).toNat ++ bytesLE 16 0

/-- MTRSTAT shows the unacknowledged records. -/
def State.showUnacked (s : State) : State :=
  let n := (s.reg .mtrseq 0 - 1 - s.reg .mtrack 0).toNat
  (s.setFld .mtrstat 0 12 0 n).setFld .mtrstat 0 13 13 (if 4096 ≤ n then 1 else 0)

/-- R455 to R457: a record of a job written to the ring, METER_RECORD posted, and METER_FULL when the ring is full. In MAKER it is
unsigned (R456). -/
def State.writeRecord (s : State) (j : Job) (flags : Nat) : State :=
  if s.lcState = 5 then s
  else
    let unsigned : Bool := s.lcState = 1
    let flags := flags + (if j.gap then 8 else 0) + (if j.sat then 16 else 0) + (if unsigned then 32 else 0)
    let seq := s.reg .mtrseq 0
    let r : MRec := { seq := seq, body := s.recordBody j flags seq, sig := if unsigned then some (List.replicate 1280 0) else none }
    let ring := s.meter.ring ++ [r]
    let s := s.setMeter { s.meter with ring := ring.drop (ring.length - 4096) }
    let s := (s.setReg .mtrseq 0 (seq + 1)).showUnacked
    let (e, s) := s.openEvent 0x0210 j.vd (some seq.toNat)
    let s := s.postPFs e
    let s := if j.fn % 64 = 0 then s else s.post j.fn e
    if s.meterFull then let (e, s) := s.openEvent 0x0211 0x3F none; s.postPFs e else s

/-- The records of the jobs that have closed, in order, while the ring has room for them: a record waits for room, since none that
is not acknowledged is overwritten (R457, log 54). -/
def State.writeFinals (s : State) : State :=
  let (s, kept) := s.meter.jobs.foldl
    (fun (r : State × List Job) j =>
      match j.closed with
      | some flags => if r.1.meterFull then (r.1, r.2 ++ [j]) else (r.1.writeRecord j flags, r.2)
      | none => (r.1, r.2 ++ [j]))
    (s, [])
  s.setMeter { s.meter with jobs := kept }

/-- R453 to R455 METER_INTERVAL: the end of a 1 ms interval. -/
def execMeterInterval (m : MeterReading) (s : State) : Out :=
  .next (
    let base := s.ctr
    let s := { s with ctr := s.ctr + 7 }
    let read (r : Nat) : Nat :=
      if m.silent.getD r false then 0 else calibrated (s.reg .mtrcal r) (m.railUJ.getD r 0) (Config.free (base + r))
    let e := groupRails.map (fun g => g.foldl (fun n r => n + read r) 0)
    let total := (upFrom 0 7).foldl (fun n r => n + read r) 0
    let gap := m.silent.any id
    let now := s.reg .btime 0
    let s := (s.addEnergy .mtrmod total).setFld .mtrstat 0 14 14 (if gap then 1 else 0)
    let s := s.setMeter { s.meter with jobs := s.meter.jobs.map (fun j =>
      { j with tBegin := some (j.tBegin.getD now), tEnd := now, gap := j.gap || gap }) }
    (s.attribute m.activity e (read 6)).writeFinals)

/-- R455 METER_INTERIM: a job that has stayed open another 3,600 s gets an interim record. -/
def execMeterInterim (v : Vd) (s : State) : Out :=
  .next (
    match s.meter.jobs.find? (fun j => j.vd = v.val && j.closed.isNone) with
    | none => s
    | some j =>
      if s.meterFull then s
      else
        let now := s.reg .btime 0
        let s := s.setMeter { s.meter with jobs := s.meter.jobs.map (fun k =>
          if k.vd = v.val ∧ k.closed.isNone then { k with lastRec := now } else k) }
        s.writeRecord j 0)

/-- R456 METER_SIGN: the oldest record not yet signed is signed by the meter key. -/
def execMeterSign (s : State) : Out :=
  .next (
    match s.meter.ring.find? (fun r => r.sig.isNone) with
    | none => s
    | some r =>
      if s.lcState = 5 then s
      else s.setMeter { s.meter with ring := s.meter.ring.map (fun x =>
        if x.seq = r.seq then { x with sig := some (falconSign Config.meterSecret x.body) } else x) })

/-- The 1,408 bytes of a signed record. -/
def MRec.bytes (r : MRec) : List Byte := r.body ++ r.sig.getD (List.replicate 1280 0)

/-- R457 METER_READ: the record copied to a bus address. A record that is not yet signed holds the command until it is (log 55). -/
def execMeterRead (q : Qn) (s : State) : Out :=
  objectCmd q 0x70 false (byteMask [(8, 16)])
    (fun s o c =>
      let bus := cmdField c.raw 16 8
      if bus % 64 ≠ 0 then s.fail stOperand
      else match s.meter.ring.find? (fun r => r.seq = BitVec.ofNat 64 (cmdField c.raw 8 8)) with
        | none => s.fail stOperand
        | some r => if r.sig.isNone then (s, .hold) else (s.hostWrite (o.fn / 64) bus r.bytes).okay)
    s

/-- R457 METER_ACK: every record up to RECSEQ is acknowledged; records that waited for room are written. -/
def execMeterAck (q : Qn) (s : State) : Out :=
  objectCmd q 0x71 true (byteMask [(8, 8)])
    (fun s _ c =>
      let n := BitVec.ofNat 64 (cmdField c.raw 8 8)
      let last := s.reg .mtrseq 0 - 1
      let n := if seqAfter n last then last else n
      let s := if seqAfter n (s.reg .mtrack 0) then (s.setReg .mtrack 0 n).showUnacked else s
      s.writeFinals.okay)
    s

end Sys2Proof.Machine
end

