-- ==== Sys2Proof/Machine/Pool.lean ====
section
/-! DEFINITION. Pool engines (chapter 10): pool commands, transfers, rulings, losses, and what answers from pools do. Each engine
reads and writes device memory in the step that needs it. -/

namespace Sys2Proof.Machine

/-! ## Blocks of bytes -/

/-- A range of device memory as a virtual device names it, read as bytes, and whether a granule of it is poisoned. -/
def State.readBytes (s : State) (v a n : Nat) : List Byte × Bool :=
  let (m, p) := s.getBlock v a n
  (m.readN 0 n, p.cells ≠ [])

/-- Bytes written to a range of device memory as a virtual device names it; parts outside its ranges are left out. -/
def State.putBytes (s : State) (v a : Nat) (d : List Byte) : State :=
  (granules a d.length).foldl
    (fun s g => match s.rangeCheck v g.1 true with
      | .at p => (s.devWrite p ((d.drop (g.1 - a)).take g.2)).1
      | _ => s)
    s

/-- Does a whole range lie in a virtual device's ranges (R366)? -/
def State.rangeIn (s : State) (v a n : Nat) (write : Bool) : Bool :=
  (granules a n).all (fun g =>
    (match s.rangeCheck v g.1 write with | .at _ => true | _ => false)
      && (match s.rangeCheck v (g.1 + g.2 - 1) write with | .at _ => true | _ => false))

/-! ## Engines -/

/-- The outcomes of R273 by their codes (R345). -/
def poReserved : Nat := 1
def poOperand : Nat := 2
def poRange : Nat := 3
def poExists : Nat := 4
def poNoState : Nat := 5
def poLedgerFull : Nat := 6
def poFailed : Nat := 7
def poLost : Nat := 8
def poAborted : Nat := 9

def State.engine (s : State) (e : Nat) : Engine := s.engines.get .reset e

/-- The state with an engine changed; PLSTAT shows its entries (R282). -/
def State.setEngine (s : State) (e : Nat) (x : Engine) : State :=
  { s with engines := s.engines.set e x }.setFld .plstat e 15 0 x.ledger.length

/-- This node (R267). -/
def State.node (s : State) : Nat := s.fld .cnnode 0 15 0

/-- Does an engine hold an entry of the virtual device? -/
def State.ledgerOf (s : State) (e v : Nat) : Bool := (s.engine e).ledger.any (fun l => l.vdid = v)

/-- R270: the engine of a virtual device. -/
def State.engineOf (s : State) (v : Nat) : Nat :=
  if s.ledgerOf 0 v then 0
  else if s.ledgerOf 1 v then 1
  else
    let spires := (upFrom 0 256).filter (fun n => (s.spire n).vdid = v)
    let chans := (upFrom 0 256).filter (fun c => s.fld .chcfg c 1 0 = 1 && s.fld .chcfg c 7 2 = v)
    let segs := (upFrom 0 64).filter (fun e => s.ownsSegment v e)
    match spires, chans, segs with
    | n :: _, _, _ => towerOfSpire n
    | [], c :: _, _ => towerOfChannel c
    | [], [], g :: _ => towerOfFar (g / 8)
    | [], [], [] => 1

/-- A ledger entry of a state. -/
def State.entryOf (s : State) (e v : Nat) (sid : W64) : Option Ledger :=
  (s.engine e).ledger.find? (fun l => l.vdid = v && l.sid = sid)

/-- A ledger entry changed. -/
def State.updLedger (s : State) (e v : Nat) (sid : W64) (f : Ledger → Ledger) : State :=
  let x := s.engine e
  s.setEngine e { x with ledger := x.ledger.map (fun l => if l.vdid = v ∧ l.sid = sid then f l else l) }

/-- A ledger entry removed. -/
def State.dropLedger (s : State) (e v : Nat) (sid : W64) : State :=
  let x := s.engine e
  s.setEngine e { x with ledger := x.ledger.filter (fun l => ! (l.vdid = v && l.sid = sid)) }

/-- R277: the device reference on a pinned copy's memory object dropped. -/
def State.unpin (s : State) (l : Ledger) : State := match l.mem with | some m => s.unhold tyMem m | none => s

/-- R277: the memory object of a virtual device that contains a range. -/
def State.memHolding (s : State) (v a n : Nat) : Option Nat :=
  (s.objs.mems.live.cells.find? (fun k =>
    k.2.kind = 0 && ! k.2.head.freed && s.vdOfCtx k.2.head.owner = v && decide (k.2.base ≤ a) && decide (a + n ≤ k.2.base + k.2.len))).map (·.1)

/-! ## Packets of an engine -/

/-- Bytes filled with zeros to a multiple of 8. -/
def pad8 (b : List Byte) : List Byte := b ++ List.replicate ((8 - b.length % 8) % 8) 0

/-- R274: a pool packet sent by an engine. -/
def State.poolSend (s : State) (e node vd cls : Nat) (typ : BitVec 5) (payload : List Byte) : Nat × State :=
  let (id, s) := s.fresh
  let k : Pkt := { typ := typ, p := { Packet.blank with
    dst := BitVec.ofNat 16 node, agent := BitVec.ofNat 11 (0x402 + e), cls := BitVec.ofNat 3 cls, payload := pad8 payload } }
  (id, s.inject id (.pool e) vd k)

/-- A request that awaits a response. -/
def State.poolAsk (s : State) (e node vd cls : Nat) (typ : BitVec 5) (sid xid : W64) (rest : List Byte) : Nat × State :=
  let (id, s) := s.poolSend e node vd cls typ (bytesLE 8 sid.toNat ++ rest)
  let x := s.engine e
  (id, s.setEngine e { x with asks := x.asks ++ [⟨id, node, vd, typ, sid, xid⟩] })

/-- The RULE codes of PRULE. -/
def ruleQuery : Nat := 0
def ruleOwner : Nat := 1
def ruleRelease : Nat := 2
def ruleAbandon : Nat := 3
def ruleFree : Nat := 4
def ruleLost : Nat := 5

/-- R274: a PRULE to a pool. -/
def State.poolRule (s : State) (e node vd : Nat) (sid xid : W64) (rule named : Nat) : State :=
  (s.poolAsk e node vd 0 tyPrule sid xid (bytesLE 8 xid.toNat ++ bytesLE 1 rule ++ [0] ++ bytesLE 2 named)).2

/-- Can a pool be reached: its node is not DOWN, and it has answered in time (R280)? -/
def State.poolReachable (s : State) (e node : Nat) : Bool := ! s.bit .cnpdown node 0 && ! (s.engine e).unreachable.contains node

/-- R278: ABANDON sent to a pool, or listed until it is reachable. -/
def State.abandon (s : State) (e node vd : Nat) (sid xid : W64) : State :=
  if s.poolReachable e node then s.poolRule e node vd sid xid ruleAbandon 0
  else
    let x := s.engine e
    let l := x.abandons ++ [(node, sid, xid, BitVec.ofNat 20 vd)]
    if l.length ≤ 4096 then s.setEngine e { x with abandons := l }
    else (s.setEngine e { x with abandons := l.drop 1 }).bump .plfail e

/-- R280: LOST sent to a pool, or kept until it is reachable. -/
def State.tellLost (s : State) (e node vd : Nat) (sid : W64) : State :=
  if s.poolReachable e node then s.poolRule e node vd sid 0 ruleLost 0
  else
    let x := s.engine e
    s.setEngine e { x with losses := x.losses ++ [(node, sid, BitVec.ofNat 20 vd)] }

/-- What waited for a pool is sent (R278, R280). -/
def State.poolFlush (s : State) (e node : Nat) : State :=
  let x := s.engine e
  let s := s.setEngine e { x with
    abandons := x.abandons.filter (fun a => a.1 ≠ node), losses := x.losses.filter (fun a => a.1 ≠ node) }
  let s := (x.abandons.filter (fun a => a.1 = node)).foldl (fun s a => s.poolRule e node a.2.2.2.toNat a.2.1 a.2.2.1 ruleAbandon 0) s
  (x.losses.filter (fun a => a.1 = node)).foldl (fun s a => s.poolRule e node a.2.2.toNat a.2.1 0 ruleLost 0) s

/-- R280: any response ends the unreachability of a pool: what waited for it is sent. While its node is DOWN it stays unreachable. -/
def State.poolBack (s : State) (e node : Nat) : State :=
  if s.bit .cnpdown node 0 then s
  else
    let x := s.engine e
    (s.setEngine e { x with unreachable := x.unreachable.erase node }).poolFlush e node

/-- R257, R278: a node is DOWN no more. A pool that owns no state is reachable again, and what waited for it is sent; one that owns states is
unreachable until it answers (R280). -/
def State.poolNodeUp (s : State) (node : Nat) : State :=
  [0, 1].foldl (fun (s : State) e => if (s.engine e).unreachable.contains node then s else s.poolFlush e node) s

/-! ## Ends of commands and transfers -/

/-- R273: the outcome of a pool command. -/
def State.poolDone (s : State) (code : Nat) : Done := if code = 0 then Done.ok else ⟨code, 0, 0, s.errStatus kindPool code⟩

/-- The commands running for a state end with an outcome. -/
def State.endRuns (s : State) (e v : Nat) (sid : W64) (code : Nat) (which : PoolRun → Bool) : State :=
  let x := s.engine e
  let hit (r : PoolRun) : Bool := r.vd = v && r.sid = sid && which r
  (x.runs.filter hit).foldl (fun s r => s.finishCmd r.queue r.cseq (s.poolDone code))
    (s.setEngine e { x with runs := x.runs.filter (fun r => ! hit r) })

/-- Does a command carry a transfer: a STAGE, COMMIT or RETURN? -/
def PoolRun.carries (r : PoolRun) : Bool := match r.job with | .read ret _ _ _ _ _ => ret | _ => true

/-- Is a transfer open (PHASE 1 to 4)? -/
def PoolPhase.isOpen : PoolPhase → Bool
  | .staging => true | .staged => true | .committing => true | .returning => true | _ => false

/-- R278: an open transfer fails: the source stays the owner, PLFAIL counts it, a destination pool is told, and the running command ends. The
destination of a RETURN is this module. -/
def State.failTransfer (s : State) (e : Nat) (l : Ledger) (code : Nat) : State :=
  if ! l.phase.isOpen then s
  else
    let s := s.updLedger e l.vdid l.sid (fun l => { l with phase := .settled, xid := 0 })
    let s := s.bump .plfail e
    let s := if l.phase = .returning then s else s.abandon e l.dest l.vdid l.sid l.xid
    s.endRuns e l.vdid l.sid code PoolRun.carries

/-- R280: a state is lost. -/
def State.declareLost (s : State) (e : Nat) (l : Ledger) : State :=
  if l.phase = .lost then s
  else
    let s := (s.updLedger e l.vdid l.sid (fun l => { l with phase := .lost, xid := 0, mem := none })).bump .pllost e
    let s := match s.fenceOf l.vdid l.fence with
      | some slot =>
        s.sendSignal (.pool e) l.vdid slot (((s.fence slot).map (fun (f : FenceObj) => f.head.gen)).getD 0) (errorValue (s.errStatus kindPool poLost)) false
      | none => s
    let s := if l.owner = s.node then s.unpin l else s.tellLost e l.owner l.vdid l.sid
    s.endRuns e l.vdid l.sid poLost (fun _ => true)

/-- R279: a ruling from the ledger, for the pool that asked, or answered NOT_OWNER or NOSTATE. -/
def State.poolRuling (s : State) (e v : Nat) (sid : W64) (asker : Nat) (noState answers : Bool) : State :=
  match s.entryOf e v sid with
  | none => if answers then s else s.poolRule e asker v sid 0 ruleLost 0
  | some l =>
    if l.phase = .lost then (if answers then s else s.poolRule e asker v sid 0 ruleLost 0)
    else if l.phase.isOpen then
      let s := if l.owner = s.node then s else s.poolRule e l.owner v sid 0 ruleOwner l.owner
      s.failTransfer e l poFailed
    else if l.owner = s.node then s.poolRule e asker v sid 0 ruleOwner s.node
    else if l.owner = asker && noState then s.declareLost e l
    else s.poolRule e l.owner v sid 0 ruleOwner l.owner

/-! ## Transfers (R277) -/

/-- R132, R188: an engine's accesses to a range of device memory wait while a port that it reaches is closed; the command keeps its place. -/
def State.poolTouch (s : State) (v : Nat) (ranges : List (Bool × Nat × Nat)) (act : State → State × Fate) : State × Fate :=
  let places := ranges.map (fun r => (r.1, s.placesOf v r.2.1 r.2.2))
  if places.all (fun p => s.mayTouchAll p.1 p.2) then act s else (s.rouseAll (places.flatMap (·.2)), .hold)

/-- R424: the sealed form of a state's bytes. -/
def sealForm (key : List Byte) (seq sid : W64) (b : List Byte) : List Byte :=
  bytesLE 8 seq.toNat ++ List.replicate 24 0
    ++ (upFrom 0 (ceilDiv b.length 4096)).flatMap (fun i =>
      let iv := bytesLE 4 i ++ bytesLE 8 seq.toNat
      let ct := gcmCrypt key iv ((b.drop (4096 * i)).take 4096)
      ct ++ gcmTag key iv (bytesLE 8 sid.toNat) ct)

/-- R424: the length of the sealed form. -/
def sealedLen (n : Nat) : Nat := 32 + n + 16 * ceilDiv n 4096

/-- R424: chunk `i` of a sealed form deciphered; none where its tag fails. -/
def openChunk (key : List Byte) (seq sid : W64) (i : Nat) (b : List Byte) : Option (List Byte) :=
  let iv := bytesLE 4 i ++ bytesLE 8 seq.toNat
  let ct := b.take (b.length - 16)
  if gcmTag key iv (bytesLE 8 sid.toNat) ct = b.drop (b.length - 16) then some (gcmCrypt key iv ct) else none

/-- The pool key of a virtual device. -/
def State.poolKeyOf (s : State) (v : Nat) : List Byte := (s.vd v).poolKey.getD []

/-- R277 step 3: PCOMMIT goes to the destination. -/
def State.poolCommits (s : State) (e : Nat) (l : Ledger) (cls : Nat) : State :=
  let s := s.updLedger e l.vdid l.sid (fun l => { l with phase := .committing })
  (s.poolAsk e l.dest l.vdid cls tyPcommit l.sid l.xid
    (bytesLE 8 l.xid.toNat ++ bytesLE 4 l.slen ++ bytesLE 4 0 ++ bytesLE 8 l.staged.toNat)).2

/-- R277 step 2: everything is staged: PHASE becomes STAGED, and STAGE ends OK or goes on to its commit. -/
def State.poolStaged (s : State) (e v : Nat) (sid : W64) : State :=
  let s := s.updLedger e v sid (fun l => { l with phase := .staged })
  match s.entryOf e v sid, (s.engine e).runs.find? (fun r => r.vd = v && r.sid = sid && r.carries) with
  | some l, some r =>
    match r.job with
    | .stage _ true =>
      let x := s.engine e
      let s := s.setEngine e { x with runs := x.runs.map (fun q => if q = r then { q with job := .commit } else q) }
      s.poolCommits e l r.cls
    | _ => s.endRuns e v sid 0 PoolRun.carries
  | _, _ => s

/-- R277 step 1: the transfer of an entry opened and its bytes sent, or the source pool asked to stage. -/
def State.openTransfer (s : State) (e : Nat) (l : Ledger) (dest : Nat) (run : PoolRun) (ac : Bool) : State :=
  let x := s.engine e
  let xid := x.xid + 1
  let s := s.setEngine e { x with xid := xid }
  let s := s.updLedger e l.vdid l.sid (fun l => { l with xid := xid, dest := dest, phase := .staging, opener := s.ctxOfQueue run.queue })
  let add (s : State) (ids : List Nat) : State :=
    let x := s.engine e
    s.setEngine e { x with runs := x.runs ++ [{ run with job := .stage ids ac }] }
  if l.owner = s.node then
    let (b, bad) := s.readBytes l.vdid l.laddr l.len
    let (b, s) := if s.confidential l.vdid then
        let q := (s.vd l.vdid).sealSeq
        (sealForm (s.poolKeyOf l.vdid) q l.sid b, s.setVd l.vdid { s.vd l.vdid with sealSeq := q + 1 })
      else (b, s)
    let s := s.updLedger e l.vdid l.sid (fun l => { l with staged := BitVec.ofNat 64 (crc64 b), slen := b.length })
    if bad then (add s []).failTransfer e { l with xid := xid, dest := dest, phase := .staging } poFailed
    else
      let (ids, s) := (cutFrom 496 (b.length / 496 + 2) 0 b.length).foldl
        (fun (r : List Nat × State) pc =>
          let (id, s) := r.2.poolSend e dest l.vdid run.cls tyPstage
            (bytesLE 8 l.sid.toNat ++ bytesLE 8 pc.1 ++ (b.drop pc.1).take pc.2)
          (r.1 ++ [id], s))
        ([], s)
      add s ids
  else
    let (_, s) := s.poolAsk e l.owner l.vdid run.cls tyPcopy l.sid xid
      (bytesLE 8 xid.toNat ++ bytesLE 2 dest ++ bytesLE 6 0 ++ bytesLE 4 l.slen)
    add s []

/-! ## Reads (GET, RETURN) -/

/-- PREADs of 64 to 512 bytes over a range of at least 64 (R274). -/
def cutPread : Nat → Nat → Nat → List (Nat × Nat)
  | 0, _, _ => []
  | fuel + 1, a, n =>
    if n = 0 then []
    else if n ≤ 512 then [(a, n)]
    else
      let k := if n - 512 < 64 then n - 64 else 512
      (a, k) :: cutPread fuel (a + k) (n - k)

/-- The ranges of the stored form that a read of bytes `off` to `off + len` needs (R424): whole chunks, and the head. -/
def poolRanges (conf : Bool) (total off len : Nat) : List (Nat × Nat) :=
  if ! conf then [(off, len)]
  else
    let c0 := off / 4096
    let lo := 32 + c0 * 4112
    let hi := min (sealedLen total) (32 + ceilDiv (off + len) 4096 * 4112)
    if c0 = 0 then [(0, hi)] else [(0, 64), (lo, hi - lo)]

/-- The reads of a GET or RETURN sent. -/
def State.startRead (s : State) (e : Nat) (l : Ledger) (run : PoolRun) (ret : Bool) (off len laddr : Nat) : State :=
  let parts := (poolRanges (s.confidential l.vdid) l.len off len).flatMap (fun r => cutPread (r.2 / 448 + 2) r.1 r.2)
  let (want, s) := parts.foldl
    (fun (r : List (Nat × Nat × Nat) × State) pc =>
      let (id, s) := r.2.poolAsk e l.owner l.vdid run.cls tyPread l.sid 0 (bytesLE 8 pc.1 ++ bytesLE 4 pc.2)
      (r.1 ++ [(id, pc.1, pc.2)], s))
    ([], s)
  let x := s.engine e
  s.setEngine e { x with runs := x.runs ++ [{ run with job := .read ret want [] off len laddr }] }

/-- The bytes of the stored form that have come. -/
def gotBytes (got : List (Nat × List Byte)) : Memory := got.foldl (fun m g => m.writeN g.1 g.2) .zero

/-- The plain bytes of a read, once all have come: none where a tag fails (R424). -/
def State.poolPlain (s : State) (l : Ledger) (got : List (Nat × List Byte)) (off len : Nat) : Option (List Byte) :=
  let m := gotBytes got
  if ! s.confidential l.vdid then some (m.readN off len)
  else
    let key := s.poolKeyOf l.vdid
    let seq := BitVec.ofNat 64 (m.readLE 0 8)
    let c0 := off / 4096
    let n := ceilDiv (off + len) 4096 - c0
    let part (i : Nat) : Option (List Byte) := openChunk key seq l.sid i (m.readN (32 + i * 4112) (min 4096 (l.len - 4096 * i) + 16))
    ((upFrom c0 n).foldl (fun (r : Option (List Byte)) i => r.bind (fun b => (part i).map (fun x => b ++ x))) (some [])).map
      (fun b => (b.drop (off - 4096 * c0)).take len)

/-- R277, R424: a GET or RETURN whose bytes have all come. Those of an operator-visible state are in their place already (R283). -/
def State.finishRead (s : State) (e : Nat) (l : Ledger) (ret : Bool) (got : List (Nat × List Byte)) (off len laddr : Nat)
    (mine : PoolRun → Bool) : State :=
  let fails (s : State) (code : Nat) : State :=
    if ret then (s.updLedger e l.vdid l.sid (fun l => { l with phase := .settled, xid := 0 })).endRuns e l.vdid l.sid code mine
    else s.endRuns e l.vdid l.sid code mine
  match s.poolPlain l got off len with
  | none => fails (s.putBytes l.vdid laddr (List.replicate len 0)) poFailed
  | some b =>
    let s := if s.confidential l.vdid then s.putBytes l.vdid laddr b else s
    if ! ret then s.endRuns e l.vdid l.sid 0 mine
    else if BitVec.ofNat 64 (crc64 ((gotBytes got).readN 0 l.slen)) ≠ l.crc then fails s poFailed
    else
      let mem := s.memHolding l.vdid laddr l.len
      let s := match mem with | some m => s.hold tyMem m | none => s
      let s := s.updLedger e l.vdid l.sid (fun x => { x with owner := s.node, laddr := laddr, phase := .settled, xid := 0, mem := mem })
      (s.poolRule e l.owner l.vdid l.sid 0 ruleRelease 0).endRuns e l.vdid l.sid 0 mine

/-! ## Answers from pools -/

/-- Is a command the GET or RETURN of a PREAD? -/
def PoolRun.reads (id : Nat) (r : PoolRun) : Bool := match r.job with | .read _ want _ _ _ _ => want.any (fun w => w.1 = id) | _ => false

/-- The data of a PREAD has come. -/
def State.poolData (s : State) (e : Nat) (a : PoolAsk) (b : List Byte) : State :=
  let mine := PoolRun.reads a.id
  match s.entryOf e a.vd a.sid with
  | none => s.endRuns e a.vd a.sid poNoState mine
  | some l =>
    match (s.engine e).runs.find? mine with
    | some r =>
      match r.job with
      | .read ret want got off len laddr =>
        let (o, n) := ((want.find? (fun w => w.1 = a.id)).map (·.2)).getD (0, 0)
        if b.length ≠ n then
          (if ret then s.updLedger e a.vd a.sid (fun l => { l with phase := .settled, xid := 0 }) else s).endRuns e a.vd a.sid poFailed mine
        else
          -- bytes of an operator-visible state are placed as they come (R283)
          let s := if s.confidential a.vd then s else s.putBytes a.vd (laddr + (o - off)) b
          let want' := want.filter (fun w => w.1 ≠ a.id)
          let got' := got ++ [(o, b)]
          if want' = [] then s.finishRead e l ret got' off len laddr mine
          else
            let x := s.engine e
            s.setEngine e { x with runs := x.runs.map (fun q => if q = r then { q with job := .read ret want' got' off len laddr } else q) }
      | _ => s
    | none => s

/-- A PREAD ends without data: the command that it reads for ends with POOL_FAILED (R283). -/
def State.poolReadFails (s : State) (e : Nat) (a : PoolAsk) : State :=
  let mine := PoolRun.reads a.id
  match s.entryOf e a.vd a.sid with
  | none => s.endRuns e a.vd a.sid poNoState mine
  | some l =>
    if ! (s.engine e).runs.any mine then s
    else
      let s := if l.phase = .returning then s.updLedger e a.vd a.sid (fun l => { l with phase := .settled, xid := 0 }) else s
      s.endRuns e a.vd a.sid poFailed mine

/-- The end of an ask by its type when no response came, or an answer refuses it (R278). -/
def State.poolAskFails (s : State) (e : Nat) (a : PoolAsk) (code : Nat) : State :=
  if a.typ = tyPread then s.poolReadFails e a
  else match s.entryOf e a.vd a.sid with
    | some l => if l.phase.isOpen && l.xid = a.xid && a.typ ≠ tyPrule then s.failTransfer e l code else s
    | none => s

/-- R277: PACCEPT for a commit: the ledger records the new owner when the record matches, and the transfer fails when it does not (R278). `mine`: it
answers the PCOMMIT of the transfer that is open, so that another XID is a mismatch and no late answer. -/
def State.poolAccepted (s : State) (e node v : Nat) (sid xid : W64) (len : Nat) (crc : W64) (mine : Bool) : State :=
  match s.entryOf e v sid with
  | some l =>
    if l.phase = .committing ∧ l.dest = node ∧ (mine ∨ l.xid = xid) then
      if l.xid = xid ∧ len = l.slen ∧ crc = l.staged then
        let s := s.updLedger e v sid (fun l => { l with owner := node, phase := .settled, xid := 0, crc := crc, mem := none })
        let s := if l.owner = s.node then s.unpin l else s.poolRule e l.owner v sid xid ruleRelease 0
        s.endRuns e v sid 0 PoolRun.carries
      else s.failTransfer e l poFailed
    else s.abandon e node v sid xid
  | none => s.abandon e node v sid xid

/-- What an engine makes of a request's end as its canal tells it (R278): a PSTAGE retired, or a packet refused. -/
def State.ackPool (s : State) (e id : Nat) (st : AccStatus) : State :=
  let x := s.engine e
  match x.runs.find? (fun r => match r.job with | .stage ids _ => ids.contains id | _ => false) with
  | some r =>
    match r.job, s.entryOf e r.vd r.sid with
    | .stage ids ac, some l =>
      if st ≠ .ok then s.failTransfer e l poFailed
      else
        let ids := ids.erase id
        let s := s.setEngine e { x with runs := x.runs.map (fun q => if q = r then { q with job := .stage ids ac } else q) }
        if ids = [] then s.poolStaged e r.vd r.sid else s
    | _, _ => s
  | none =>
    if st = .ok then s
    else match x.asks.find? (fun a => a.id = id) with
      | some a => (s.setEngine e { x with asks := x.asks.filter (fun b => b.id ≠ id) }).poolAskFails e a poFailed
      | none => s

/-- R278, R280, R283: a pool's node is marked DOWN: transfers from or to it fail, reads from it end, its requests await nothing more, and a pool that
owns states is unreachable. -/
def State.poolNodeDown (s : State) (node : Nat) : State :=
  [0, 1].foldl
    (fun s e =>
      let s := ((s.engine e).ledger.filter (fun l => l.phase.isOpen && l.phase ≠ .returning && (l.dest = node || l.owner = node))).foldl
        (fun s l => s.failTransfer e l poFailed) s
      let s := ((s.engine e).asks.filter (fun a => a.node = node && a.typ = tyPread)).foldl (fun s a => s.poolReadFails e a) s
      let x := s.engine e
      let s := s.setEngine e { x with asks := x.asks.filter (fun a => a.node ≠ node) }
      let x := s.engine e
      if x.ledger.any (fun l => l.owner = node) then
        s.setEngine e { x with unreachable := if x.unreachable.contains node then x.unreachable else x.unreachable ++ [node] }
      else s)
    s

/-! ## Resets (R281) -/

/-- R281, R350: the running pool commands of a virtual device, or of a context by queue, end ABORTED, and open transfers fail. -/
def State.stopPool (s : State) (v : Nat) (mine : PoolRun → Bool) : State :=
  [0, 1].foldl
    (fun s e =>
      let hit := (s.engine e).runs.filter (fun r => r.vd = v && mine r)
      let s := hit.foldl
        (fun s r => match s.entryOf e v r.sid with
          | some l => if r.carries then s.failTransfer e l poAborted else s
          | none => s)
        s
      hit.foldl (fun s r => s.endRuns e v r.sid poAborted (fun q => q.queue = r.queue && q.cseq = r.cseq)) s)
    s

/-- R281, R350: open transfers of a virtual device fail, whether or not a command runs. -/
def State.failOpened (s : State) (v : Nat) (mine : Ledger → Bool) : State :=
  [0, 1].foldl
    (fun s e => ((s.engine e).ledger.filter (fun l => l.vdid = v && l.phase.isOpen && mine l)).foldl (fun s l => s.failTransfer e l poAborted) s) s

/-- R281: the open transfers of a virtual device fail. -/
def State.failTransfers (s : State) (v : Nat) : State := s.failOpened v (fun _ => true)

/-- R281, R294: FREE is sent for each entry of a virtual device, and the entries are removed. -/
def State.freeLedger (s : State) (v : Nat) : State :=
  [0, 1].foldl
    (fun s e =>
      ((s.engine e).ledger.filter (fun l => l.vdid = v)).foldl
        (fun s l =>
          let s := if l.owner = s.node then s.unpin l else s.poolRule e l.owner v l.sid 0 ruleFree 0
          s.dropLedger e v l.sid)
        s)
    s

/-! ## Pool commands (R271 to R273, R283) -/

/-- R271: the fields of a pool command. -/
structure PoolCmd where
  sid : W64
  dest : Nat
  len : Nat
  laddr : Nat
  off : Nat
deriving DecidableEq, Repr

def poolFields (c : Cmd) : PoolCmd :=
  { sid := BitVec.ofNat 64 (cmdField c.raw 16 8), dest := cmdField c.raw 24 2, len := cmdField c.raw 28 4, laddr := cmdField c.raw 32 8,
    off := cmdField c.raw 40 8 }

/-- R271: the reserved fields, and fields that only another operation uses. -/
def poolStray (c : Cmd) : Bool :=
  bitsOf c.raw.toNat 15 10 ≠ 0 || bitsOf c.raw.toNat 23 19 ≠ 0 || cmdField c.raw 3 1 ≠ 0 || cmdField c.raw 26 2 ≠ 0
    || cmdField c.raw 48 16 ≠ 0 || (c.op ≠ 1 && cmdField c.raw 24 2 ≠ 0) || (c.op ≠ 4 && cmdField c.raw 40 8 ≠ 0)

/-- Does a running GET or RETURN of a state read from its owner? -/
def State.poolReading (s : State) (e v : Nat) (sid : W64) : Bool :=
  (s.engine e).runs.any (fun r => r.vd = v && r.sid = sid && (match r.job with | .read ret _ _ _ _ _ => ! ret | _ => false))

/-- R283: does a STAGE, COMMIT or RETURN wait for the transfer of its state that is open? -/
def State.poolWaits (s : State) (v : Nat) (c : Cmd) : Bool :=
  match s.entryOf (s.engineOf v) v (poolFields c).sid with
  | some l => l.phase.isOpen && (c.op = 1 || c.op = 5 || (c.op = 2 && l.phase ≠ .staged))
  | none => false

/-- The pool command whose turn it is on a queue, when its opcode is `op`. An ABORT or GET runs at once past commands that wait for the open transfer
of its state (R283). -/
def State.poolTurn (s : State) (q op : Nat) : Option (QueueObj × Cmd) :=
  match s.turn q 3 op with
  | some x => some x
  | none =>
    match s.objs.queues.live.find? q with
    | none => none
    | some o =>
      let v := s.vdOfQueue o
      let held := o.cmds.filter (fun c => c.stage = .waiting && s.poolWaits v c)
      let behind := (o.cmds.filter (fun c => c.stage = .waiting)).dropWhile (fun c => held.any (fun h => h.seq = c.seq))
      match behind.head? with
      | some c =>
        if o.kind = 3 && (op = 3 || op = 4) && c.op = op && held.any (fun h => (poolFields h).sid = (poolFields c).sid) then some (o, c) else none
      | none => none

/-- R271: a pool command of opcode `op`: SIGF, reserved fields, an open job (R391), then its work. -/
def poolCmd (q : Qn) (op : Nat) (work : State → Nat → PoolRun → PoolCmd → State × Fate) (s : State) : Out :=
  .next (
    match s.poolTurn q.val op with
    | none => s
    | some (o, c) =>
      let v := s.vdOfQueue o
      if (s.vd v).frozen || ! s.hasJob v then s
      else
        let sig : Bool := c.raw.getLsbD 9
        let (ok, c, s) := s.acceptCmd q.val o c (if sig then some (BitVec.ofNat 32 (cmdField c.raw 4 4)) else none) none
        let bad (code : Nat) : State := s.enter q.val c (.ended (s.poolDone code))
        let f := poolFields c
        if ! ok then bad poOperand
        else if poolStray c then bad poReserved
        else if f.sid = 0 then bad poOperand
        else
          let e := s.engineOf v
          let run : PoolRun := { queue := q.val, cseq := c.seq, vd := v, sid := f.sid, cls := bitsOf c.raw.toNat 18 16, fresh := false, job := .commit }
          let (t, fate) := work s e run f
          let t := match fate with
            | .hold => t
            | _ => if sig then t.updLedger e v f.sid (fun l => { l with fence := BitVec.ofNat 32 (cmdField c.raw 4 4) }) else t
          match fate with
          | .running => (t.updCmd q.val c.seq (fun x => { x with stage := if x.stage = .waiting then .started else x.stage })).noteStart q.val c.seq
          | f => t.enter q.val c f)

/-- A pool command ended with an outcome. -/
def State.poolEnds (s : State) (code : Nat) : State × Fate := (s, .ended (s.poolDone code))

/-- An outcome that the spec does not name, for a COMMIT or ABORT with no staged transfer: any error of R273 (log 56). -/
def State.someOutcome (s : State) : State × Fate := let (x, s) := s.free; s.poolEnds (1 + x % 9)

/-- R272, R277 STAGE. -/
def execPoolStage (q : Qn) (s : State) : Out :=
  poolCmd q 1
    (fun s e run f =>
      let ac : Bool := match s.objs.queues.live.find? q.val with
        | some o => o.cmds.any (fun c => c.seq = run.cseq && c.raw.getLsbD 8)
        | none => false
      match s.entryOf e run.vd f.sid with
      | some l =>
        if l.phase = .lost then s.poolEnds poLost
        else if l.phase.isOpen || s.poolReading e run.vd f.sid then (s, .hold)
        else if f.laddr ≠ 0 ∨ f.len ≠ 0 then s.poolEnds poOperand
        else s.poolTouch run.vd (if l.owner = s.node then [(false, l.laddr, l.len)] else []) (fun s => (s.openTransfer e l f.dest run ac, .running))
      | none =>
        if 32768 ≤ (s.engine e).ledger.length then s.poolEnds poLedgerFull
        else if f.len % 64 ≠ 0 ∨ f.len = 0 ∨ f.laddr % 64 ≠ 0 then s.poolEnds poOperand
        else if ! s.rangeIn run.vd f.laddr f.len false then s.poolEnds poRange
        else
          s.poolTouch run.vd [(false, f.laddr, f.len)] (fun s =>
            let mem := s.memHolding run.vd f.laddr f.len
            let s := match mem with | some m => s.hold tyMem m | none => s
            let slen := if s.confidential run.vd then sealedLen f.len else f.len
            let l : Ledger := { sid := f.sid, xid := 0, owner := s.node, dest := 0, phase := .settled, vdid := run.vd, laddr := f.laddr,
                                len := f.len, fence := 0, crc := 0, staged := 0, slen := slen, mem := mem, opener := none }
            let x := s.engine e
            let s := s.setEngine e { x with ledger := x.ledger ++ [l] }
            (s.openTransfer e l f.dest { run with fresh := true } ac, .running)))
    s

/-- R277 COMMIT: it waits while the transfer is staging or another carries the state, and for a GET submitted before it (R283). -/
def execPoolCommit (q : Qn) (s : State) : Out :=
  poolCmd q 2
    (fun s e run f =>
      match s.entryOf e run.vd f.sid with
      | none => s.poolEnds poNoState
      | some l =>
        match l.phase with
        | .lost => s.poolEnds poLost
        | .settled => s.someOutcome
        | .staged =>
          if s.poolReading e run.vd f.sid then (s, .hold)
          else
            let x := s.engine e
            let s := s.setEngine e { x with runs := x.runs ++ [{ run with job := .commit }] }
            (s.poolCommits e l run.cls, .running)
        | _ => (s, .hold))
    s

/-- R278 ABORT: it runs at once. -/
def execPoolAbort (q : Qn) (s : State) : Out :=
  poolCmd q 3
    (fun s e run f =>
      match s.entryOf e run.vd f.sid with
      | none => s.poolEnds poNoState
      | some l =>
        match l.phase with
        | .lost => s.poolEnds poLost
        | .settled => s.someOutcome
        | .returning => s.someOutcome
        | _ => (s.failTransfer e l poFailed).poolEnds 0)
    s

/-- R272 GET: it runs at once and reads from the owner. -/
def execPoolGet (q : Qn) (s : State) : Out :=
  poolCmd q 4
    (fun s e run f =>
      match s.entryOf e run.vd f.sid with
      | none => s.poolEnds poNoState
      | some l =>
        if l.phase = .lost then s.poolEnds poLost
        else if f.len % 64 ≠ 0 ∨ f.len = 0 ∨ f.laddr % 64 ≠ 0 ∨ f.off % 64 ≠ 0 ∨ l.len < f.off + f.len then s.poolEnds poOperand
        else if ! s.rangeIn run.vd f.laddr f.len true then s.poolEnds poRange
        else if l.owner = s.node then
          s.poolTouch run.vd [(false, l.laddr + f.off, f.len), (true, f.laddr, f.len)] (fun s =>
            let (b, bad) := s.readBytes run.vd (l.laddr + f.off) f.len
            if bad then s.poolEnds poFailed else (s.putBytes run.vd f.laddr b).poolEnds 0)
        else (s.startRead e l run false f.off f.len f.laddr, .running))
    s

/-- R272 RETURN: LEN is the state's length (log 57). -/
def execPoolReturn (q : Qn) (s : State) : Out :=
  poolCmd q 5
    (fun s e run f =>
      match s.entryOf e run.vd f.sid with
      | none => s.poolEnds poNoState
      | some l =>
        if l.phase = .lost then s.poolEnds poLost
        else if l.phase.isOpen || s.poolReading e run.vd f.sid then (s, .hold)
        else if f.len ≠ l.len ∨ f.laddr % 64 ≠ 0 then s.poolEnds poOperand
        else if ! s.rangeIn run.vd f.laddr f.len true then s.poolEnds poRange
        else if l.owner = s.node then
          s.poolTouch run.vd [(false, l.laddr, l.len), (true, f.laddr, f.len)] (fun s =>
            let (b, bad) := s.readBytes run.vd l.laddr l.len
            if bad then s.poolEnds poFailed
            else
              let mem := s.memHolding run.vd f.laddr f.len
              let s := (match mem with | some m => s.hold tyMem m | none => s).unpin l
              ((s.putBytes run.vd f.laddr b).updLedger e run.vd f.sid (fun l => { l with laddr := f.laddr, mem := mem })).poolEnds 0)
        else
          let x := s.engine e
          let s := s.setEngine e { x with xid := x.xid + 1 }
          let s := s.updLedger e run.vd f.sid (fun l => { l with phase := .returning, xid := x.xid + 1, dest := s.node, opener := s.ctxOfQueue run.queue })
          (s.startRead e l run true 0 l.len f.laddr, .running))
    s

/-- R272, R283 FREE: a GET submitted before it ends first (log 204), an open transfer fails; the owner is told, and the entry goes. -/
def execPoolFree (q : Qn) (s : State) : Out :=
  poolCmd q 6
    (fun s e run f =>
      match s.entryOf e run.vd f.sid with
      | none => s.poolEnds poNoState
      | some l =>
        if s.poolReading e run.vd f.sid then (s, .hold)
        else
          let s := s.failTransfer e l poFailed
          let s := if l.owner = s.node then s.unpin l else s.poolRule e l.owner run.vd f.sid 0 ruleFree 0
          (s.dropLedger e run.vd f.sid).poolEnds 0)
    s

/-! ## Timers (R278, R280) -/

/-- R278, R280 POOL_RESPONSE_TIMEOUT: request `tag` of an engine has had no response within RSP. It stays outstanding until its response arrives
(R270). -/
def execPoolResponseTimeout (e : Tower) (tag : Nat) (s : State) : Out :=
  .next (
    let x := s.engine e.val
    match x.asks.find? (fun a => a.id = tag) with
    | none => s
    | some a =>
      let owns := x.ledger.any (fun l => l.owner = a.node)
      let s := s.setEngine e.val { x with
        asks := x.asks.filter (fun b => b.id ≠ tag),
        unreachable := if owns && ! x.unreachable.contains a.node then x.unreachable ++ [a.node] else x.unreachable }
      s.poolAskFails e.val a poFailed)

/-- R280 POOL_PROBE: QUERY goes to an unreachable pool, naming the first state it owns, a lost one where no other is left. A pool that owns none is
unreachable no more. -/
def execPoolProbe (e : Tower) (pool : Node) (s : State) : Out :=
  .next (
    if ! (s.engine e.val).unreachable.contains pool.toNat then s
    else
      let owned := (s.engine e.val).ledger.filter (fun l => l.owner = pool.toNat)
      match (owned.filter (fun l => l.phase ≠ .lost) ++ owned).head? with
      | some l => s.poolRule e.val pool.toNat l.vdid l.sid 0 ruleQuery 0
      | none => s.poolBack e.val pool.toNat)

/-- R280 POOL_LOSS: a pool has stayed unreachable for LOSS: the states it owns are lost. -/
def execPoolLoss (e : Tower) (pool : Node) (s : State) : Out :=
  .next (
    if ! (s.engine e.val).unreachable.contains pool.toNat then s
    else ((s.engine e.val).ledger.filter (fun l => l.owner = pool.toNat)).foldl (fun s l => s.declareLost e.val l) s)

end Sys2Proof.Machine
end

