-- ==== Sys2Proof/Machine/Barge.lean ====
section
/-! DEFINITION. Barge channels (chapter 15): BRUN and its channel, descriptors, records, stops. A descriptor reads what is on this
module in the step that runs it; its writes, appends and canal packets are then under way. -/

namespace Sys2Proof.Machine

/-! ## Channels -/

/-- The engine of a channel, its tower and its cache (R375, R362). -/
def engineOfBarge (b : Nat) : Nat := b / 16
def towerOfEngine (e : Nat) : Nat := e / 32
def bargeCache (b : Nat) : Nat := 16 + engineOfBarge b
def bargeTower (b : Nat) : Nat := towerOfEngine (engineOfBarge b)
/-- The column where an engine joins the mesh. -/
def engineColumn (e : Nat) : Nat := e % 32 / 2

/-- A channel's run changed. -/
def State.setBarge (s : State) (b : Nat) (r : BargeRun) : State :=
  { s with barges := s.barges.set b r }.setFld .bchstat b 43 28 (r.recorded % 65536)

/-- Has every request of a run ended? -/
def BargeRun.quiet (r : BargeRun) : Bool := r.flight.all (fun d => d.waiting = [])

/-- R377, R388: a channel becomes free. -/
def State.dropBarge (s : State) (b : Nat) : State :=
  (({ s with barges := s.barges.erase b }.rstReg .bchstat b).rstReg .bchseq b).unwant (.barge b)

/-- R387: a channel stops at its next packet boundary; it is free once every request it issued has ended. -/
def State.haltBarge (s : State) (b : Nat) : State :=
  match s.barges.find? b with
  | none => s
  | some r =>
    if r.quiet then s.dropBarge b
    else ((s.setBarge b { r with stopping := true }).setFld .bchstat b 1 0 2).unwant (.barge b)

/-- R377: the completion entry of a BRUN has been posted: its channel is free, or stops. -/
def State.bargePosted (s : State) (q : Nat) (seq : W64) : State :=
  (s.barges.cells.filter (fun k => k.2.queue = q && k.2.cseq = seq)).foldl (fun s k => s.haltBarge k.1) s

/-- VALUE of a BRUN's completion (R386). -/
def bargeValue (b : Nat) (n : Nat) : W64 := BitVec.ofNat 64 (n % 2 ^ 32 + b * 2 ^ 32)

/-- R386, R235: a BRUN that ends with BUS retires once every write that it has made has ended. -/
def State.bargeEnding (s : State) (b : Nat) : State :=
  match s.barges.find? b with
  | none => s
  | some r =>
    if r.dying && r.quiet then (s.finishCmd r.queue r.cseq (s.failed stBus kindCommand (bargeValue b r.bad))).haltBarge b else s

/-- R386: a BRUN ends with BUS: nothing more of it runs. -/
def State.bargeDies (s : State) (b : Nat) (r : BargeRun) : State := (s.setBarge b { r with dying := true }).bargeEnding b

/-- R387: the channels of a reset stop, and their BRUNs retire with ABORTED, but for one that `keep` leaves to its own end. -/
def State.abortBarges (s : State) (mine : BargeRun → Bool) (keep : Nat → W64 → Bool) : State :=
  (s.barges.cells.filter (fun k => mine k.2 && ! k.2.stopping)).foldl
    (fun s k =>
      let s := if keep k.2.queue k.2.cseq then s
        else s.finishCmd k.2.queue k.2.cseq ⟨stAborted, 0, BitVec.ofNat 64 k.2.recorded, s.errStatus kindReset 0⟩
      s.haltBarge k.1)
    s

/-! ## BRUN (R376, R377) -/

/-- The body of a BRUN. -/
structure BrunBody where
  dloc : Bool
  dlist : Nat
  rloc : Bool
  raddr : Nat
  n : Nat
  stopBad : Bool
deriving DecidableEq, Repr

def brunBody (c : Cmd) : BrunBody :=
  { dloc := cmdBits c.raw 32 0 0 = 1, dlist := cmdBits c.raw 32 63 6 * 64, rloc := cmdBits c.raw 40 0 0 = 1,
    raddr := cmdBits c.raw 40 63 5 * 32, n := cmdField c.raw 48 4, stopBad := cmdBits c.raw 52 0 0 = 1 }

/-- The bits of a BRUN's body in use. -/
def brunMask : Nat := byteMask [(48, 4)] ||| ((2 ^ 64 - 0x40 + 1) <<< 256) ||| ((2 ^ 64 - 0x20 + 1) <<< 320) ||| (1 <<< 416)

/-- R376 BRUN: it is checked and starts; a channel is given by BARGE_CHANNEL_ASSIGN. -/
def execBrun (q : Qn) (s : State) : Out :=
  workCmd q 2 0x20 brunMask
    (fun s o c =>
      let v := s.vdOfQueue o
      let f := brunBody c
      if ! s.hasJob v then (s, .hold)
      else if f.n = 0 ∨ 65536 < f.n ∨ (s.confidential v && ! (f.dloc && f.rloc)) then s.fail stOperand
      else if f.dloc && ! s.rangeIn v f.dlist (64 * f.n) false then s.fail stRange
      else if f.rloc && ! s.rangeIn v f.raddr (32 * f.n) true then s.fail stRange
      else (s, .running))
    s

/-! ## Descriptors (R378 to R380) -/

/-- A descriptor. -/
structure Dsc where
  op : Nat
  fin : Bool
  crc : Bool
  c64 : Bool
  crcw : Bool
  cls : Nat
  red : Nat
  ssp : Nat
  dsp : Nat
  grp : Nat
  node : Nat
  src : Nat
  dst : Nat
  len : Nat
  frame : Int
deriving DecidableEq, Repr

def dscOf (raw : W512) : Dsc :=
  { op := cmdField raw 0 1, fin := cmdBits raw 1 0 0 = 1, crc := cmdBits raw 1 1 1 = 1, c64 := cmdBits raw 1 2 2 = 1,
    crcw := cmdBits raw 1 3 3 = 1, cls := cmdBits raw 2 2 0, red := cmdBits raw 2 4 3, ssp := cmdBits raw 3 1 0,
    dsp := cmdBits raw 3 3 2, grp := cmdBits raw 4 11 0, node := cmdField raw 6 2, src := cmdField raw 8 8, dst := cmdField raw 16 8,
    len := cmdField raw 24 4, frame := toSigned 10 (cmdBits raw 28 9 0) }

/-- R380 check 1: a reserved field is nonzero, or OP is reserved. -/
def dscReserved (raw : W512) : Bool :=
  strayBits raw (byteMask [(0, 1), (6, 2), (8, 20)] ||| (0x0F <<< 8) ||| (0x1F <<< 16) ||| (0x0F <<< 24) ||| (0xFFF <<< 32)
    ||| (0x3FF <<< 224))
  || decide (3 < cmdField raw 0 1)

/-- R114: the source and destination element sizes of a REDUCE. -/
def windowedSource : Fmt := match Config.windowedSource % 3 with | 0 => .fp32 | 1 => .bf16 | _ => .wide
def redSource (red : Nat) : Fmt := match red with | 1 => .fp32 | 2 => .bf16 | _ => windowedSource
def redDestSize (red : Nat) : Nat := match red with | 1 => 4 | 2 => 2 | _ => 16

/-- Bytes of the running check. -/
def Dsc.checkLen (d : Dsc) : Nat := if d.c64 then 8 else 4

/-- Is a remote address in the form of R247? -/
def remoteForm (a : Nat) : Bool := bitsOf a 63 48 = 0 && ! a.testBit 46 && (! a.testBit 47 || bitsOf a 46 30 = 0)

/-- R247: does a remote address name the near tier, a window or a scratchpad? -/
def remoteNear (a : Nat) : Bool := a.testBit 47 || (match placeOf a with | .far _ _ => false | _ => true)

/-- R380 check 2: the rules of R378 and R379. Remote lengths count in 8-byte units (R247), reducing writes are aligned to their
elements (R138, R248; log 59). -/
def dscRules (d : Dsc) : Bool :=
  let side (sp a : Nat) : Bool := (sp ≠ 2 || a < 2 ^ 30) && (sp ≠ 3 || (remoteForm a && d.len % 8 = 0))
  let common : Bool :=
    (d.ssp = 3 || d.dsp = 3 || d.node = 0) && (d.op = 2 || d.red = 0) && (d.op = 3 || (side d.ssp d.src && side d.dsp d.dst))
  match d.op with
  | 0 => d.src = 0 && d.dst = 0 && d.len = 0 && d.ssp = 0 && d.dsp = 0 && common
  | 1 =>
    common && d.len ≠ 0 && ! (d.ssp = 3 && d.dsp = 3) && ! (d.crc && d.crcw && ! d.c64 && d.dsp = 3)
  | 2 =>
    common && d.len ≠ 0 && d.red ≠ 0 && d.ssp ≠ 3 && d.dsp ≠ 1 && ! d.crcw && d.len % (redSource d.red).size = 0
      && d.dst % redDestSize d.red = 0
      && (d.dsp ≠ 0 || (match placeOf d.dst with | .far _ _ => false | _ => true)) && (d.dsp ≠ 3 || remoteNear d.dst)
  | _ =>
    common && (d.ssp = 0 || d.ssp = 1) && (d.dsp = 0 || d.dsp = 3) && d.dst < 256 && d.len % 64 = 0 && 1 ≤ d.len / 64
      && d.len / 64 ≤ 8 && ! d.crcw

/-- The bytes that a descriptor writes at DST, its check among them. -/
def Dsc.dstLen (d : Dsc) : Nat :=
  (if d.op = 2 then d.len / (redSource d.red).size * redDestSize d.red else d.len) + (if d.crc && d.crcw then d.checkLen else 0)

/-- The record statuses of R384. -/
def rsReserved : Nat := 1
def rsOperand : Nat := 2
def rsRange : Nat := 3
def rsPermission : Nat := 4
def rsTranslate : Nat := 5
def rsBus : Nat := 6
def rsPoison : Nat := 7
def rsRemote : Nat := 8
def rsInvalidated : Nat := 9
def rsSkipped : Nat := 10

/-- R380 check 4 on one local side: the address of the first byte outside the virtual device. -/
def State.dscOutside (s : State) (v sp a n : Nat) (write : Bool) : Option Nat :=
  if sp = 0 then
    ((granules a n).find? (fun g => match s.rangeCheck v (g.1 + g.2 - 1) write, s.rangeCheck v g.1 write with
      | .outside, _ => true | _, .outside => true | _, _ => false)).map (·.1)
  else if sp = 2 then
    if (s.spire (a / 2 ^ 22)).vdid ≠ v ∨ spadBytes < a % 2 ^ 22 + n then some a else none
  else none

/-- R380: the first check that fails: status and failing address. -/
def State.dscCheck (s : State) (v : Nat) (raw : W512) : Option (Nat × Nat) :=
  let d := dscOf raw
  if dscReserved raw then some (rsReserved, 0)
  else if ! dscRules d then some (rsOperand, 0)
  else if s.confidential v && (d.ssp = 1 || d.ssp = 3) then some (rsPermission, d.src)
  else if s.confidential v && (d.dsp = 1 || d.dsp = 3) then some (rsPermission, d.dst)
  else if d.op = 0 then none
  else match s.dscOutside v d.ssp d.src d.len false with
    | some a => some (rsRange, a)
    | none =>
      if d.op = 3 then (if d.dsp = 0 && ! s.holdsBasin v (relocBasin (s.vd v).relocs d.dst) then some (rsRange, d.dst) else none)
      else match s.dscOutside v d.dsp d.dst d.dstLen true with
        | some a => some (rsRange, a)
        | none =>
          if d.dsp ≠ 0 then none
          else ((granules d.dst d.dstLen).find? (fun g => s.rangeCheck v g.1 true = .readOnly)).map (fun g => (rsPermission, g.1))

/-! ## BARGE_CHANNEL_ASSIGN (R377) -/

/-- The router of a place that a descriptor names. -/
def State.dscRouter (s : State) (v port sp a : Nat) : Router :=
  if sp = 2 then spireRouter (a / 2 ^ 22 % 256)
  else if sp = 0 then
    match (s.readAt v a).map placeOf with
    | some (.near ch _) => channelRouter ch
    | some (.far e _) => farRouter (e / 8)
    | _ => hostRouter port
  else hostRouter port

/-- The lowest free channel of an engine. -/
def State.freeChannel (s : State) (e : Nat) : Option Nat := (upFrom (16 * e) 16).find? (fun b => (s.barges.find? b).isNone)

/-- R377: the channel of a BRUN whose first descriptor lies by a router. -/
def State.pickChannel (s : State) (r : Router) : Option Nat :=
  let inTower (t : Nat) : Option Nat :=
    (leastBy (fun e => absDiff (engineColumn e) r.x) ((upFrom (32 * t) 32).filter (fun e => (s.freeChannel e).isSome))).bind s.freeChannel
  match inTower r.tower with
  | some b => some b
  | none => inTower (1 - r.tower)

/-- R377 BARGE_CHANNEL_ASSIGN: a started BRUN of a queue is given a channel, by its first descriptor; `first` is the host's answer
for that descriptor when the list lies in host memory. -/
def execBargeChannelAssign (q : Qn) (first : HostAns) (s : State) : Out :=
  .next (
    match s.objs.queues.live.find? q.val with
    | none => s
    | some o =>
      match o.cmds.find? (fun c => c.stage = .started && c.op = 0x20 && ! s.barges.cells.any (fun k => k.2.queue = q.val && k.2.cseq = c.seq)), o.ctx with
      | some c, some ctx =>
        let v := s.vdOfCtx ctx
        let f := brunBody c
        let port := s.fnOfCtx ctx / 64
        let raw : List Byte := if f.dloc then (s.readBytes v f.dlist 64).1 else match first with | .data b => b.take 64 | .busError => []
        let places := if f.dloc then s.placesOf v f.dlist 64 else []
        s.touching false places (fun s =>
        let d := dscOf (BitVec.ofNat 512 (natLE raw))
        let r := if d.ssp = 3 then s.dscRouter v port d.dsp d.dst else s.dscRouter v port d.ssp d.src
        match s.pickChannel r with
        | none => s
        | some b =>
          let run : BargeRun := { queue := q.val, cseq := c.seq, ctx := ctx, vd := v, dlist := BitVec.ofNat 64 f.dlist + (if f.dloc then 1 else 0),
                                  raddr := BitVec.ofNat 64 f.raddr + (if f.rloc then 1 else 0), n := f.n, stopBad := f.stopBad, next := 0,
                                  recorded := 0, flight := [], bad := 0, firstBad := 0, groups := [], stopping := false,
                                  dying := false, ahead := none }
          let s := s.setReg .bchstat b (BitVec.ofNat 64 (1 + v % 64 * 4 + ctx * 256 + q.val * 2 ^ 16))
          (s.setReg .bchseq b c.seq).setBarge b run)
      | _, _ => s)

/-! ## Running a descriptor (R381 to R383) -/

/-- A byte that fails: its offset from SRC, status, cause, address. -/
structure DFail where
  off : Nat
  status : Nat
  cause : Nat
  addr : Nat
deriving DecidableEq, Repr

/-- The earlier of two failures. -/
def firstFail (a b : Option DFail) : Option DFail :=
  match a, b with
  | some x, some y => if y.off < x.off then some y else some x
  | some x, none => some x
  | none, y => y

/-- The pages of a host range, each cut at the page's end: (address, length). -/
def hostCuts (a n : Nat) : List (Nat × Nat) := cutFrom 4096 (n / 4096 + 2) a n

/-- R381: the reads of a host range, cut at 512 bytes and at pages. -/
def hostReads (a n : Nat) : List (Nat × Nat) := cutFrom 512 (n / 512 + 2) a n

/-- What a translation that a channel holds says. -/
def State.bargePage (s : State) (b a : Nat) (write : Bool) : Option Found := (s.wantOf (.barge b) (a / 4096) write).bind (·.found)

/-- The translations of a range asked for. -/
def State.bargeWant (s : State) (b : Nat) (r : BargeRun) (a n : Nat) (write : Bool) : State :=
  (hostCuts a n).foldl (fun s g => s.want (.barge b) (bargeCache b) (bargeTower b) r.ctx (g.1 / 4096) write) s

/-- Are they all known? -/
def State.bargeKnown (s : State) (b a n : Nat) (write : Bool) : Bool := (hostCuts a n).all (fun g => (s.bargePage b g.1 write).isSome)

/-- R384: the record status and cause of a failed translation. -/
def translationFail (off cause addr : Nat) : DFail :=
  if cause = trNoRead ∨ cause = trNoWrite then ⟨off, rsPermission, 0, addr⟩ else ⟨off, rsTranslate, cause, addr⟩

/-- The first page of a host range whose translation failed. -/
def State.bargePageFail (s : State) (b a n : Nat) (write : Bool) : Option DFail :=
  (hostCuts a n).findSome? (fun g => match s.bargePage b g.1 write with
    | some (.bad c) => some (translationFail (g.1 - a) c g.1)
    | _ => none)

/-- The bytes of a local source, and its first failing byte. `host` are the answers of the host, by pieces of at most 512 bytes
within pages; one that is missing counts as zeros (log 45). -/
def State.bargeRead (s : State) (b : Nat) (r : BargeRun) (d : Dsc) (host : List HostAns) : List Byte × Option DFail :=
  match d.ssp with
  | 0 =>
    let gs := granules d.src d.len
    let fail := (gs.find? (fun g => match s.readAt r.vd g.1 with | some p => anyPoison s.devPoison p g.2 | none => false)).map
      (fun g => (⟨g.1 - d.src, rsPoison, 0, g.1⟩ : DFail))
    (gs.flatMap (fun g => match s.readAt r.vd g.1 with | some p => s.dev.readN p g.2 | none => List.replicate g.2 0), fail)
  | 2 =>
    let sp := s.spire (d.src / 2 ^ 22)
    let gs := granules (d.src % 2 ^ 22) d.len
    let base := d.src - d.src % 2 ^ 22
    let fail := (gs.find? (fun g => anyPoison sp.poison g.1 g.2)).map (fun g => (⟨base + g.1 - d.src, rsPoison, 0, base + g.1⟩ : DFail))
    (sp.spad.readN (d.src % 2 ^ 22) d.len, fail)
  | _ =>
    let ps := (hostReads d.src d.len).zipIdx
    let fail := (ps.find? (fun p => host[p.2]? = some HostAns.busError)).map (fun p => (⟨p.1.1 - d.src, rsBus, 0, p.1.1⟩ : DFail))
    let bytes : List Byte := ps.flatMap (fun p => match host[p.2]? with
      | some (HostAns.data bs) => (bs ++ List.replicate p.1.2 0).take p.1.2
      | _ => List.replicate p.1.2 0)
    (bytes, firstFail fail (s.bargePageFail b d.src d.len false))

/-- R408: the first `n` bytes of a local source pass the sluice of their memory port, and the lock where they cross it. -/
def State.bargeGrants (s : State) (b : Nat) (r : BargeRun) (d : Dsc) (n : Nat) : State :=
  let home := some (engineRouter (engineOfBarge b))
  match d.ssp with
  | 0 => (granules d.src n).foldl (fun s g => match s.readAt r.vd g.1 with | some p => s.readGranted (.dev p) home d.cls g.2 | none => s) s
  | 2 => s.readGranted (.spad (d.src / 2 ^ 22) 0) home d.cls n
  | _ => s

/-- The check over a descriptor's source bytes (R382). -/
def Dsc.check (d : Dsc) (bytes : List Byte) : Nat := if d.c64 then crc64 bytes else crc32c bytes

/-- One thing that a descriptor sends: its offset from SRC, and a request or a packet or an append. -/
inductive DSend where
  | req (off : Nat) (named : Nat) (t : Target) (k : ReqKind)
  | packet (off : Nat) (k : Pkt)
  | append (basin : Nat) (cmds : List W512)

/-- The elements of a REDUCE, and the pieces that land together (R213): up to 32 elements by their places in the destination, as
(offset from SRC, address, elements). -/
def redPieces (d : Dsc) (dst : Nat) (bytes : List Byte) : List (Nat × Nat × List Nat) :=
  let ks := (redSource d.red).size
  let kd := redDestSize d.red
  let n := bytes.length / ks
  (cutFrom (32 * kd) (n / 32 + 2) dst (n * kd)).map (fun c =>
    let i := (c.1 - dst) / kd
    (i * ks, c.1, (upFrom i (c.2 / kd)).map (fun j => natLE ((bytes.drop (j * ks)).take ks))))

/-- The contribution of a REDUCE. -/
def Dsc.contribution (d : Dsc) (elems : List Nat) : ReqKind :=
  .reduce { red := redOf d.red, frame := d.frame, fmt := redSource d.red, elems := elems, flags := elems.map (fun _ => Flags.none) }
where
  /-- R114: the kind of a reducing write -/
  redOf (red : Nat) : Red := match red with | 1 => .fp32 | 2 => .bf16 | _ => .windowed

/-- A canal packet of a descriptor. -/
def Dsc.packet (d : Dsc) (b : Nat) (typ : BitVec 5) (addr : Nat) (payload : List Byte) : Pkt :=
  let data : Bool := typ ≠ tyBasin && typ ≠ tyRead
  { typ := typ, p := { Packet.blank with
    dst := BitVec.ofNat 16 d.node, agent := BitVec.ofNat 11 b, cls := BitVec.ofNat 3 d.cls, addr := BitVec.ofNat 48 addr,
    fin := if data && d.fin then 1 else 0, grp := if data then BitVec.ofNat 12 d.grp else 0,
    red := if typ = tyWriteRed then BitVec.ofNat 2 d.red else 0,
    frame := if typ = tyWriteRed && d.red = 3 then BitVec.ofInt 10 d.frame else 0, payload := payload } }

/-- R247, R171: the packets of a remote range: at most 512 bytes, cut at the 2 KiB boundaries of windows, as (offset, length). -/
def remoteCuts (a n : Nat) : List (Nat × Nat) :=
  ((cutFrom 2048 (n / 2048 + 2) a n).flatMap (fun g => (cutFrom 512 (g.2 / 512 + 2) 0 g.2).map (fun h => (g.1 + h.1, h.2)))).map
    (fun g => (g.1 - a, g.2))

/-- What a descriptor sends for the bytes it has read; `tail` is its check, written at DST + LEN. -/
def State.dscSends (s : State) (b : Nat) (r : BargeRun) (d : Dsc) (bytes tail : List Byte) : List DSend :=
  let all := bytes ++ tail
  if d.op = 3 then
    if d.dsp = 0 then
      [.append (relocBasin (s.vd r.vd).relocs d.dst) ((upFrom 0 (bytes.length / 64)).map (fun i => BitVec.ofNat 512 (natLE ((bytes.drop (64 * i)).take 64))))]
    else [.packet 0 (d.packet b tyBasin d.dst bytes)]
  else if d.op = 2 then
    let ks := (redSource d.red).size
    match d.dsp with
    | 3 =>
      (cutFrom 512 (bytes.length / 512 + 2) 0 bytes.length).map (fun g =>
        .packet g.1 (d.packet b tyWriteRed (d.dst + g.1 / ks * redDestSize d.red) ((bytes.drop g.1).take g.2)))
    | 2 => (redPieces d (d.dst % 2 ^ 22) bytes).map (fun p => .req p.1 p.2.1 (.spad (d.dst / 2 ^ 22) p.2.1) (d.contribution p.2.2))
    | _ => (redPieces d d.dst bytes).filterMap (fun p =>
        match s.rangeCheck r.vd p.2.1 true with | .at x => some (.req p.1 p.2.1 (.dev x) (d.contribution p.2.2)) | _ => none)
  else match d.dsp with
    | 0 => (s.units r.vd d.dst all.length).filterMap (fun g =>
        match s.rangeCheck r.vd g.1 true with
        | .at x => some (.req (g.1 - d.dst) g.1 (.dev x) (.write ((all.drop (g.1 - d.dst)).take g.2)))
        | _ => none)
    | 2 => (granules (d.dst % 2 ^ 22) all.length).map (fun g =>
        .req (g.1 - d.dst % 2 ^ 22) g.1 (.spad (d.dst / 2 ^ 22) g.1) (.write ((all.drop (g.1 - d.dst % 2 ^ 22)).take g.2)))
    | 1 => (hostCuts d.dst all.length).filterMap (fun g =>
        match s.bargePage b g.1 true with
        | some (.page p) => some (.req (g.1 - d.dst) g.1 (.host (s.fnOfCtx r.ctx / 64) (p * 4096 + g.1 % 4096)) (.write ((all.drop (g.1 - d.dst)).take g.2)))
        | _ => none)
    | _ => (remoteCuts d.dst all.length).map (fun g => .packet g.1 (d.packet b tyWrite (d.dst + g.1) ((all.drop g.1).take g.2)))

/-- One thing sent; answers its number. Final-held writes on this module wait for `deps` (R230). -/
def State.sendOne (s : State) (b : Nat) (r : BargeRun) (d : Dsc) (deps : List Nat) (x : DSend) : Nat × State :=
  let (id, s) := s.fresh
  match x with
  | .req _ named t k =>
    (id, s.send { plainReq id (.barge b) r.vd d.cls t named k with
      grp := d.grp, fin := d.fin, deps := deps, strict := d.fin && d.grp ≠ 0 })
  | .packet _ k => (id, s.inject id (.barge b) r.vd k)
  | .append c cmds =>
    (id, s.setNet { s.net with appends := s.net.appends ++
      [{ id := id, agent := .barge b, vd := r.vd, gen := (s.vd r.vd).gen, basin := c, cmds := cmds }] })

def DSend.off (x : DSend) : Nat := match x with | .req o _ _ _ => o | .packet o _ => o | .append _ _ => 0

/-- A failure written into a descriptor, when it is the lowest (R384). -/
def BDesc.failAt (x : BDesc) (f : DFail) : BDesc :=
  if x.status = 0 || f.off < x.bytes then { x with status := f.status, cause := f.cause, bytes := f.off, value := BitVec.ofNat 64 f.addr }
  else x

/-! ### Write groups (R229, R230, R383) -/

/-- R229: the descriptor at an index takes its place in its write group: a final-held one ends the group, another one joins it or begins it. -/
def BargeRun.enters (r : BargeRun) (idx : Nat) (d : Dsc) : List BGroup :=
  if d.grp = 0 ∨ d.op = 0 then r.groups
  else
    let enter (g : BGroup) : BGroup := if d.fin then { g with last := some idx } else { g with due := g.due ++ [idx] }
    let isOpen (g : BGroup) : Bool := g.grp = d.grp && g.last.isNone
    if r.groups.any isOpen then r.groups.map (fun g => if isOpen g then enter g else g)
    else r.groups ++ [enter { grp := d.grp, due := [], ids := [], bad := false, last := none }]

/-- The groups once a descriptor has made its writes `ids`, or failed: the group that it ends is no more. -/
def BargeRun.leaves (r : BargeRun) (idx : Nat) (ids : List Nat) (bad : Bool) : List BGroup :=
  (r.groups.filter (fun g => g.last ≠ some idx)).map (fun g =>
    if g.due.contains idx then { g with due := g.due.filter (fun i => i ≠ idx), ids := g.ids ++ ids, bad := g.bad || bad } else g)

/-- The groups once a write has ended. -/
def BargeRun.groupsAcked (r : BargeRun) (id : Nat) (ok : Bool) : List BGroup :=
  r.groups.map (fun g => if g.ids.contains id then { g with ids := g.ids.filter (fun i => i ≠ id), bad := g.bad || ! ok } else g)

/-- The group that the descriptor at an index ends. -/
def BargeRun.endsGroup (r : BargeRun) (idx : Nat) : Option BGroup := r.groups.find? (fun g => g.last = some idx)

/-- R230, R383: must a final-held descriptor wait, because an earlier one of its group has yet to make its writes? Not when its writes travel by
canal: they are held at the destination. -/
def BargeRun.mustWait (r : BargeRun) (idx : Nat) (d : Dsc) : Bool :=
  d.dsp ≠ 3 && (match r.endsGroup idx with | some g => g.due ≠ [] | none => false)

/-- Translations that a channel holds are let go once no descriptor in flight waits to make its writes. -/
def State.bargeUnwant (s : State) (b : Nat) : State :=
  match s.barges.find? b with
  | some r => if r.flight.all (·.sent) then s.unwant (.barge b) else s
  | none => s

/-- A descriptor whose bytes have come makes its writes. `x` is in flight; `fail` is its lowest failing byte so far. -/
def State.dscWrite (s : State) (b : Nat) (r : BargeRun) (x : BDesc) (bytes : List Byte) (fail : Option DFail) : State :=
  let d := dscOf x.raw
  let upd (s : State) (y : BDesc) (ids : List Nat) (bad : Bool) : State :=
    let r := (s.barges.find? b).getD r
    s.setBarge b { r with flight := r.flight.map (fun z => if z.idx = x.idx then y else z), groups := r.leaves x.idx ids bad }
  let group := r.endsGroup x.idx
  if (match group with | some g => g.bad | none => false) then
    -- R232, R383
    upd s ({ x with sent := true, waiting := [], got := [] }.failAt ⟨0, rsBus, 0, d.dst⟩) [] true
  else
    let fail := firstFail fail (if d.dsp = 1 then s.bargePageFail b d.dst (bytes.length + (if d.crc && d.crcw then d.checkLen else 0)) true else none)
    -- a BASIN append is placed whole; elements of a REDUCE are sent whole
    let good := match fail with
      | none => bytes
      | some f => if d.op = 3 then [] else if d.op = 2 then bytes.take (f.off - f.off % (redSource d.red).size) else bytes.take f.off
    let tail := if fail.isNone && d.crc && d.crcw then bytesLE d.checkLen (d.check bytes) else []
    let sends := if good = [] then [] else s.dscSends b r d good tail
    let deps := match group with | some g => g.ids | none => []
    let (ids, s) := sends.foldl
      (fun (a : List (Nat × Nat) × State) z =>
        let (id, t) := a.2.sendOne b r d deps z
        (a.1 ++ [(id, z.off)], t))
      ([], s)
    let y : BDesc := { x with sent := true, waiting := ids, got := [], status := 0, cause := 0, bytes := d.len,
                              value := if d.crc then BitVec.ofNat 64 (d.check bytes) else 0 }
    upd s (match fail with | some f => y.failAt f | none => y) (ids.map (·.1)) fail.isSome

/-- The remote reads of a descriptor sent (R379, R381). -/
def State.dscReadRemote (s : State) (b : Nat) (r : BargeRun) (x : BDesc) : State :=
  let d := dscOf x.raw
  let (ids, s) := (remoteCuts d.src d.len).foldl
    (fun (a : List (Nat × Nat) × State) g =>
      let (id, t) := a.2.fresh
      let k := d.packet b tyRead (d.src + g.1) []
      let k := { k with p := { k.p with len := BitVec.ofNat 7 (g.2 / 8), seq := BitVec.ofNat 32 id } }
      (a.1 ++ [(id, g.1)], t.inject id (.barge b) r.vd k))
    ([], s)
  let r := (s.barges.find? b).getD r
  s.setBarge b { r with flight := r.flight.map (fun z => if z.idx = x.idx then { x with waiting := ids } else z) }

/-- R378, R381: the next descriptor of a channel, if one may start: not beyond four in flight; under STOPBAD none before the one
before it has ended OK (R385). -/
def BargeRun.mayStart (r : BargeRun) : Bool :=
  ! r.stopping && ! r.dying && decide (r.next < r.n)
    && decide ((r.flight.filter (fun d => ! d.sent || d.waiting ≠ [])).length < 4)
    && (! r.stopBad || (r.bad = 0 && r.flight.all (fun d => d.sent && d.waiting = [] && d.status = 0)))

/-- What fetching a descriptor comes to. -/
inductive DFetch where
  | wait
  | broken
  | got (raw : W512) (rest : List HostAns)

/-- The descriptor at an index fetched (R378). -/
def State.dscFetch (s : State) (b : Nat) (r : BargeRun) (host : List HostAns) : DFetch × State :=
  let a := r.dlist.toNat - r.dlist.toNat % 2 + 64 * r.next
  if let some raw := r.ahead then (.got raw host, s)
  else if r.dlist.getLsbD 0 then
    if ! s.rangeIn r.vd a 64 false then (.broken, s)
    else if ! s.mayTouchAll false (s.placesOf r.vd a 64) then (.wait, s.rouseAll (s.placesOf r.vd a 64))
    else
      let (bs, bad) := s.readBytes r.vd a 64
      (if bad then .broken else .got (BitVec.ofNat 512 (natLE bs)) host, s)
  else
    let s := s.bargeWant b r a 64 false
    match s.bargePage b a false with
    | none => (.wait, s)
    | some (.bad _) => (.broken, s)
    | some (.page _) =>
      match host with
      | .data bs :: rest => (.got (BitVec.ofNat 512 (natLE (bs.take 64))) rest, s)
      | .busError :: _ => (.broken, s)
      | [] => (.broken, s)

/-- A descriptor's remote reads have all ended: it writes the bytes below the lowest that failed. -/
def State.dscRemoteDone (s : State) (b : Nat) (r : BargeRun) (x : BDesc) : State :=
  let d := dscOf x.raw
  let m := gotBytes x.got
  let fail : Option DFail := if x.status = 0 then none else some ⟨x.bytes, x.status, x.cause, x.value.toNat⟩
  (s.dscWrite b r x (m.readN 0 d.len) fail).bargeUnwant b

/-- The descriptors of a channel whose bytes have come, and that no longer wait for their group, make their writes. -/
def State.bargeFlow (s : State) (b : Nat) : State :=
  match s.barges.find? b with
  | none => s
  | some r =>
    r.flight.foldl
      (fun (s : State) x =>
        match s.barges.find? b with
        | none => s
        | some r => if x.sent || x.waiting ≠ [] || r.dying || r.mustWait x.idx (dscOf x.raw) then s else s.dscRemoteDone b r x)
      s

/-- A descriptor runs once every translation it needs is known and its source's memory ports let it through: it is checked, it reads, and it makes
its writes. -/
def State.dscRun (s : State) (b : Nat) (r : BargeRun) (x : BDesc) (host : List HostAns) : State :=
  let d := dscOf x.raw
  let start (s : State) (y : BDesc) : State :=
    s.setBarge b { r with next := r.next + 1, flight := r.flight ++ [y], groups := r.enters x.idx d, ahead := none }
  match s.dscCheck r.vd x.raw with
  | some (st, a) =>
    let y := { x with sent := true }.failAt ⟨0, st, 0, a⟩
    let t := start s y
    let r := (t.barges.find? b).getD r
    (t.setBarge b { r with groups := r.leaves x.idx [] true }).bargeUnwant b
  | none =>
    if d.op = 0 then (start s { x with sent := true }).bargeUnwant b
    else
      let dstLen := if d.dsp = 1 then d.dstLen else 0
      let srcLen := if d.ssp = 1 then d.len else 0
      let places := if d.ssp = 0 then s.placesOf r.vd d.src d.len else []
      let s := (s.bargeWant b r d.src srcLen false).bargeWant b r d.dst dstLen true
      if ! (s.bargeKnown b d.src srcLen false && s.bargeKnown b d.dst dstLen true) then s.setBarge b { r with ahead := some x.raw }
      else if ! s.mayTouchAll false places then (s.rouseAll places).setBarge b { r with ahead := some x.raw }
      else if d.ssp = 3 then
        let s := (start s x).bump .bebytes (engineOfBarge b) d.len
        s.dscReadRemote b ((s.barges.find? b).getD r) x
      else
        let (bytes, fail) := s.bargeRead b r d host
        let n := match fail with | some f => f.off | none => d.len
        let s := ((start s x).bump .bebytes (engineOfBarge b) n).bargeGrants b r d n
        let r := (s.barges.find? b).getD r
        if r.mustWait x.idx d then
          let y := { x with got := [(0, bytes)] }
          let y := match fail with | some f => y.failAt f | none => y
          s.setBarge b { r with flight := r.flight.map (fun z => if z.idx = x.idx then y else z) }
        else (s.dscWrite b r x bytes fail).bargeUnwant b

/-- The next descriptor of a channel runs when its OP is one of `ops`. -/
def bargeStep (b : BargeCh) (op : Nat → Bool) (host : List HostAns) (s : State) : Out :=
  .next (
    match s.barges.find? b.val with
    | none => s
    | some r =>
      if ! r.mayStart then s
      else match s.dscFetch b.val r host with
        | (.wait, s) => s
        | (.broken, s) => s.bargeDies b.val r
        | (.got raw rest, t) =>
          if ! op (cmdField raw 0 1) then s
          else t.dscRun b.val r { idx := r.next, raw := raw, waiting := [], got := [], status := 0, cause := 0, bytes := 0, value := 0, sent := false } rest)

/-- R379 NOP; a descriptor with a reserved OP ends here too, with RESERVED (R380). -/
def execBargeNop (b : BargeCh) (host : List HostAns) (s : State) : Out := bargeStep b (fun o => o = 0 || decide (3 < o)) host s
/-- R379 COPY. -/
def execBargeCopy (b : BargeCh) (host : List HostAns) (s : State) : Out := bargeStep b (fun o => o = 1) host s
/-- R379 REDUCE. -/
def execBargeReduce (b : BargeCh) (host : List HostAns) (s : State) : Out := bargeStep b (fun o => o = 2) host s
/-- R379 BASIN. -/
def execBargeBasin (b : BargeCh) (host : List HostAns) (s : State) : Out := bargeStep b (fun o => o = 3) host s

/-! ## Ends of requests -/

/-- R384: what a failed request records: the status and cause. A packet's final NAK is REMOTE; BUS, DOWN and NOROUTE of the canals,
and a refusal on this module, are BUS. -/
def requestFail (remote : Bool) (st : AccStatus) : Nat × Nat :=
  if remote && st ≠ .bus && st ≠ .down && st ≠ .noroute then (rsRemote, st.num) else (rsBus, 0)

/-- The place of an offset from SRC in the destination. -/
def Dsc.dstAt (d : Dsc) (off : Nat) : Nat :=
  d.dst + (if d.op = 2 then off / (redSource d.red).size * redDestSize d.red else if d.op = 3 then 0 else off)

/-- One request of a channel has ended: `data` is what a remote read brought. -/
def State.bargeEnds (s : State) (b id : Nat) (st : AccStatus) (data : List Byte) : State :=
  match s.barges.find? b with
  | none => s
  | some r =>
    match r.flight.find? (fun x => x.waiting.any (fun w => w.1 = id)) with
    | none => s
    | some x =>
      let d := dscOf x.raw
      let off := ((x.waiting.find? (fun w => w.1 = id)).map (·.2)).getD 0
      let remote : Bool := if x.sent then d.dsp = 3 else true
      let y := { x with waiting := x.waiting.filter (fun w => w.1 ≠ id) }
      let y := if st = .ok then (if x.sent then y else { y with got := y.got ++ [(off, data)] })
        else
          let (code, cause) := requestFail remote st
          y.failAt ⟨off, code, cause, if x.sent then d.dstAt off else d.src + off⟩
      let s := s.setBarge b { r with flight := r.flight.map (fun z => if z.idx = x.idx then y else z), groups := r.groupsAcked id (st = .ok) }
      if r.stopping then (match s.barges.find? b with | some r => if r.quiet then s.dropBarge b else s | none => s)
      else (s.bargeFlow b).bargeEnding b

/-- Does a page lie in a host range? -/
def pageMeets (page a n : Nat) : Bool := decide (page * 4096 < a + n && a < (page + 1) * 4096)

/-- R369: what a channel holds an old translation for is aborted and ends INVALIDATED: the descriptors whose writes to the page are not made, and
the descriptor fetched next, or to be fetched, that the page is for; their groups have failed (R232, R240). The page of a record is
translated again. -/
def State.bargeInvalidated (s : State) (b page : Nat) : State :=
  match s.barges.find? b with
  | none => s
  | some r =>
    let s := s.unwantPage (.barge b) page
    let dead (x : BDesc) : BDesc :=
      { x with status := rsInvalidated, cause := 0, bytes := 0, value := BitVec.ofNat 64 (page * 4096), sent := true, got := [] }
    let hit (x : BDesc) : Bool := ! x.sent && (dscOf x.raw).dsp = 1 && pageMeets page (dscOf x.raw).dst (dscOf x.raw).dstLen
    if r.stopping then s
    else
      let r := (r.flight.filter hit).foldl
        (fun (r : BargeRun) x =>
          { r with flight := r.flight.map (fun z => if z.idx = x.idx then dead x else z), groups := r.leaves x.idx [] true })
        r
      let next : Option W512 := match r.ahead with
        | some raw =>
          let d := dscOf raw
          if (d.ssp = 1 && pageMeets page d.src d.len) || (d.dsp = 1 && pageMeets page d.dst d.dstLen) then some raw else none
        | none => if ! r.dlist.getLsbD 0 && decide (r.next < r.n) && pageMeets page (r.dlist.toNat + 64 * r.next) 64 then some 0 else none
      let r := match next with
        | none => r
        | some raw =>
          let x : BDesc := { idx := r.next, raw := raw, waiting := [], got := [], status := 0, cause := 0, bytes := 0, value := 0, sent := false }
          let r := { r with groups := r.enters r.next (dscOf raw), ahead := none }
          { r with groups := r.leaves r.next [] true, next := r.next + 1, flight := r.flight ++ [dead x] }
      (s.setBarge b r).bargeFlow b

/-! ## Records (R384 to R386) -/

/-- The 32 bytes of a record. -/
def recordBytes' (cseq : W64) (x : BDesc) : List Byte :=
  bytesLE 8 cseq.toNat ++ bytesLE 8 x.bytes ++ bytesLE 8 x.value.toNat ++ bytesLE 1 x.status ++ bytesLE 1 x.cause ++ bytesLE 2 x.idx
    ++ bytesLE 4 0

/-- A record written: none while its page is not translated, else whether it was written. -/
def State.putRecord (s : State) (b : Nat) (r : BargeRun) (bytes : List Byte) : Option Bool × State :=
  let a := r.raddr.toNat - r.raddr.toNat % 2 + 32 * r.recorded
  if r.raddr.getLsbD 0 then
    match s.rangeCheck r.vd a true with
    | .at p =>
      if ! s.mayTouch true p 32 then (none, s.rousePort (portOf p))
      else
        let (t, bad) := s.devWrite p bytes
        (some (! bad), t)
    | _ => (some false, s)
  else
    let s := s.bargeWant b r a 32 true
    match s.bargePage b a true with
    | none => (none, s)
    | some (.bad _) => (some false, s)
    | some (.page p) =>
      let port := s.fnOfCtx r.ctx / 64
      let bus := p * 4096 + a % 4096
      (some true, ((s.hostWrite port (bus + 8) (bytes.drop 8)).hostWrite port bus (bytes.take 8)).unwantPage (.barge b) (a / 4096))

/-- The descriptor that is recorded next, once it has ended; under STOPBAD the rest are SKIPPED (R385). -/
def BargeRun.ended (r : BargeRun) : Option BDesc :=
  match r.flight.find? (fun x => x.idx = r.recorded) with
  | some x => if x.sent && x.waiting = [] then some x else none
  | none =>
    if r.stopBad && r.bad ≠ 0 && decide (r.recorded < r.n) then
      some { idx := r.recorded, raw := 0, waiting := [], got := [], status := rsSkipped, cause := 0, bytes := 0, value := 0, sent := true }
    else none

/-- R386: the BRUN of a channel has written its last record. -/
def State.brunRetire (s : State) (b : Nat) (r : BargeRun) : State :=
  let v := bargeValue b r.bad
  s.finishCmd r.queue r.cseq (if r.bad = 0 then Done.ok v else ⟨stBargeBad, 0, v, s.errStatus kindBarge r.firstBad⟩)

/-- R384 DESCRIPTOR_RECORD: the next record of a channel is written. -/
def execDescriptorRecord (b : BargeCh) (s : State) : Out :=
  .next (
    match s.barges.find? b.val with
    | none => s
    | some r =>
      if r.stopping || r.dying then s
      else match r.ended with
        | none => s
        | some x =>
          match s.putRecord b.val r (recordBytes' r.cseq x) with
          | (none, s) => s
          | (some false, s) => s.bargeDies b.val r
          | (some true, s) =>
            let e := engineOfBarge b.val
            let isBad : Bool := x.status ≠ 0
            let s := s.bump .bedesc e
            let s := if isBad then s.bump .bebad e else s
            let r := { r with
              recorded := r.recorded + 1, next := max r.next (r.recorded + 1), flight := r.flight.filter (fun y => y.idx ≠ x.idx),
              bad := if isBad then r.bad + 1 else r.bad, firstBad := if isBad && r.bad = 0 then x.status else r.firstBad }
            let s := s.setBarge b.val r
            if r.recorded = r.n then s.brunRetire b.val r else s)

end Sys2Proof.Machine
end

