-- ==== Sys2Proof/Machine/Release.lean ====
section
/-! DEFINITION. Memory leaving virtual devices (R172, R182, R306): release, fills due, the end of an evacuation that is aborted. -/

namespace Sys2Proof.Machine

/-- The near-tier channels and the segments of a virtual device. -/
def State.vdChannels (s : State) (v : Nat) : List Nat := (upFrom 0 256).filter (fun c => s.holdsBasin v c)
def State.vdSegments (s : State) (v : Nat) : List Nat := (upFrom 0 64).filter (fun e => s.ownsSegment v e)

/-- The spires of a virtual device on this module. -/
def State.vdSpires (s : State) (v : Nat) : List Nat := (upFrom 0 256).filter (fun n => (s.spire n).vdid = v)

/-- R306: an evacuation that has not switched is aborted: the destination is released, EVAC ends ABORTED. -/
def State.evacAbort (s : State) (k : Nat) : State :=
  match s.evacs.find? k with
  | none => s
  | some e =>
    if e.switched then s else
    let s := { s with evacs := s.evacs.erase k }
    let s := e.dst.foldl (fun s d => s.addFill (if e.far then 256 + d else d) false) s
    s.finishCmd e.queue e.cseq (s.failed stAborted kindCommand)

/-- The evacuations that meet a condition aborted. -/
def State.evacsAbort (s : State) (hit : Evac → Bool) : State :=
  (s.evacs.cells.filter (fun k => hit k.2)).foldl (fun s k => s.evacAbort k.1) s

/-- Is a unit the destination of a running evacuation? -/
def State.evacTarget (s : State) (far : Bool) (u : Nat) : Bool := s.evacs.cells.any (fun k => ! k.2.switched && k.2.far = far && k.2.dst.contains u)

end Sys2Proof.Machine
end

