-- ==== Sys2Proof/Machine/Resets.lean ====
section
/-! DEFINITION. Resets of spires, slices, clusters and virtual devices (R59, R491 to R498, R501 to R504), and the teardown of
contexts (R350). -/

namespace Sys2Proof.Machine

/-! ## Samples (R503, R504) -/

/-- R504: the record of a spire. -/
def State.sampleRecord (s : State) (n domain : Nat) : List Byte :=
  let sp := s.spire n
  let w := s.reg .rlsamp 0
  let halted : Bool := sp.run = .halted
  let barred : Bool := match sp.wait with | .bar _ _ _ _ _ => true | _ => false
  let gen : W64 := if sp.vdid < 63 then (s.vd sp.vdid).gen else 0
  bytesLE 2 1 ++ bytesLE 1 n ++ bytesLE 1 sp.vdid ++ bytesLE 1 domain ++ bytesLE 1 ((if halted then 1 else 0) + (if barred then 2 else 0))
    ++ bytesLE 2 0 ++ bytesLE 8 gen.toNat ++ bytesLE 8 (s.reg .btime 0).toNat ++ bytesLE 4 sp.pc ++ bytesLE 4 0
    ++ (match halted, sp.fault with | true, some f => f.bytes32 | _, _ => List.replicate 32 0)
    ++ sp.spad.readN (64 * w.get 15 0) (64 * w.get 31 16) ++ sp.spad.readN (64 * w.get 47 32) (64 * w.get 63 48)

/-- R503: the records of spires about to be reset by a domain written to the dump buffer, those of confidential virtual devices left
out; a spire whose record the host has not accepted is counted by SAMPLE_ABANDON and passed over. SAMPLE follows. -/
def State.samples (s : State) (domain : Nat) (l : List Nat) : State :=
  let w := s.reg .rlsamp 0
  let size := 64 + 64 * (w.get 31 16 + w.get 63 48)
  let cap := s.fld .rldumplen 0 31 0 / size
  let l := l.filter (fun n => ! s.confidential (s.spire n).vdid)
  if ! s.bit .rldump 0 0 || cap = 0 || l = [] then s
  else
    let first := s.reg .rldseq 0
    let lost := l.filter (fun n => s.unsampled.contains n)
    let s := (l.filter (fun n => ! s.unsampled.contains n)).foldl
      (fun s n =>
        let seq := s.reg .rldseq 0
        let base := s.fld .rldump 0 63 12 * 4096
        (s.hostWrite (s.fld .rldump 0 1 1) (base + seq.toNat % cap * size) (s.sampleRecord n domain)).setReg .rldseq 0 (seq + 1))
      s
    let s := { s with unsampled := s.unsampled.filter (fun n => ! l.contains n) }
    s.postPFs { code := 0x0103, vdid := 0x3F, arg0 := l.length - lost.length, arg1 := first.toNat, arg2 := lost.length }

/-- R493, R512: a reset counted and posted. -/
def State.postReset (s : State) (domain target vdid gen : Nat) : State :=
  (s.bump .rlrst domain).postPFs { code := 0x0101, vdid := vdid, arg0 := domain, arg1 := target, arg2 := gen }

/-! ## Spires (R59, R498) -/

/-- R498: the kernel of a spire that a reset discards: its DISPATCH starts no more, and this instance has ended. A halted kernel has
told its DISPATCH already (R395). -/
def State.discardKernel (s : State) (n : Nat) : State :=
  let sp := s.spire n
  match sp.kernel with
  | none => s
  | some k =>
    if sp.run = .halted then s
    else
      let upd (d : Dispatch) : Dispatch := if d.queue = k.queue ∧ d.cseq = k.cseq then { d with ended := d.ended + 1, aborted := true } else d
      { s with dispatches := s.dispatches.map upd }.closeDispatches

/-- R59: a spire zeroed. What it holds back never leaves; what is on its way ends unheard. -/
def State.zeroSpire (s : State) (n : Nat) : State :=
  let s := (s.withdraw n).dropHint n
  let s := s.setNet { s.net with
    arrivals := s.net.arrivals.filter (fun x => x ≠ n), badGroups := s.net.badGroups.filter (fun k => k.1 ≠ n),
    reqs := s.net.reqs.filter (fun r => ! (r.stage = .held && r.agent = .spire n)) }
  let s := s.setTrans { s.trans with wants := s.trans.wants.filter (fun w => match w.asker with | .tile sp _ => sp ≠ n | _ => true) }
  s.setSpire n ((s.spire n).zeroed n)

/-- Spires reset by R59 under a domain of R496: sampled, their kernels discarded, then free. -/
def State.resetSpires (s : State) (domain : Nat) (l : List Nat) : State :=
  let s := s.samples domain l
  let s := l.foldl (fun s n => (s.discardKernel n).zeroSpire n) s
  l.foldl (fun s n => s.spireFreed n) s

/-- R59, R496 SPIRE_RESET: a spire domain reset. -/
def execSpireReset (sp : Sp) (s : State) : Out := .next ((s.resetSpires 0 [sp.val]).postReset 0 sp.val 0x3F 0)

/-- R496: the spires of a cluster. -/
def clusterSpires (k : Nat) : List Nat := upFrom (16 * k) 16

/-- R214: a request that a reset discards in a combining buffer: every source receives BUS. -/
def State.refuseReq (s : State) (r : Req) : State :=
  if r.srcs = [] then s.answer r.id r.agent .bus else r.srcs.foldl (fun s x => s.answer x.1 x.2 .bus) s

/-- R496: what a cluster reset takes besides the spires: translation cache, combining buffers and merge entries. Reads attached to a merge
entry that is dropped are answered BUS. -/
def State.clusterParts (s : State) (k : Nat) : State :=
  let l := clusterSpires k
  let gone (r : Req) : Bool := match r.stage with | .router sp => l.contains sp | _ => false
  let out := s.net.reqs.filter gone
  let s := s.setNet { s.net with reqs := s.net.reqs.filter (fun r => ! gone r) }
  let s := out.foldl State.refuseReq s
  let lost := s.net.merges.filter (fun m => decide (mergeSpire ≤ m.port) && l.contains (m.port - mergeSpire))
  let s := s.setNet { s.net with
    merges := s.net.merges.filter (fun m => ! (decide (mergeSpire ≤ m.port) && l.contains (m.port - mergeSpire))),
    resps := s.net.resps ++ lost.flatMap (fun m => m.ids.map (fun i => (⟨i.1, i.2, [], .bus⟩ : Resp))) }
  s.setTrans { s.trans with leaves := s.trans.leaves.filter (fun x => x.cache ≠ k) }

/-- R496: cluster reset. -/
def State.clusterReset (s : State) (k : Nat) : State := (s.resetSpires 1 (clusterSpires k)).clusterParts k

/-- R496 CLUSTER_RESET. -/
def execClusterReset (k : Fin 16) (s : State) : Out := .next ((s.clusterReset k.val).postReset 1 k.val 0x3F 0)

/-- The slice of a number of a virtual device. -/
def VdState.slice? (x : VdState) (n : Nat) : Option Slice := x.slices.find? (fun sl => sl.num = n)

/-- R496: slice reset. -/
def State.sliceReset (s : State) (v n : Nat) : State :=
  match (s.vd v).slice? n with
  | none => s
  | some sl => (s.resetSpires 2 sl.spires).postReset 2 n v 0

/-- R496 SLICE_RESET. -/
def execSliceReset (v : Vd) (slice : Nat) (s : State) : Out := .next (s.sliceReset v.val slice)

/-- R503 SAMPLE_ABANDON: the host port has not accepted the record of a spire within 1 ms: it is counted, and the reset that follows
passes it over (log 60). -/
def execSampleAbandon (sp : Sp) (s : State) : Out :=
  .next ({ s with unsampled := if s.unsampled.contains sp.val then s.unsampled else s.unsampled ++ [sp.val] }.bump .rldlost 0)

/-! ## Virtual devices (R497) -/

/-- R354: what a command that a reset stopped comes to. -/
def State.resetDone (s : State) (kind : Nat) : Done := ⟨if kind = 3 then poAborted else stAborted, 0, 0, s.errStatus kindReset 0⟩

/-- R354: every accepted command of the virtual device ends ABORTED, with its fence's KIND RESET. -/
def State.abortCmds (s : State) (v : Nat) : State :=
  s.objs.queues.live.cells.foldl
    (fun s k =>
      if k.2.ctx.isSome && s.vdOfQueue k.2 = v then
        k.2.cmds.foldl (fun s c => s.finishCmd k.1 c.seq (s.resetDone k.2.kind)) s
      else s)
    s

/-- R309: the slices being reclaimed lose their spires, unsaved, and their SLICE_UNBIND ends ABORTED. -/
def State.dropLeaving (s : State) (v : Nat) : State :=
  let x := s.vd v
  let gone := x.slices.filter (fun sl => sl.leaving.isSome)
  let s := gone.foldl (fun s sl => sl.spires.foldl (fun s n => s.setSpire n { s.spire n with vdid := 0x3F }) s) s
  let x := { x with slices := x.slices.filter (fun sl => sl.leaving.isNone) }
  let s := (s.setVd v x).setFld .cnvdc v 23 0 x.canals
  gone.foldl (fun s sl => match sl.leaving with | some (q, c, _) => s.finishCmd q c (s.failed stAborted kindCommand) | none => s) s

/-- R209: ARRIVED of every entry of a virtual device returns to 0. -/
def State.clearArrivals (s : State) (v : Nat) : State :=
  (s.net.rounds.keys.filter (fun e => s.bit .nbar e 0 && s.fld .nbar e 6 1 = v)).foldl
    (fun s e => s.setRound e { s.round e with arrived := [] }) s

/-- R438: a SESSION_OPEN that waits for the fills of its virtual device ends ABORTED, and its slot stays free. -/
def State.abortSealing (s : State) (v : Nat) : State :=
  let mine (j : Join) : Bool := match j.opens with | some (u, _, _) => u = v | none => false
  (s.joins.filter mine).foldl (fun s j => s.finishCmd j.queue j.cseq (s.failed stAborted kindCommand))
    { s with joins := s.joins.filter (fun j => ! mine j) }

/-- The bounce commands under way on a virtual device: those whose record's pages are still asked for (R421). -/
def State.bounces (s : State) (v : Nat) : List (Nat × QueueObj × Cmd × MemObj) :=
  s.objs.queues.live.cells.filterMap (fun (k : Nat × QueueObj) =>
    if k.2.kind ≠ 0 then none
    else k.2.next.bind (fun c =>
      match (s.named tyMem (BitVec.ofNat 32 (cmdField c.raw 8 4)) (fun x => s.vdOfCtx x = v)).bind s.objs.mems.live.find? with
      | none => none
      | some m =>
        let a := m.base + cmdField c.raw 16 8
        let page (p : Nat) : Bool := decide (a / 4096 ≤ p) && decide (p ≤ (a + cmdField c.raw 32 4 + 15) / 4096)
        let asked := s.trans.wants.any (fun w => w.asker = .ring k.1 && w.ctx = m.head.owner && page w.page && w.write = (c.op == 0x65))
        if (c.op = 0x64 || c.op = 0x65) && asked then some (k.1, k.2, c, m) else none))

/-- R422, R425, R438: the bounce commands of a virtual device stopped: a BOUNCE_IN leaves its destination zeroed, a BOUNCE_OUT's SEQ stays
consumed; they end ABORTED, but for a BOUNCE_OUT that an integrity failure meets: AUTH, its tag zero. -/
def State.abortBounces (s : State) (v : Nat) (integrity : Bool := false) : State :=
  (s.bounces v).foldl
    (fun (s : State) (x : Nat × QueueObj × Cmd × MemObj) =>
      let (q, o, c, m) := x
      let len := cmdField c.raw 32 4
      let slot := cmdField c.raw 12 1
      let tag := m.base + cmdField c.raw 16 8 + len
      let found := (s.wantOf (.ring q) (tag / 4096) true).bind (·.found)
      let s := s.unwant (.ring q)
      if c.op = 0x64 then
        let s := (granules (cmdField c.raw 24 8) len).foldl
          (fun (s : State) (g : Nat × Nat) => match s.rangeCheck v g.1 true with | .at p => (s.devWrite p (List.replicate g.2 0)).1 | _ => s) s
        s.finishCmd q c.seq (s.failed stAborted kindCommand)
      else
        let s := match (s.vd v).sessions.find? slot with
          | some y => s.setVd v { s.vd v with sessions := (s.vd v).sessions.set slot { y with nextOut := y.nextOut + 1 } }
          | none => s
        let s := match found with
          | some (.page k) => if integrity then s.hostWrite (o.fn / 64) (k * 4096 + tag % 4096) (List.replicate 16 0) else s
          | _ => s
        s.finishCmd q c.seq (s.failed (if integrity then stAuth else stAborted) kindCommand))
    s

/-- R497, R501: a virtual device reset within a domain of R496: the steps in order, without the event. It is then in STATE 2, until a tick of the
belfry clock ends the reset (log 126); a reset that meets one that runs merges with it. `basinKind` names the KIND that the fence of a basin's
head takes. -/
def State.vdReset (s : State) (v domain : Nat) (basinKind : Nat → Nat → Nat := fun _ _ => kindBasin) : State :=
  if s.vdState v = 2 then s
  else
  let spires := s.vdSpires v
  let s := s.samples domain spires
  -- the kernels and saved records are gone before their spires are
  let s := { s with dispatches := s.dispatches.filter (fun d => d.vd ≠ v),
                    tails := s.tails.filter (fun t => ! (s.dispatches.any (fun d => d.vd = v && d.queue = t.kernel.queue && d.cseq = t.kernel.cseq))) }
  let s := spires.foldl State.zeroSpire s
  let s := s.setVd v { s.vd v with saves := [] }
  let s := (s.vdChannels v).foldl (fun s c => s.abortBasin c (basinKind c)) s
  let s := s.abortCmds v
  let s := s.abortBarges (fun r => r.vd = v) (fun _ _ => false)
  let s := (s.stopPool v (fun _ => true)).failTransfers v
  let s := s.evacsAbort (fun e => e.vd = v)
  let s := (((s.clearArrivals v).dropLeaving v).abortSealing v).abortBounces v
  let x := s.vd v
  let s := match x.freezer with | some (q, c) => s.finishCmd q c (s.failed stAborted kindCommand) | none => s
  let s := s.setVd v { s.vd v with gen := x.gen + 1, frozen := x.frozen && x.freezer.isNone, freezer := none, target := none }
  let s : State := s.closeJob v 2
  if s.vdState v = 1 then s.setFld .vdcfg v 1 0 2 else s

/-- R497 VD_RESET, with its event. -/
def State.resetVd (s : State) (v : Nat) (basinKind : Nat → Nat → Nat := fun _ _ => kindBasin) : State :=
  if ! s.vdActive v || s.vdState v = 2 then s
  else
    let s := s.vdReset v 3 basinKind
    s.postReset 3 v v (s.vd v).gen.toNat

/-- R497 VD_RESET. -/
def execVdReset (v : Vd) (s : State) : Out := .next (s.resetVd v.val)

/-- R502 COMMAND_TIMEOUT: the timer of a command has run out: it ends TIMEOUT, its virtual device is reset, TIMEOUT is posted. A timer
that the rule stops — a JOB_BEGIN or METER_FULL hold, a frozen virtual device, kernels all saved — has not run out. -/
def execCommandTimeout (w : TimedOut) (s : State) : Out :=
  .next (
    match w with
    | .queue q seq =>
      match s.objs.queues.live.find? q.val with
      | none => s
      | some o =>
        let v := s.vdOfQueue o
        match o.cmds.find? (fun c => c.seq = seq) with
        | none => s
        | some c =>
          let isDone : Bool := match c.stage with | .done _ | .signalling _ _ => true | _ => false
          let head : Bool := c.stage = .started || (o.next.map (·.seq)) = some seq
          let begins : Bool := o.kind = 1 && c.op = 0x11
          let saved : Bool := (s.vd v).saves.any (fun r => r.kernel.queue = q.val && r.kernel.cseq = seq)
            && ! s.spires.cells.any (fun k => match k.2.kernel with | some y => y.queue = q.val && y.cseq = seq | none => false)
          let held : Bool := (s.vd v).frozen || saved
            || (c.stage = .waiting && (if begins then s.hasJob v || s.meterFull else ! s.hasJob v && c.op ≠ 0))
          if isDone || ! head || held || (o.kind ≠ 1 && o.kind ≠ 2) || ! s.vdActive v then s
          else
            let ms := (s.reg .btime 0 - c.fetched).toNat / tickMs
            let s := s.finishCmd q.val seq ⟨stTimeout, 0, 0, s.errStatus kindTimeout 0⟩
            let s := (s.resetVd v).bump .rlto 0
            let e : Event := { code := 0x0102, vdid := v, arg0 := q.val, arg1 := seq.toNat, arg2 := ms }
            let s := s.postPFs e
            if o.fn % 64 = 0 then s else s.post o.fn e
    | .basin c =>
      match (s.basin c.val).ring with
      | [] => s
      | h :: _ =>
        let v := h.vd
        if ! s.vdActive v || (s.vd v).frozen || ! h.checked then s
        else
          let ms := (s.reg .btime 0 - h.since).toNat / tickMs
          let s := (s.resetVd v (fun b i => if b = c.val && i = 0 then kindTimeout else kindBasin)).bump .rlto 0
          s.postPFs { code := 0x0102, vdid := v, arg0 := 0, arg1 := h.num.toNat, arg2 := ms })

/-! ## Teardown (R350) -/

/-- Is a command still at work? -/
def Cmd.atWork (c : Cmd) : Bool := c.stage = .started

/-- The queues of a context. -/
def State.queuesOf (s : State) (c : Nat) : List (Nat × QueueObj) := s.objs.queues.live.cells.filter (fun k => k.2.ctx = some c)

/-- A command leaves its queue without a completion: it holds nothing any more (R337, R350). -/
def State.discardCmd (s : State) (q : Nat) (c : Cmd) : State :=
  let s := s.updQueue q (fun o => { o with cmds := o.cmds.filter (fun x => x.seq ≠ c.seq) })
  c.holds.foldl (fun s h => s.unhold h.1 h.2) s

/-- R350 steps 1 and 2: fetch stops on the queues of a context, and what has not started is discarded. -/
def State.stopQueues (s : State) (c : Nat) : State :=
  (s.queuesOf c).foldl
    (fun s k =>
      let s := if s.fld .qstat k.1 1 0 = 1 then s.setFld .qstat k.1 1 0 2 else s
      (k.2.cmds.filter (fun x => ! x.atWork)).foldl (fun s x => s.discardCmd k.1 x) s)
    s

/-- The references that a context's imports hold. -/
def Head.dropImports (h : Head) (c : Nat) : Nat := (h.imports.filter (fun x => x = c)).length

/-- The imports of a context given up: an object whose last reference it was is freed (R338, R350). -/
def State.loseImports (s : State) (c : Nat) : State :=
  let all : List (Nat × Nat) :=
    s.objs.mems.live.keys.map (tyMem, ·) ++ s.objs.fences.live.keys.map (tyFence, ·) ++ s.objs.events.live.keys.map (tyEvent, ·)
      ++ s.objs.queues.live.keys.map (tyQueue, ·)
  all.foldl
    (fun s k =>
      match s.objs.head? k.1 k.2 with
      | none => s
      | some h =>
        let n := h.dropImports c
        if n = 0 then s
        else
          let s := s.setObjs (s.objs.updHead k.1 k.2 (fun h => { h with href := h.href - n, imports := h.imports.filter (fun x => x ≠ c) }))
          if h.href = n then s.freeObj k.1 k.2 else s)
    s

/-- The apertures of a context unbound, on its own objects and on its imports (R324, R350). -/
def State.dropApertures (s : State) (c : Nat) : State :=
  let mine := s.objs.aps.cells.filter (fun k => k.2.ctx = c)
  mine.foldl (fun s k => (s.setObjs { s.objs with aps := s.objs.aps.erase k.1 }).unhold tyMem k.2.mem) s

/-- The armed notifications on a context's fences and event sources let go, so that their storage can be released. -/
def State.dropNotes (s : State) (c : Nat) : State :=
  let mine (n : Notify) : Bool :=
    ((s.objs.fences.live.find? n.fence).map (·.head.owner)) = some c || ((s.objs.events.live.find? n.event).map (·.head.owner)) = some c
  let gone := s.objs.notes.filter mine
  gone.foldl (fun s n => (s.unhold tyFence n.fence).unhold tyEvent n.event) (s.setObjs { s.objs with notes := s.objs.notes.filter (fun n => ! mine n) })

/-- R350 steps 3 and 4: the fences of a context are abandoned, its objects freed, its address space invalidated. -/
def State.finishTeardown (s : State) (c : Nat) (x : Ctx) : State :=
  let s := (s.objs.fences.live.cells.filter (fun k => k.2.head.owner = c)).foldl
    (fun s k => (s.applySignal k.1 k.2.head.gen (errorValue x.doom) true).2) s
  let s := ((s.dropNotes c).dropApertures c).loseImports c
  let s := (s.queuesOf c).foldl (fun s k => (k.2.cmds.foldl (fun s y => s.discardCmd k.1 y) s).freeObj tyQueue k.1) s
  let s := (s.objs.mems.live.cells.filter (fun k => k.2.head.owner = c)).foldl (fun s k => s.freeObj tyMem k.1) s
  let s := (s.objs.fences.live.cells.filter (fun k => k.2.head.owner = c)).foldl (fun s k => s.freeObj tyFence k.1) s
  let s := (s.objs.events.live.cells.filter (fun k => k.2.head.owner = c)).foldl (fun s k => s.freeObj tyEvent k.1) s
  let s := match x.priv with | some k => (s.rstReg .scpriv k) | none => s
  let s := s.setTrans { s.trans with
    leaves := s.trans.leaves.filter (fun l => ! (l.ctx = c && l.gen = x.head.gen)),
    branches := s.trans.branches.filter (fun l => ! (l.ctx = c && l.gen = x.head.gen)),
    wants := s.trans.wants.filter (fun l => ! (l.ctx = c && l.gen = x.head.gen)),
    walks := ⟨s.trans.walks.cells.map (fun k => (k.1, if k.2.ctx = c && k.2.gen = x.head.gen then { k.2 with stale := true } else k.2))⟩ }
  let s := if s.hasJob x.vd && s.fld .scvd x.vd 8 1 = c then s.closeJob x.vd 0 else s
  let s := match x.killer with | some (q, seq) => s.finishCmd q seq Done.ok | none => s
  s.freeObj tyCtx c

/-- R350: a teardown whose started commands have all ended comes to its end. -/
def State.tryTeardown (s : State) (c : Nat) : State :=
  match s.objs.ctxs.live.find? c with
  | none => s
  | some x =>
    if ! x.dying || x.head.freed then s
    else if (s.queuesOf c).any (fun k => k.2.cmds.any Cmd.atWork) then s
    else s.finishTeardown c x

/-- R350: teardown of a context begins: `doom` is the status its fences take, `killer` the command that asked for it. -/
def State.teardown (s : State) (c : Nat) (doom : BitVec 32) (killer : Option (Nat × W64)) : State :=
  match s.objs.ctxs.live.find? c with
  | none => s
  | some x =>
    if x.dying then s
    else
      let s := s.setObjs { s.objs with ctxs := { s.objs.ctxs with live := s.objs.ctxs.live.set c { x with dying := true, doom := doom, killer := killer } } }
      let s := s.stopQueues c
      -- the waiting save records of a frozen virtual device's dying context are discarded (R355), and their DISPATCHes with them
      let s := if (s.vd x.vd).frozen then
          s.setVd x.vd { s.vd x.vd with saves := (s.vd x.vd).saves.filter (fun r => r.kernel.ctx ≠ c) }
        else s
      s.tryTeardown c

/-- R350: a context's waiting save records, DISPATCHes and ended instances dropped. -/
def State.dropKernels (s : State) (v c : Nat) : State :=
  let s := s.setVd v { s.vd v with saves := (s.vd v).saves.filter (fun r => r.kernel.ctx ≠ c) }
  { s with dispatches := s.dispatches.filter (fun d => d.ctx ≠ c), tails := s.tails.filter (fun t => t.kernel.ctx ≠ c) }

/-- R350: the DRAIN of a teardown has run out: slices that run its kernels are reset, pool commands end, barge channels stop, and
what is left of its commands ends. -/
def State.endDrain (s : State) (c : Nat) : State :=
  match s.objs.ctxs.live.find? c with
  | none => s
  | some x =>
    if ! x.dying || x.head.freed then s
    else
      let v := x.vd
      let busy := (s.vd v).slices.filter (fun sl => sl.spires.any (fun n => match (s.spire n).kernel with | some k => k.ctx = c | none => false))
      -- what could start a kernel of the context goes before the slices are free
      let s := s.dropKernels v c
      let s := (busy.foldl (fun s sl => s.sliceReset v sl.num) s).dropKernels v c
      let mine (q : Nat) : Bool := ((s.objs.queues.live.find? q).bind (·.ctx)) = some c
      let s := (s.stopPool v (fun r => mine r.queue)).failOpened v (fun l => l.opener = some c)
      let s := s.abortBarges (fun r => r.ctx = c) (fun _ _ => true)
      let s := (s.queuesOf c).foldl (fun s k => k.2.cmds.foldl (fun s y => s.discardCmd k.1 y) s) s
      s.tryTeardown c

/-- R350 TEARDOWN_DRAIN_EXPIRY. -/
def execTeardownDrainExpiry (ctx : Fin 256) (s : State) : Out := .next (s.endDrain ctx.val)

/-- R350: the error status ABANDONED, and R332: SPLIT. -/
def State.abandoned (s : State) : BitVec 32 := s.errStatus kindAbandoned 0
def State.splitError (s : State) : BitVec 32 := s.errStatus kindSplit 0

end Sys2Proof.Machine
end

