-- ==== Sys2Proof/Machine/MemPort.lean ====
section
/-! DEFINITION. Memory ports (chapter 6): the granule operations of arriving reads and writes, check bits, poison and MACs, merged
reads (R217), release and initialising fills, refresh, retraining, DRAM scrubbing, mooring, and the traffic generator. -/

namespace Sys2Proof.Machine

/-! ## Traffic held at a port (R188, R303, R448) -/

/-- The port that a request is bound for: a memory port, or the ejection port of a spire. -/
def Req.port (r : Req) : Option Nat :=
  match r.target with
  | .dev a => some (portOf a)
  | .spad n _ => some (mergeSpire + n)
  | .host _ _ => none

/-- Was request `x` held at its port before `r` came to it? -/
def Req.before (x r : Req) : Bool :=
  match x.stage, r.stage with
  | .port k, .port j => decide (k < j)
  | .port _, _ => true
  | _, _ => false

/-- Is a port closed to traffic now? A moored spire is closed until it wakes. -/
def State.closed (s : State) (u : Nat) : Bool :=
  if u < mergeSpire then s.portHeld u else (s.spire (u - mergeSpire)).moored || (s.spire (u - mergeSpire)).waking

/-- A moored unit that is needed begins to wake (R448). -/
def State.rouse (s : State) (u : Nat) : State :=
  if u < mergeSpire then s.rousePort u
  else s.setSpire (u - mergeSpire) (s.spire (u - mergeSpire)).wake

/-- A request takes its place behind those held at its port (R188). -/
def State.park (s : State) (u : Nat) (r : Req) : State :=
  let s := s.rouse u
  match r.stage with
  | .net =>
    let (k, s) := s.fresh
    s.setNet { s.net with reqs := s.net.reqs.map (fun x => if x.id = r.id then { x with stage := .port k } else x) }
  | _ => s

/-- A request served: it leaves the network. -/
def State.takeReq (s : State) (id : Nat) : State := s.setNet { s.net with reqs := s.net.reqs.filter (fun x => x.id ≠ id) }

/-- The request `id` at an open port, none held before it, is served by `serve`; at a closed port, or behind others, it waits its
turn. -/
def atPort (id : Nat) (s : State) (serve : State → Nat → Req → State) : State :=
  match s.net.reqs.find? (fun r => r.id = id) with
  | none => s
  | some r =>
    match r.port with
    | none => s
    | some u =>
      if ! r.arriving then s
      else if s.closed u || s.net.reqs.any (fun x => x.port = some u && x.before r) then s.park u r
      else serve s u r

/-! ## What check bits and MACs find (R175, R181, R425) -/

/-- The virtual device to whose carve-out a physical address belongs. -/
def State.ownerAt (s : State) (a : Nat) : Nat :=
  match placeOf a with
  | .near ch _ => s.fld .chcfg ch 7 2
  | .far e _ => s.fld .fscfg e 7 2
  | _ => 0x3F

/-- R425: an integrity failure in a confidential virtual device. -/
def State.integrityFailure (s : State) (v : Nat) : State :=
  if ! s.confidential v then s
  else
    let s := s.abortBounces v true
    let s := s.setVd v { s.vd v with sessions := .empty }
    let s := s.resetVd v
    s.setVd v { s.vd v with integrity := true }

/-- R178: does a physical address lie under a key slot that holds no key? What lies there is unreadable for good. -/
def State.keyLost (s : State) (a : Nat) : Bool := s.keyOf a ≠ 0 && (s.sec.keys.find? (s.keyOf a)).isNone

/-- R178: the XTS key pair and the MAC key that encipher a physical address. -/
def State.xtsKeyAt (s : State) (a : Nat) : List Byte := (upFrom 0 64).map (Config.xtsKeyByte (s.sec.keys.get 0 (s.keyOf a)))
def State.macKeyAt (s : State) (a : Nat) : List Byte := (upFrom 0 32).map (Config.macKeyByte (s.sec.keys.get 0 (s.keyOf a)))

/-- R179: the version of a block: 0 in the near tier, its version counter in the far tier. -/
def State.blockVersion (s : State) (a : Nat) : Nat :=
  match placeOf a with
  | .far e off => s.dev.readLE (s.counterAddr e (off / 256 * 256)) 8
  | _ => 0

/-- R179: the MAC of a block of ciphertext, 64 bits. -/
def State.blockMac (s : State) (a : Nat) (cipher : List Byte) : Nat :=
  natLE (shake256 (s.macKeyAt a ++ bytesLE 8 (a / 256) ++ bytesLE 8 (s.blockVersion a) ++ cipher) 8)

/-- R179, R182: the block of a physical address as the port stores it: its ciphertext under its tweak, and its MAC. -/
def State.storedBlock (s : State) (a : Nat) : List Byte × Nat :=
  let c := xtsEncrypt (s.xtsKeyAt a) (a / 256) (s.dev.readN (a / 256 * 256) 256)
  (c, s.blockMac a c)

/-- R181: every granule of a block whose MAC does not match is poisoned, and the failure is counted at the port and reported to the security core
(R437). -/
def State.macFailure (s : State) (a : Nat) : State :=
  let s := (upFrom 0 4).foldl
    (fun s i =>
      let g := a / 256 * 256 + 64 * i
      if (s.devPoison.find? (g / 64)).isSome then s else s.poisonGranule g)
    s
  ((s.bump .chmac (portOf a)).bump .scinteg 0).integrityFailure (s.ownerAt a)

/-- The replica entry for a granule of a near-tier channel (R156). -/
def State.replicaAt (s : State) (a : Nat) : Option (Nat × Nat × Replica) :=
  match placeOf a with
  | .near ch off => ((s.basin ch).replicaOf (off / 64 * 64) 64).map (fun r => (ch, off, r))
  | _ => none

/-- R179 to R181: a block as the DRAM returns it. Under its MAC it is what the block deciphers to, be it a replay of an older write of the near
tier (R185); else it is an integrity failure. -/
def State.takesBlock (s : State) (a : Nat) (cipher : List Byte) (mac : Nat) : State :=
  if s.keyOf a = 0 || cipher.length ≠ 256 then s
  else if s.blockMac a cipher = mac then { s with dev := s.dev.writeN (a / 256 * 256) (xtsDecrypt (s.xtsKeyAt a) (a / 256) cipher) }
  else s.macFailure a

/-- R175, R181: what an access finds in the granule at a physical address. A granule that is poisoned already is recognised as
such, and nothing is counted; under a key slot that holds no key every MAC fails (R178, log 203). -/
def State.finds (s : State) (a : Nat) (ecc : Ecc) : State :=
  if (s.devPoison.find? (a / 64)).isSome then s
  else if s.keyLost a then s.macFailure a
  else match ecc with
  | .clean => s
  | .corrected =>
    let s := s.bump .chce (portOf a)
    match s.replicaAt a with | some (c, off, r) => s.repairGranule c off r | none => s
  | .uncorrectable =>
    let s := s.noteUe (portOf a)
    match s.replicaAt a with | some (c, off, r) => s.repairGranule c off r | none => s.poisonGranule a
  | .stored c m => s.takesBlock a c m

/-! ## Merged reads (R217, R218) -/

/-- The responses of a merge entry leave. -/
def State.closeMerge (s : State) (m : Merge) : State :=
  s.setNet { s.net with resps := s.net.resps ++ m.ids.map (fun i => (⟨i.1, i.2, m.bytes, m.status⟩ : Resp)) }

/-- The merge entries that meet a condition close. -/
def State.closeMerges (s : State) (hit : Merge → Bool) : State :=
  let gone := s.net.merges.filter hit
  gone.foldl State.closeMerge (s.setNet { s.net with merges := s.net.merges.filter (fun m => ! hit m) })

/-- A write to a range reaches a port: the entries that hold a byte of it accept no more (R217). -/
def State.writeMeetsMerges (s : State) (u a n : Nat) : State :=
  s.closeMerges (fun m => m.port = u && rangesMeet m.addr m.len a n)

/-- R218: may a read of `vd` join an entry of another virtual device? -/
def State.mayShare (s : State) (m : Merge) (vd : Nat) : Bool := m.vd = vd || (m.port < mergeSpire && (s.sharedAt m.addr).isSome)

/-- The answer of a read that is served, put into a merge entry where one is free (R217). -/
def State.serveRead (s : State) (u addr : Nat) (r : Req) (bytes : List Byte) (status : AccStatus) : State :=
  let m : Merge := { port := u, addr := addr, len := bytes.length, vd := r.vd, ids := [(r.id, r.agent)], bytes := bytes, status := status }
  if (s.net.merges.filter (fun x => x.port = u)).length < 32 then s.setNet { s.net with merges := s.net.merges ++ [m] }
  else s.closeMerge m

/-- The tower of a port. -/
def portTower (u : Nat) : Nat :=
  if u < 256 then towerOfChannel u else if u < mergeSpire then towerOfFar (u - 256) else towerOfSpire (u - mergeSpire)

/-- A read joins a merge entry of its range, which closes at its 64th requester; none: there is none to join. An entry whose data the
place no longer holds is not joined: a write has landed there since (R217, R224). -/
def State.joinMerge (s : State) (u addr n : Nat) (r : Req) (bytes : List Byte) : Option State :=
  match s.net.merges.find? (fun m => m.port = u && m.addr = addr && m.len = n && m.bytes = bytes && s.mayShare m r.vd) with
  | none => none
  | some m =>
    let m' := { m with ids := m.ids ++ [(r.id, r.agent)] }
    let s := s.setNet { s.net with merges := s.net.merges.map (fun x => if x = m then m' else x) }
    let s := s.bump .nmerge (portTower u)
    some (if 64 ≤ m'.ids.length then s.closeMerges (fun x => x = m') else s)

/-! ## Arriving reads and writes -/

/-- A read served at its port (R132, R175, R181, R217). What `ecc` says holds of the first granule it reads (log 62). -/
def State.servePortRead (s : State) (u : Nat) (r : Req) (n : Nat) (ecc : Ecc) : State :=
  match r.target with
  | .dev a =>
    let s := (s.takeReq r.id).readGranted r.target (s.agentRouter r.agent) r.cls n
    match s.joinMerge u a n r (s.devRead a n).1 with
    | some s => s
    | none =>
      let s := s.finds a ecc
      let (bytes, bad) := s.devRead a n
      s.serveRead u a r bytes (if bad then .poison else .ok)
  | .spad t off =>
    let s := (s.takeReq r.id).readGranted r.target (s.agentRouter r.agent) r.cls n
    let sp := s.spire t
    match s.joinMerge u off n r (sp.spad.readN off n) with
    | some s => s
    | none =>
      s.serveRead u off r (sp.spad.readN off n) (if anyPoison sp.poison off n then .poison else .ok)
  | .host _ _ => s

/-- R132 MEMORY_READ: a read request reaches its port: a memory port, or the ejection port of a spire. -/
def execMemoryRead (id : Nat) (ecc : Ecc) (s : State) : Out :=
  .next (atPort id s (fun s u r => match r.kind with | .read n => s.servePortRead u r n ecc | _ => s))

/-- Does a write cover less than its granules, or, in an encrypted carve-out, than its blocks (R177, R180)? -/
def State.mergesAtPort (s : State) (a n : Nat) : Bool :=
  let g := if s.keyOf a = 0 then 64 else 256
  a % g ≠ 0 || n % g ≠ 0

/-- A plain write served at its port (R132, R176, R177, R303); a write that finds its range sealed since it was sent is refused (R193, R301). -/
def State.servePortWrite (s : State) (u a : Nat) (r : Req) (d : List Byte) (ecc : Ecc) : State :=
  if s.copying a then s
  else if s.readOnlyAt a then (s.takeReq r.id).answer r.id r.agent .permission
  else
    let s := ((s.takeReq r.id).granted u r.cls d.length).writeMeetsMerges u a d.length
    let s := if s.mergesAtPort a d.length then s.finds a ecc else s
    let (s, bad) := s.devWrite a d
    s.answer r.id r.agent (if bad then .poison else .ok)

/-- A reducing write reaches a basin: it takes its place in the landing queue, or waits while that is full (R138, R142). The far tier
has no landing queue. -/
def State.servePortReduce (s : State) (u a : Nat) (r : Req) (d : RedData) : State :=
  if 256 ≤ u then (s.takeReq r.id).answer r.id r.agent .range
  else if s.chanReadOnly u then (s.takeReq r.id).answer r.id r.agent .permission
  else
    let b := s.basin u
    if 512 < b.landed + landEntries r then s
    else
      let s := (s.takeReq r.id).writeMeetsMerges u a (d.elems.length * d.red.dstSize)
      s.setBasin u { b with land := b.land ++ [r] }.urge.wake

/-- R177, R223 MEMORY_WRITE: a write or reducing write reaches its memory port. -/
def execMemoryWrite (id : Nat) (ecc : Ecc) (s : State) : Out :=
  .next (atPort id s (fun s u r =>
    match r.target, r.kind with
    | .dev a, .write d => s.servePortWrite u a r d ecc
    | .dev a, .reduce d => s.servePortReduce u a r d
    | _, _ => s))

/-- R217 MERGE_ENTRY_CLOSE: entry `k` of a port has stood 32 cycles, or its response begins to leave. Spire n's ejection port is
1,024 + n. -/
def execMergeEntryClose (port k : Nat) (s : State) : Out :=
  .next (
    match (s.net.merges.filter (fun m => m.port = port))[k]? with
    | some m => s.closeMerges (fun x => x = m)
    | none => s)

/-! ## Fills (R172, R182, R499) -/

/-- The addresses of a unit that fills: first, and past the last. -/
def unitSpan (u : Nat) : Nat × Nat :=
  if u < 256 then (nearAddr u 0, nearAddr u chanBytes) else (farAddr (u - 256) 0, farAddr (u - 256) (2 ^ 33))

/-- The unit of a FILL_DONE. -/
def fillNum (u : FillUnit) : Nat := match u with | .channel c => c.val | .segment e => 256 + e.val

/-- Every populated byte of a unit zero, no granule poisoned. -/
def State.zeroUnit (s : State) (u : Nat) : State :=
  let (lo, hi) := unitSpan u
  { s with dev := s.dev.clear lo hi, devPoison := ⟨s.devPoison.cells.filter (fun c => ¬ (lo / 64 ≤ c.1 ∧ c.1 < hi / 64))⟩ }

/-- Every byte of a unit zero, but for the counter areas that a channel holds already for segments of its carve-out (R182, R184). -/
def State.zeroUsable (s : State) (u : Nat) : State :=
  let keep := if u < 256 then nearAddr u (s.fld .chtop u 31 0) else farAddr (u - 256) (2 ^ 33)
  let t := s.zeroUnit u
  if u < 256 then { t with dev := t.dev.splice keep (chanBytes - s.fld .chtop u 31 0) s.dev keep } else t

/-- R182: every version counter of a segment at 1. -/
def State.startVersions (s : State) (e : Nat) : State :=
  { s with dev := (upFrom 0 (2 ^ 25)).foldl (fun m b => m.writeLE (s.counterAddr e (256 * b)) 8 1) s.dev }

/-- R172: the end of a release fill: configuration back at reset, and STATE 0b11 where the unit was marked (R509). -/
def State.releaseEnds (s : State) (u : Nat) : State :=
  let s := s.zeroUnit u
  if u < 256 then
    let s := (s.rstReg .chcfg u).rstReg .chtop u
    if s.unitPending u then s.retireUnit u else s
  else
    let s := s.rstReg .fscfg (u - 256)
    let f := 256 + (u - 256) / 8
    if s.unitPending f && ! s.unitBound f then s.retireUnit f else s

/-- The interleave set of a channel becomes valid once all its members have joined (R173, R182). -/
def State.validateSet (s : State) (ch : Nat) : State :=
  if ! s.bit .chcfg ch 8 then s
  else
    let slot := s.fld .chcfg ch 16 9
    if (s.members slot).all (fun c => s.fld .chcfg c 1 0 = 1) then s.setFld .iset slot 0 0 1 else s

/-- R182: the end of an initialising fill: the unit joins its carve-out. -/
def State.initEnds (s : State) (u : Nat) : State :=
  let s := s.zeroUsable u
  if u < 256 then (s.setFld .chcfg u 1 0 1).validateSet u else (s.startVersions (u - 256)).setFld .fscfg (u - 256) 1 0 1

/-- R420: the session that sealed its virtual device opens: SEALED is set, and VALUE is bytes 64 to 71 of K (R417). -/
def State.openSession (s : State) (v slot : Nat) (x : Session) : State :=
  s.setVd v { s.vd v with sessions := (s.vd v).sessions.set slot x }

/-- R300, R420: a command that waited for fills goes on. -/
def State.joinEnds (s : State) (j : Join) : State :=
  match j.opens with
  | none => s.finishCmd j.queue j.cseq Done.ok
  | some (v, slot, x) =>
    let (n, s) := s.free
    let s := s.setVd v { s.vd v with isSealed := true, poolKey := some (bytesLE 32 n) }
    (s.openSession v slot x).finishCmd j.queue j.cseq (Done.ok (BitVec.ofNat 64 (natLE (x.confirm.take 8))))

/-- The commands that waited for a unit's fill go on. -/
def State.joinsEnd (s : State) (u : Nat) : State :=
  let js := s.joins.map (fun j => { j with units := j.units.erase u })
  (js.filter (fun j => j.units = [])).foldl State.joinEnds { s with joins := js.filter (fun j => j.units ≠ []) }

/-- A fill ends: the unit joins its carve-out or returns to reset, and what waited for it goes on. -/
def State.fillEnds (s : State) (f : Fill) : State :=
  let s := s.bump .chscrn (portOfUnit f.unit)
  (if f.init then s.initEnds f.unit else s.releaseEnds f.unit).joinsEnd f.unit

/-- R172 FILL_DONE: the fill of a unit has ended. The segments of one controller fill one after another, in the order they came due.
A fill counts as a completed scrub pass of its port (R190, log 166). -/
def execFillDone (u : FillUnit) (s : State) : Out :=
  let n := fillNum u
  .next (
    match s.fills.find? (fun f => portOfUnit f.unit = portOfUnit n) with
    | some f =>
      if f.unit ≠ n then s
      else
        State.fillEnds { s with fills := s.fills.filter (fun x => x.unit ≠ n) } f
    | none => s)

/-! ## Refresh (R186, R187) -/

/-- The ports that share a temperature sensor: the channels of a stack, or one controller. -/
def sensorPorts (u : Nat) : List Nat := if u < 256 then upFrom (u / 32 * 32) 32 else [u]

/-- R186: the rate at a temperature, given the rate before: 0 1×, 1 2×, 2 4×. It falls only 3 °C below a threshold. -/
def nextRate (old : Nat) (t : Int) : Nat :=
  let up := if 95 < t then 2 else if 85 < t then 1 else 0
  let stay := if 92 < t then 2 else if 82 < t then 1 else 0
  max up (min old stay)

/-- R186 REFRESH: a refresh boundary: the rate chosen comes into force. -/
def execRefresh (u : PortUnit) (s : State) : Out := .next (s.setFld .chtemp u.val 9 8 (s.port u.val).rate)

/-- R186 REFRESH_RATE_CHANGE: a reading of the stack's or the bank's sensor. -/
def execRefreshRateChange (u : PortUnit) (temp : Int) (s : State) : Out :=
  .next ((sensorPorts u.val).foldl
    (fun s p =>
      let x := s.port p
      let s := s.setPort p { x with rate := nextRate x.rate temp }
      (s.setFld .chtemp p 7 0 (temp % 256).toNat).setFld .chtemp p 10 10 (if 105 < temp then 1 else 0))
    s)

/-- R187 REFRESH_MANAGEMENT: the device refreshes the neighbours of a row: nothing that a reader sees changes (log 63). -/
def execRefreshManagement (_u : PortUnit) (_row : Nat) (s : State) : Out := .next s

/-! ## Retraining (R188, R189) -/

/-- Is a port out of service for test: its channel, or a segment of its controller? -/
def State.inTest (s : State) (u : Nat) : Bool :=
  if u < 256 then s.fld .chcfg u 1 0 = 2 else (segmentsOf (u - 256)).any (fun e => s.fld .fscfg e 1 0 = 2)

/-- Does a fill run on a port? -/
def State.portFilling (s : State) (u : Nat) : Bool := s.fills.any (fun f => portOfUnit f.unit = u)

/-- R188 RETRAINING_WINDOW: a window opens, unless another of its tier is open, or R189 or R192 forbids it. -/
def execRetrainingWindow (u : PortUnit) (s : State) : Out :=
  let n := u.val
  let near (k : Nat) : Bool := k < 256
  .next (
    if s.ports.cells.any (fun c => c.2.window && near c.1 = near n) || s.inTest n || s.portFilling n || (s.port n).moored
        || (s.port n).waking then s
    else s.setPort n { s.port n with window := true })

/-- R188, R189 RETRAINING_END: the window closes; the fourth failure in a row is reported and marks the unit (R509). -/
def execRetrainingEnd (u : PortUnit) (converged : Bool) (s : State) : Out :=
  let n := u.val
  .next (
    if ! (s.port n).window then s
    else
      let s := s.setPort n { s.port n with window := false }
      if converged then (s.bump .chtrn n).setFld .chtrs n 2 0 0
      else
        let fails := min 4 (s.fld .chtrs n 2 0 + 1)
        let first : Bool := s.fld .chtrs n 2 0 = 3
        let s := s.setFld .chtrs n 2 0 fails
        if ! first then s
        else
          let s := s.setFld .chtrs n 3 3 1
          let s := s.postPFs { code := 0x0106, vdid := 0x3F, arg0 := if n < 256 then 1 else 2, arg1 := if n < 256 then n else n - 256,
                               arg2 := (s.reg .chtrs n).toNat }
          s.markUnit n)

/-! ## Scrubbing (R190, R192) -/

/-- The populated bytes of a port, and the address of an offset. -/
def portBytes (u : Nat) : Nat := if u < 256 then chanBytes else 2 ^ 36
def portAddr (u off : Nat) : Nat := if u < 256 then nearAddr u off else farBase + (u - 256) * 2 ^ 36 + off

/-- R181, R190: what scrubbing finds: it checks the check symbols and not the MAC. -/
def State.scrubFinds (s : State) (a : Nat) (ecc : Ecc) : State :=
  match ecc with
  | .corrected | .uncorrectable => if s.keyLost a then s else s.finds a ecc
  | .clean | .stored _ _ => s

/-- R190 DRAM_SCRUB: the next granule of a port is read and its check symbols checked. The range under test is passed over (R195);
a moored or closed port is not scrubbed. -/
def execDramScrub (u : PortUnit) (ecc : Ecc) (s : State) : Out :=
  let n := u.val
  let p := s.port n
  .next (
    if s.portHeld n || s.portFilling n then s
    else
      let off := p.scrub
      let tested : Bool := match p.run with | some r => decide (r.base ≤ off) && decide (off < r.base + r.len) | none => false
      let s := if tested then s else s.scrubFinds (portAddr n off) ecc
      let wrapped : Bool := portBytes n ≤ off + 64
      let next := if wrapped then 0 else off + 64
      let p := s.port n
      let s := s.setPort n { p with scrub := next, catchUp := p.catchUp && ! wrapped }
      let s := s.setFld .chscrp n 31 6 (next / 64)
      if wrapped then s.bump .chscrn n else s)

/-- R192 SCRUB_WAKE: a port moored for an hour is woken and kept awake until its pass ends. -/
def execScrubWake (u : PortUnit) (s : State) : Out :=
  let p := s.port u.val
  .next (if p.moored then s.setPort u.val { p with moored := false, waking := true, catchUp := true } else s)

/-- R448 CHANNEL_MOOR: a port without an access for CHIDLE µs moors while PWMOOR.EN is set. -/
def execChannelMoor (u : PortUnit) (s : State) : Out :=
  let n := u.val
  let p := s.port n
  .next (
    if ! s.bit .pwmoor 0 32 || p.window || p.waking || p.catchUp || p.run.isSome || s.portFilling n
        || s.net.reqs.any (fun r => r.port = some n && (match r.stage with | .port _ => true | _ => false)) then s
    else s.setPort n { p with moored := true })

/-- R448 UNIT_WAKE: a moored unit has woken. Canals and host ports never moor. -/
def execUnitWake (u : MoorUnit) (s : State) : Out :=
  .next (
    match u with
    | .spire n => s.setSpire n.val { s.spire n.val with moored := false, waking := false }
    | .port p => s.setPort p.val { s.port p.val with moored := false, waking := false }
    | .basin c => s.setBasin c.val { s.basin c.val with moored := false, waking := false }
    | .canal _ => s
    | .hostPort _ => s)

/-! ## The traffic generator (R195 to R197) -/

/-- Word `w` of granule `n` under patterns 1 to 3. -/
def tgWord (pat : Nat) (seed : W64) (n w : Nat) : W64 :=
  match pat with
  | 1 => BitVec.ofNat 64 (2 ^ ((n + w) % 64))
  | 2 => ~~~ BitVec.ofNat 64 (2 ^ ((n + w) % 64))
  | _ => BitVec.ofNat 64 (64 * n + 8 * w) ^^^ seed

/-- One bit of x^31 + x^28 + 1, and the next state (log 64). -/
def prbsStep (st : Nat) : Bool × Nat :=
  let b := st.testBit 30 != st.testBit 27
  (b, st * 2 % 2 ^ 31 + (if b then 1 else 0))

/-- `n` bits of PRBS31 as a number, first bit lowest, and the state after them. -/
def prbsBits : Nat → Nat → Nat × Nat
  | 0, st => (0, st)
  | n + 1, st =>
    let (b, st) := prbsStep st
    let (v, st) := prbsBits n st
    (2 * v + (if b then 1 else 0), st)

/-- `k` granules of PRBS31. -/
def prbsGranules : Nat → Nat → List (List Byte)
  | 0, _ => []
  | k + 1, st =>
    let (v, st) := prbsBits 512 st
    bytesLE 64 v :: prbsGranules k st

/-- The granules that a run writes and expects, from its base upward. Rows are the controller's own; in row-disturb stress the even rows hold
TGSEED until the roles swap (R196). -/
def TgRun.granules (r : TgRun) (u : Nat) (swapped : Bool) : List (List Byte) :=
  let k := r.len / 64
  match r.pat with
  | 0 => prbsGranules k (if r.seed.toNat % 2 ^ 31 = 0 then 0x7FFFFFFF else r.seed.toNat % 2 ^ 31)
  | 4 =>
    (upFrom (r.base / 64) k).map (fun n =>
      (List.replicate 8 (bytesLE 8 (if Config.rowOdd u (64 * n) = swapped then r.seed.toNat else (~~~ r.seed).toNat))).flatten)
  | p => (upFrom (r.base / 64) k).map (fun n => (upFrom 0 8).flatMap (fun w => bytesLE 8 (tgWord p r.seed n w).toNat))

/-- Is every byte of a range out of service for test (R195)? -/
def State.rangeInTest (s : State) (u base len : Nat) : Bool :=
  if u < 256 then s.fld .chcfg u 1 0 = 2
  else (segmentsOf (u - 256)).all (fun e => ! rangesMeet ((e % 8) * 2 ^ 33) (2 ^ 33) base len || s.fld .fscfg e 1 0 = 2)

/-- A start refused for a reason (R197). -/
def State.tgRefuse (s : State) (u why : Nat) : State := s.setFld .tgstat u 5 3 why

/-- R195, R197: START. -/
def State.tgStart (s : State) (u : Nat) : State :=
  let ctl := s.reg .tgctl u
  let r : TgRun := { base := s.fld .tgbase u 35 0, len := s.fld .tglen u 35 0, seed := s.reg .tgseed u, pat := ctl.get 4 2,
                     mode := ctl.get 6 5, raw := ctl.getLsbD 7, iter := s.fld .tgiter u 31 0, stopAt := none }
  if s.bit .tgstat u 0 then s.tgRefuse u 3
  else if ! s.rangeInTest u r.base r.len then s.tgRefuse u 1
  else if 4 < r.pat ∨ r.base % 2048 ≠ 0 ∨ r.len = 0 ∨ r.len % 2048 ≠ 0 ∨ portBytes u < r.base + r.len then s.tgRefuse u 2
  else
    let s := s.setPort u { s.port u with run := some r }
    ((s.setFld .tgstat u 0 0 1).setReg .tgfaddr u 0).setReg .tgfxor u 0

/-- R197 TG_START: a run starts with the fields of the generator's registers. -/
def execTgStart (u : PortUnit) (s : State) : Out := .next (s.tgStart u.val)

/-- R197: STOP, at the next granule boundary: how far the run has come is a free value (log 65). -/
def State.tgStop (s : State) (u : Nat) : State :=
  match (s.port u).run with
  | none => s
  | some r =>
    let (k, s) := s.free
    s.setPort u { s.port u with run := some { r with stopAt := some k } }

/-- R197 TG_STOP. -/
def execTgStop (u : PortUnit) (s : State) : Out := .next (s.tgStop u.val)

/-- The granules that a run writes in all, and checks in all. -/
def TgRun.work (r : TgRun) : Nat × Nat :=
  let k := r.len / 64
  match r.mode with
  | 0 => (k, 0)
  | 1 => (0, k)
  | 2 => (k, k)
  | _ => (k * r.iter, k * r.iter)

/-- Granules written at least once, and granules checked, when a run ends: a stopped run has worked `n` granules, modulo what it can
reach. -/
def TgRun.reach (r : TgRun) : Nat × Nat :=
  let k := r.len / 64
  match r.stopAt with
  | none => (min k r.work.1, r.work.2)
  | some n =>
    match r.mode with
    | 0 => (n % (k + 1), 0)
    | 1 => (0, n % (k + 1))
    | _ =>
      let n := if r.mode = 3 ∧ r.iter = 0 then n else n % (r.work.1 + r.work.2 + 1)
      (min k n, n / (2 * k) * k + (n % (2 * k) - k))

/-- R196: how far a run of row-disturb stress has come: has it ended an iteration, and in the last one, the granules written before the swap of
roles and after it; and the granules checked in all, even rows before the swap and odd rows after it. A stopped run has worked `n` granules,
modulo what it can reach. -/
def TgRun.stress (r : TgRun) (u : Nat) : Bool × Nat × Nat × Nat :=
  let k := r.len / 64
  let even := ((upFrom (r.base / 64) k).filter (fun n => ! Config.rowOdd u (64 * n))).length
  let one := match r.mode with | 0 => 2 * k | 1 => k | _ => 3 * k
  let total := if r.mode = 3 then one * r.iter else one
  let n := match r.stopAt with | none => total | some n => if r.mode = 3 ∧ r.iter = 0 then n else n % (total + 1)
  match r.mode with
  | 0 => (false, min n k, n - k, 0)
  | 1 => (false, 0, 0, n)
  | _ =>
    let m := n % one
    (decide (one ≤ n), min m k, min (m - k - even) k, n / one * k + min (m - k) even + (m - 2 * k - even))

/-- What a run has written when it ends, in order, and the granules it has checked. -/
def TgRun.done (r : TgRun) (u : Nat) : List (Nat × List Byte) × Nat :=
  let at' (swapped : Bool) : List (Nat × List Byte) := (r.granules u swapped).zipIdx.map (fun g => (r.base + 64 * g.2, g.1))
  if r.pat = 4 then
    let (again, x, y, ck) := r.stress u
    ((if again then at' true else []) ++ (at' false).take x ++ (at' true).take y, ck)
  else (if r.mode = 1 then [] else (at' true).take r.reach.1, r.reach.2)

/-- The mismatching words of granules against what they should hold: (offset of the word, expected, found). -/
def tgMismatch (m : Memory) (u : Nat) (l : List (Nat × List Byte)) : List (Nat × W64 × W64) :=
  l.flatMap (fun g =>
    (upFrom 0 8).filterMap (fun w =>
      let want := BitVec.ofNat 64 (natLE ((g.2.drop (8 * w)).take 8))
      let got := BitVec.ofNat 64 (m.readLE (portAddr u (g.1 + 8 * w)) 8)
      if want = got then none else some (g.1 + 8 * w, want, got)))

/-- R197 TG_RUN_END: a run ends, by completion or by STOP. `err` is what the cells themselves had wrong. -/
def execTgRunEnd (u : PortUnit) (err : TgErrors) (s : State) : Out :=
  let n := u.val
  .next (
    match (s.port n).run with
    | none => s
    | some r =>
      -- ITER 0 runs until STOP
      if r.mode = 3 ∧ r.iter = 0 ∧ r.stopAt.isNone then s else
      let s := s.setPort n { s.port n with run := none }
      let (wr, ck) := r.done n
      let put (s : State) (g : Nat × List Byte) : State :=
        let (m, p, _) := poke s.dev s.devPoison (portAddr n g.1) g.2
        { s with dev := m, devPoison := p }
      let s := wr.foldl put s
      let held := (r.granules n true).zipIdx.map (fun g => (r.base + 64 * g.2, g.1))
      let bad := if r.mode = 1 then tgMismatch s.dev n (held.take ck) else []
      let words := bad.length + err.words + (if r.raw then err.corrected else 0)
      let s := ((s.bump .tgerr n words).bump .tgbytes n (64 * ck))
      let s := if r.raw then s else s.bump .tgce n err.corrected
      let s := (s.setFld .tgstat n 0 0 0).setFld .tgstat n 1 1 1
      if words = 0 then s
      else
        let s := s.setFld .tgstat n 2 2 1
        match bad.head? with
        | some (off, want, got) =>
          if err.words ≠ 0 ∧ err.first < off then (s.setFld .tgfaddr n 35 0 err.first).setReg .tgfxor n err.diff
          else (s.setFld .tgfaddr n 35 0 off).setReg .tgfxor n (want ^^^ got)
        | none => (s.setFld .tgfaddr n 35 0 err.first).setReg .tgfxor n err.diff)

end Sys2Proof.Machine
end

