-- ==== Sys2Proof/Machine/Charge.lean ====
section
/-! DEFINITION. Charge of the module and split mode (R329 to R332), and the towers that a virtual device lies in. -/

namespace Sys2Proof.Machine

/-- The towers of a physical address. -/
def towerOfAddr (a : Nat) : Option Nat :=
  match placeOf a with
  | .near ch _ => some (towerOfChannel ch)
  | .far e _ => some (towerOfFar (e / 8))
  | _ => none

/-- The tower of the save area of a virtual device. -/
def State.saveTower (s : State) (v : Nat) : Option Nat :=
  if (s.vd v).slots = 0 then none else
    match s.readAt v (s.fld .vdsave v 51 0) with
    | some p => towerOfAddr p
    | none => none

/-- R332, R496: has a virtual device a spire, channel, segment, canal or its save area in a tower? -/
def State.vdInTower (s : State) (v t : Nat) : Bool :=
  (s.vdSpires v).any (fun n => towerOfSpire n = t) || (s.vdChannels v).any (fun c => towerOfChannel c = t)
    || (s.vdSegments v).any (fun e => towerOfFar (e / 8) = t)
    || (upFrom 0 24).any (fun c => s.bit .cnvdc v c && c / 12 = t) || s.saveTower v = some t

/-- The active virtual devices. -/
def State.activeVds (s : State) : List Nat := (upFrom 0 63).filter s.vdActive

/-- R329: STBY shows whether the core that does not hold charge stands by, in split mode too (log 186). -/
def State.showStandby (s : State) : State := s.setFld .chg 0 2 2 (if s.procState (3 - s.fld .chg 0 0 0) = 1 then 1 else 0)

/-- R330: the commands that the former holder issues under its stale epoch before it learns of the change are refused, and counted in CHGREF:
how many they are is a free value (log 187). -/
def State.refuseStale (s : State) : State :=
  let (k, s) := s.free
  s.bump .chgref 0 (k % 2 ^ 16)

/-- R331: charge granted to a scheduler core: the epoch rises, CHARGE is posted, and STBY shows whether the other core stands by. -/
def State.grantCharge (s : State) (holder : Nat) : State :=
  let epoch := s.reg .chgepoch 0 + 1
  let moved : Bool := s.fld .chg 0 0 0 ≠ holder
  let s := ((s.setFld .chg 0 0 0 holder).showStandby).setReg .chgepoch 0 epoch
  let s := if moved then s.refuseStale else s
  s.postPFs { code := 0x0002, vdid := 0x3F, arg0 := holder, arg1 := epoch.toNat, arg2 := 0 }

/-- The fences of a virtual device's contexts signalled with an error status. -/
def State.failFences (s : State) (v : Nat) (err : BitVec 32) : State :=
  (s.objs.fences.live.cells.filter (fun k => s.vdOfCtx k.2.head.owner = v && ! k.2.head.freed)).foldl
    (fun s k => (s.applySignal k.1 k.2.head.gen (errorValue err) true).2) s

/-- R309: do an evacuation's source and destination lie in different towers? -/
def Evac.crosses (e : Evac) : Bool :=
  let tower (u : Nat) : Nat := if e.far then towerOfFar (u / 8) else towerOfChannel u
  (e.src ++ e.dst).any (fun u => tower u ≠ tower (e.src.headD 0))

/-- R332, R483, R510: the core that holds charge in split mode: the south one, but where it is away or failed and the north one runs (log 186). -/
def State.splitHolder (s : State) : Nat := if s.procState 3 ≠ 1 && s.procState 2 = 1 then 0 else 1

/-- R333: the CARVE_BINDs that wait for fills of a virtual device that the split resets end ABORTED; each extent still joins when its own fill
ends (log 188). -/
def State.abortJoins (s : State) (v : Nat) : State :=
  (s.joins.filter (fun j => j.opens.isNone && j.units.any (fun u => s.unitVd u = v))).foldl (fun s j => s.finishCmd j.queue j.cseq (s.failed stAborted kindCommand)) s

/-- R332: split mode, once. -/
def State.splitLock (s : State) : State :=
  if s.bit .chg 0 1 then s
  else
    let s := ((s.setFld .chg 0 1 1 1).grantCharge s.splitHolder).evacsAbort Evac.crosses
    let both := s.activeVds.filter (fun v => s.vdInTower v 0 && s.vdInTower v 1)
    let s := both.foldl (fun s v => ((s.failFences v s.splitError).abortJoins v).resetVd v) s
    let cut := s.objs.ctxs.live.cells.filter (fun k =>
      ! k.2.head.freed && s.vdInTower k.2.vd (1 - k.2.fn / 64) && ! s.vdInTower k.2.vd (k.2.fn / 64))
    let s := cut.foldl (fun s k => s.teardown k.1 s.splitError none) s
    let e : Event := { code := 0x0003, vdid := 0x3F, arg0 := 0, arg1 := (s.reg .chgepoch 0).toNat, arg2 := (s.reg .lkstat 0).toNat }
    (upFrom 0 128).foldl (fun s fn => s.post fn e) s

end Sys2Proof.Machine
end

