-- ==== Sys2Proof/Machine/Network.lean ====
section
/-! DEFINITION. The on-die network and the lock (chapter 7): writes and reducing writes that reach a scratchpad, combining, barrier
entries, multicast, lock crossings. -/

namespace Sys2Proof.Machine

/-! ## Writes that reach a scratchpad (R211, R223) -/

/-- R23: a write that meets the code region of a running kernel is refused with BUS; any other lands, and a part that met poison is
discarded (R176, R494). -/
def State.landSpad (s : State) (t off : Nat) (d : List Byte) : State × AccStatus :=
  let sp := s.spire t
  if sp.inCode off d.length then (s, .bus)
  else
    let (sp, bad) := sp.put off d
    (s.setSpire t sp, if bad then .poison else .ok)

/-- R223 SCRATCHPAD_WRITE_ARRIVAL: a write from the network, a direct link or the control network reaches a scratchpad. -/
def execScratchpadWriteArrival (id : Nat) (s : State) : Out :=
  .next (atPort id s (fun s u r =>
    match r.target, r.kind with
    | .spad t off, .write d =>
      let s := (s.takeReq r.id).writeMeetsMerges u off d.length
      let (s, st) := s.landSpad t off d
      s.answer r.id r.agent st
    | _, _ => s))

/-- R216: the window slots of a landing adder: region start and length, map start, in bytes. -/
def nwinSlot (w : W64) : Nat × Nat × Nat := (64 * w.get 15 0, 64 * w.get 32 16, 64 * w.get 48 33)

/-- R216: the map bits of an element at `off` in the slots whose region holds it: the map and the element's number in it. -/
def windowMaps (sp : Spire) (off : Nat) : List (Nat × Nat) :=
  [sp.nwin0, sp.nwin1].filterMap (fun w =>
    let (o, n, map) := nwinSlot w
    if o ≤ off ∧ off < o + n then some (map, (off - o) / 16) else none)

/-- R23, R216: map bits ORed into the slots of an element; a byte of the code region is refused. -/
def markWindow (sp : Spire) (m : Memory) (off bits : Nat) : Memory :=
  (windowMaps sp off).foldl (fun m x => if sp.inCode (x.1 + x.2 / 4) 1 then m else orMap m x.1 x.2 bits) m

/-- R23: would a map bit of an element land in the code region of a running kernel? -/
def mapRefused (sp : Spire) (off bits : Nat) : Bool := bits ≠ 0 && (windowMaps sp off).any (fun x => sp.inCode (x.1 + x.2 / 4) 1)

/-- R211: the elements of a reducing write added into a scratchpad, with NRSTAT and the flag maps of R216; answers how it ended: BUS where a map bit
would go into a running kernel's code (R23; the sum itself has landed, log 192), POISON where an element met poison. -/
def Spire.landReduce (sp : Spire) (d : RedData) (off : Nat) : Spire × AccStatus :=
  (upFrom 0 d.elems.length).foldl
    (fun (r : Spire × AccStatus) i =>
      let (sp, st) := r
      let o := off + i * d.red.dstSize
      let (m, fl, bits, lost) := landElem sp.spad sp.poison d o i
      if lost then (sp, if st = .ok then .poison else st)
      else
        let k := d.red.dstSize
        let (sp, _) := sp.put o (m.readN o k)
        let (m, refused) := if d.red = Red.windowed then (markWindow sp sp.spad o bits, mapRefused sp o bits) else (sp.spad, false)
        ({ sp with spad := m }.nrFlag fl, if refused then .bus else st))
    (sp, .ok)

/-- R211 LANDING_ADD: a reducing write reaches the landing adder of a spire. -/
def execLandingAdd (id : Nat) (s : State) : Out :=
  .next (atPort id s (fun s u r =>
    match r.target, r.kind with
    | .spad t off, .reduce d =>
      let n := d.elems.length * d.red.dstSize
      let s := (s.takeReq r.id).writeMeetsMerges u off n
      if (s.spire t).inCode off n then s.answer r.id r.agent .bus
      else
        let (sp, st) := (s.spire t).landReduce d off
        (s.setSpire t sp).answer r.id r.agent st
    | _, _ => s))

/-! ## Combining (R212 to R214) -/

/-- R212: is the cluster of a router enabled for a virtual device? -/
def State.combines (s : State) (v router : Nat) : Bool := v < 63 && s.bit .nvdcfg v (8 + router / 16)

/-- R212: do two packets target the same destination range with the same operation? -/
def Req.mates (a b : Req) : Bool :=
  match a.target, b.target, a.kind, b.kind with
  | .spad t o, .spad u p, .reduce d, .reduce e =>
    a.vd = b.vd && t = u && o = p && d.elems.length = e.elems.length && d.red = e.red && (d.red ≠ .windowed || d.frame = e.frame)
      && ! a.fin && ! b.fin
  | _, _, _, _ => false

/-- R213: two contributions combined. A windowed result holds WIDE elements; flag bits are ORed. -/
def combineData (d e : RedData) : RedData :=
  let out := (upFrom 0 d.elems.length).map (fun i =>
    let g := d.flags.getD i Flags.none ||| e.flags.getD i Flags.none
    let (c, f1, _) := match d.red with
      | .windowed => windowed d.frame d.fmt (d.elems.getD i 0)
      | _ => (d.elems.getD i 0, Flags.none, 0)
    let (w, f2, _) := redAdd d.red d.frame e.fmt c (e.elems.getD i 0)
    (w, g ||| f1 ||| f2))
  { d with fmt := d.red.dstFmt, elems := out.map (·.1), flags := out.map (·.2) }

/-- The packets that a packet stands for. -/
def Req.sources (r : Req) : List (Nat × Agent) := if r.srcs = [] then [(r.id, r.agent)] else r.srcs

/-- The numbers from `a` to `b`, up or down. -/
def between (a b : Nat) : List Nat := if a ≤ b then upFrom a (b - a + 1) else (upFrom b (a - b + 1)).reverse

/-- A run of routers along a row, and along a column. -/
def rowRun (t y a b : Nat) : List Router := (between a b).map (fun x => ⟨t, x, y⟩)
def columnRun (t x a b : Nat) : List Router := (between a b).map (fun y => ⟨t, x, y⟩)

/-- R201, R221: the routers that a packet passes from one to another: along its row, then along a column; between towers over the crossing of the
destination's column, or over its substitute and then along the lock row. -/
def State.path (s : State) (a b : Router) : List Router :=
  if a.tower = b.tower then rowRun a.tower a.y a.x b.x ++ columnRun b.tower b.x a.y b.y
  else
    let lockRow (t : Nat) : Nat := if t = 0 then 7 else 0
    let k := s.crossingOf b.x
    rowRun a.tower a.y a.x k ++ columnRun a.tower k a.y (lockRow a.tower) ++ rowRun b.tower (lockRow b.tower) k b.x
      ++ columnRun b.tower b.x (lockRow b.tower) b.y

/-- Does a packet on its way still come to the router of a spire? Between neighbours it takes the direct link and meets none (R199); one that has been
combined has left the routers up to that one behind. -/
def State.comesTo (s : State) (r : Req) (router : Nat) : Bool :=
  let direct : Bool := match r.agent, r.target with | .spire n, .spad t _ => neighbours n t | _, _ => false
  match s.agentRouter r.agent with
  | none => false
  | some a =>
    let start := match r.passed with | some p => spireRouter p | none => a
    ! direct && (s.path start r.target.router).contains (spireRouter router) && r.passed ≠ some router

/-- Is a packet at a router: on its way past it, or in that router's combining buffer (log 66)? -/
def State.atRouter (s : State) (r : Req) (router : Nat) : Bool :=
  match r.stage with
  | .net => s.comesTo r router
  | .router n => n = router
  | _ => false

/-- The packets in a router's combining buffer. -/
def State.buffered (s : State) (router : Nat) : Nat := (s.net.reqs.filter (fun r => r.stage = .router router)).length

/-- R212: have two packets that meet at a router, or one, room in its combining buffer of 16 entries beside what it holds? -/
def State.combineRoom (s : State) (router : Nat) (l : List Req) : Bool :=
  decide (s.buffered router + (l.filter (fun r => r.stage = .net)).length ≤ 16)

/-- R212 ROUTER_COMBINE: packets `a` and `b` meet in the combining buffer of a router and go on as one; both may arrive together. With a = b, the
packet enters the buffer and waits for a partner. A full buffer is passed uncombined. -/
def execRouterCombine (a b : Nat) (router : Sp) (s : State) : Out :=
  let n := router.val
  .next (
    match s.net.reqs.find? (fun r => r.id = a), s.net.reqs.find? (fun r => r.id = b) with
    | some x, some y =>
      if ! s.atRouter x n || ! s.atRouter y n || ! x.mates y || ! s.combines x.vd n then s
      else if a = b then
        if x.stage ≠ .net || ! s.combineRoom n [x] || s.fld .nvdcfg x.vd 29 24 = 0 then s
        else s.setNet { s.net with reqs := s.net.reqs.map (fun r => if r.id = a then { r with stage := .router n } else r) }
      else if ! s.combineRoom n [x, y] then s
      else
        match x.kind, y.kind with
        | .reduce d, .reduce e =>
          let (id, s) := s.fresh
          let srcs := x.sources ++ y.sources
          let r : Req := { x with id := id, kind := .reduce (combineData d e), stage := .net, srcs := srcs, passed := some n }
          let old := [x.id, y.id]
          let s := s.setNet { s.net with
            reqs := s.net.reqs.filter (fun q => ! old.contains q.id) ++ [r],
            combined := s.net.combined.filter (fun q => ! old.contains q.1) ++ [(id, srcs)] }
          s.bump .ncomb (towerOfSpire n)
        | _, _ => s
    | _, _ => s)

/-- R212 COMBINE_WAIT_EXPIRY: a packet has waited RWIN cycles and goes on alone. -/
def execCombineWaitExpiry (id : Nat) (s : State) : Out :=
  .next (s.setNet { s.net with
    reqs := s.net.reqs.map (fun r => if r.id = id then { r with stage := match r.stage with | .router _ => .net | x => x } else r) })

/-- R214 COMBINED_ACK: the acknowledgement of a combined packet has returned: each source is acknowledged; a refusal reaches each as
BUS. -/
def execCombinedAck (id : Nat) (s : State) : Out :=
  .next (
    match s.net.acks.find? (fun a => a.id = id), s.net.combined.find? (fun c => c.1 = id) with
    | some a, some c =>
      let s := s.setNet { s.net with
        acks := s.net.acks.filter (fun x => x.id ≠ id), combined := s.net.combined.filter (fun x => x.1 ≠ id) }
      let st : AccStatus := match a.status with | .ok => .ok | .poison => .poison | _ => .bus
      c.2.foldl (fun s x => s.answer x.1 x.2 st) s
    | _, _ => s)

/-! ## Multicast (R219) -/

/-- R219 MULTICAST_DELIVER: one copy of a firmware multicast reaches the router of a spire. -/
def execMulticastDeliver (sp : Sp) (off : Nat) (data : List Byte) (s : State) : Out :=
  let n := sp.val
  let v := (s.spire n).vdid
  .next (
    if spadBytes < off + data.length then s
    else if v < 63 && ! s.bit .nvdcfg v 30 then s.bump .nmcdrop (towerOfSpire n)
    else ((s.writeMeetsMerges (mergeSpire + n) off data.length).landSpad n off data).1)

/-! ## Barriers (R208 to R210) -/

/-- The BAR of a spire whose arrival an entry counted completes. One that has halted since waits no more (R209). -/
def State.barResumes (s : State) (e n : Nat) : State :=
  match (s.spire n).wait with
  | .bar _ _ _ _ (some k) => if k = e then s.advance n { s.spire n with wait := .none } else s
  | _ => s

/-- R208: the entry releases; a held write of EXPECT, or a held removal, takes effect. -/
def State.releaseBarrier (s : State) (e : Nat) : State :=
  let r := s.round e
  let s := s.setRound e ⟨[], none⟩
  let s := match r.held with
    | some .removal => s.rstReg .nbar e
    | some (.expect k) => s.setFld .nbar e 23 15 k
    | none => s
  r.arrived.foldl (fun s n => s.barResumes e n) s

/-- R208 BARRIER_ARRIVAL: the arrival of a BAR reaches its entry. An entry that is no longer configured raises BARRIER (R210). -/
def execBarrierArrival (sp : Sp) (s : State) : Out :=
  let n := sp.val
  .next (
    if ! s.net.arrivals.contains n then s
    else
      let s := s.setNet { s.net with arrivals := s.net.arrivals.erase n }
      match (s.spire n).wait with
      | .bar i d t sent _ =>
        match s.barrierEntry (s.spire n).vdid i with
        | none => s.issueFault n Cause.barrier
        | some e =>
          let s := s.setSpire n { s.spire n with wait := .bar i d t sent (some e) }
          let r := s.round e
          let s := s.setRound e { r with arrived := r.arrived ++ [n] }
          if s.fld .nbar e 23 15 ≤ (s.round e).arrived.length then s.releaseBarrier e else s
      | _ => s)

/-! ## The lock (R220, R221) -/

/-- BTIME of a crossing's replays within the last ms. -/
def State.recentReplays (s : State) (x : Nat) : List W64 :=
  (s.net.replays.get [] x).filter (fun t => decide ((s.reg .btime 0 - t).toNat < tickMs))

/-- R220 LOCK_REPLAY: a receiver found a CRC error: the flits are replayed, and the receiving tower counts them. -/
def execLockReplay (toSouth : Bool) (x : Fin 16) (flits : Nat) (s : State) : Out :=
  let s := s.setNet { s.net with replays := s.net.replays.set x.val (s.recentReplays x.val ++ [s.reg .btime 0]) }
  .next (s.bump .lkretry (if toSouth then 1 else 0) flits)

/-- R221 LOCK_CROSSING_OUT: a crossing that needed more than 64 replays in 1 ms is taken out of service; with five out the lock is
declared failed. -/
def execLockCrossingOut (x : Fin 16) (s : State) : Out :=
  .next (
    if ! s.bit .lkstat 0 x.val || (s.recentReplays x.val).length ≤ 64 then s
    else
      let s := (s.setFld .lkstat 0 x.val x.val 0).setFld .lkstat 1 x.val x.val 0
      let out := ((upFrom 0 16).filter (fun k => ! s.bit .lkstat 0 k)).length
      if out < 5 then s else ((s.setFld .lkstat 0 16 16 1).setFld .lkstat 1 16 16 1).splitLock)

end Sys2Proof.Machine
end

