-- ==== Sys2Proof/Machine/Links.lean ====
section
/-! DEFINITION. The link layer of the canals (R241 to R245, R249, R264, R266): codewords and flits received, control flits, credits,
replay, forwarding, recalibration and training. -/

namespace Sys2Proof.Machine

/-! ## States of a canal (R243) -/

/-- A canal in a state with the lanes that carry flits. -/
def State.canalIs (s : State) (c state lanes : Nat) : State := (s.setFld .cnstat c 2 0 state).setFld .cnstat c 6 3 lanes

/-- The packets that came by a canal hold nothing of its buffer any longer. -/
def State.forgetBuffer (s : State) (c : Nat) : State :=
  let forget (k : OutPkt) : OutPkt := match k.origin with | some (o, _, _) => if o = c then { k with origin := none } else k | none => k
  s.setFabric { s.fabric with
    links := ⟨s.fabric.links.cells.map (fun (x : Nat × Link) => (x.1, { x.2 with out := x.2.out.map forget }))⟩,
    inbound := ⟨s.fabric.inbound.cells.map (fun (x : Nat × Inbound) =>
      (x.1, { x.2 with busy := x.2.busy.map (fun b => if b.canal = c then { b with units := 0 } else b) }))⟩ }

/-- A canal goes DOWN: what is in flight on it is lost, and is retransmitted elsewhere by R257 (R268). One that carried flits stays DOWN until a
device reset (R243). -/
def State.canalDown (s : State) (c : Nat) : State :=
  let lost := (s.link c).out
  let s := ((s.forgetBuffer c).setLink c { Link.reset with spent := s.canalUsable c || (s.link c).spent }).canalIs c 0 0
  lost.foldl (fun (s : State) k => s.freeBuffer k.origin) s

/-- R243, R509: a lane has failed: with three lanes left the canal is DEGRADED, which is posted; with fewer it goes DOWN. -/
def State.laneFails (s : State) (c lane : Nat) : State :=
  let lanes := (0xF - 2 ^ lane) &&& s.fld .cnstat c 6 3
  if ((upFrom 0 4).filter (fun i => lanes.testBit i)).length < 3 then s.canalDown c
  else
    let s := s.canalIs c 4 lanes
    s.postPFs { code := 0x0106, vdid := 0x3F, arg0 := 3, arg1 := c, arg2 := (s.reg .cnstat c).toNat }

/-- R266: a canal restripes across the other lanes than `lane`, and enters RECAL. -/
def State.restripe (s : State) (c lane : Nat) : State := s.canalIs c 3 ((0xF - 2 ^ lane) &&& s.fld .cnstat c 6 3)

/-- R266: the striping from before a recalibration resumes: over all four lanes, or over the three of a DEGRADED canal. -/
def State.stripeBack (s : State) (c lane : Nat) : State :=
  let lanes := s.fld .cnstat c 6 3 ||| 2 ^ lane
  s.canalIs c (if lanes = 0xF then 2 else 4) lanes

/-! ## Forwarding (R250, R262, R264) -/

/-- A packet taken from the buffer of its canal, with the units that it held of it, which are not free yet. -/
def State.takeBuffered (s : State) (c : Nat) (k : Pkt) : Nat × State :=
  let l := s.link c
  match l.rxBuf.find? (fun x => x.1 = k) with
  | some x => (x.2, s.setLink c { l with rxBuf := l.rxBuf.erase x })
  | none => (0, s)

/-- A packet taken from the buffer of its canal, whose credits are then owed back. -/
def State.unbuffer (s : State) (c : Nat) (k : Pkt) : State :=
  let (n, s) := s.takeBuffered c k
  s.freeBuffer (if n = 0 then none else some (c, k.p.vl.toNat, n))

/-- A packet discarded and counted at canal `c` (R248, R255, R262, R264). -/
def State.dropPacket (s : State) (c : Nat) : State := s.bump .cndrop c

/-- R250: the lane of a forwarded packet on canal `o`, come by canal `c`. -/
def State.nextLane (s : State) (c o : Nat) (k : Pkt) : Nat :=
  let base := if isResponse k.typ then 2 else 0
  let v := if s.fld .cncfg o 2 1 ≠ s.fld .cncfg c 2 1 then base else k.p.vl.toNat
  if s.bit .cncfg o 3 then base + 1 else v

/-- R264: a packet for another node forwarded; it holds its buffer until it leaves (R249). A pool request whose usable canals are all at their limit
stays in the buffer and waits (R262). `bad` marks a copy whose trailer is sent inverted. -/
def State.forwardPacket (s : State) (c : Nat) (k : Pkt) (bad : Bool := false) : State :=
  if isReservedType k.typ || 14 ≤ k.p.hops.toNat || s.usable k none (some c) = [] then (s.unbuffer c k).dropPacket c
  else
    match s.route k none (some c) with
    | (none, s) => s
    | (some o, s) =>
      let (n, s) := s.takeBuffered c k
      let k' := { k with p := { k.p with vl := BitVec.ofNat 2 (s.nextLane c o k), hops := k.p.hops + 1 } }
      s.pushLink o ⟨k', if n = 0 then none else some (c, k.p.vl.toNat, n), bad⟩

/-! ## Receiving (R245, R246) -/

/-- The receiver asks for a replay from flit `n`, and discards what comes until it begins. -/
def State.askReplay (s : State) (c n : Nat) : State :=
  let l := s.link c
  (s.setLink c { l with rxNum := n % 65536, discarding := true, askReplay := true }).bump .cnrpl c

/-- R264: the trailer of an arriving packet has failed. Where it is bound for another node its forwarding may have begun (a free value): the copy's
trailer is then sent inverted. -/
def State.forwardBroken (s : State) (c : Nat) (k : Pkt) : State :=
  if k.p.dst.toNat = s.node || isReservedType k.typ || 14 ≤ k.p.hops.toNat || s.usable k none (some c) = [] then s
  else
    let (x, s) := s.free
    if x % 2 = 0 then s else s.forwardPacket c k true

/-- Packets cut from the bytes received. A trailer that is the complement of its CRC discards the packet; a trailer that fails asks
for a replay from the flit in which the packet began (R245, R264). `fuel` bounds the packets. -/
def State.cutPackets : Nat → State → Nat → State
  | 0, s, _ => s
  | fuel + 1, s, c =>
    let l := s.link c
    let b := l.rxTail
    let len := 8 * bitsOf (b.getD 1 0).toNat 6 0
    let n := 28 + len
    if b.length < 24 ∨ b.length < n then s
    else
      let body := b.take (24 + len)
      let crc := natLE ((b.drop (24 + len)).take 4)
      let start := (64 - b.length % 64) % 64
      let rest := b.drop n
      let l' := { l with rxTail := rest, rxMarks := l.rxMarks.drop (l.rxMarks.length - ceilDiv rest.length 64) }
      let units := ceilDiv (start + n) 64
      let k := Pkt.ofHeader (b.take 24) ((b.drop 24).take len)
      let vl := k.p.vl.toNat
      if crc = crc32c body then
        State.cutPackets fuel ((s.setLink c ({ l' with rxBuf := l'.rxBuf ++ [(k, units)] }.occupy vl units)).bump .cnrxb c len) c
      else if crc = 2 ^ 32 - 1 - crc32c body then
        State.cutPackets fuel ((s.setLink c ((l'.occupy vl units).owe vl units)).bump .cncrc c) c
      else
        let s := (s.bump .cncrc c).forwardBroken c k
        (s.setLink c { l with rxTail := [], rxMarks := [], rxSkip := start }).askReplay c (l.rxMarks.headD l.rxNum)

/-- One stream flit received in its turn. -/
def State.takeStream (s : State) (c : Nat) (bytes : List Byte) : State :=
  let l := s.link c
  let l := { l with
    rxTail := l.rxTail ++ bytes.drop l.rxSkip, rxMarks := l.rxMarks ++ [l.rxNum], rxSkip := 0, rxNum := (l.rxNum + 1) % 65536,
    rxHigh := if l.rxNum = l.rxHigh then (l.rxNum + 1) % 65536 else l.rxHigh }
  (s.setLink c l).cutPackets 4 c

/-- R266: the peer asks to recalibrate a lane. It is granted, unless another canal of the tower recalibrates, or this end has asked too and its node
identifier is the lower (log 70); an own request that gives way waits. -/
def State.recalAsked (s : State) (c lane : Nat) : State :=
  let l := s.link c
  let own : Option Nat := match l.recal with | some (n, 1) => some n | _ => none
  let others := (upFrom 0 24).any (fun k => k ≠ c && k / 12 = c / 12 && ((s.link k).recal.isSome || s.canalState k = 3))
  if others || (own.isSome && decide (s.node < (Config.farNode c).toNat)) then s
  else if (s.canalState c = 2 || s.canalState c = 4) && (s.fld .cnstat c 6 3).testBit lane then
    (s.setLink c { l with recal := some (lane, 2), recalNext := match own with | some n => some n | none => l.recalNext }).restripe c lane
  else s

/-- R244: what a control flit asks of its receiver: flits covered, a replay, credits, recalibration. -/
def State.obeyControl (s : State) (c : Nat) (f : ControlFlit) : State :=
  let l := s.link c
  let covered (n : Nat) : Bool := decide ((f.rxok.toNat + 65536 - n) % 65536 < 32768)
  let add (i : Nat) (x : BitVec 16) (cs : List Nat) : List Nat := cs.set i (cs.getD i 0 + x.toNat)
  let kept := l.replay.filter (fun r => ! covered r.1)
  -- R245: every flit from RPLF onward is sent again
  let again := if f.rplq.getLsbD 0 then (kept.dropWhile (fun r => r.1 ≠ f.rplf.toNat)).map (fun r => (r.1, flitImage r.2)) else []
  let l := { l with
    replay := kept, wire := l.wire.filter (fun r => ! covered r.1) ++ again,
    credits := add 3 f.credit3 (add 2 f.credit2 (add 1 f.credit1 (add 0 f.credit0 l.credits))) }
  let s := s.setLink c l
  let lane := f.rcl.toNat % 4
  let s := match f.rcl.toNat / 4 % 4 with
    | 1 => s.recalAsked c lane
    | 2 =>
      match l.recal with
      | some (n, 1) => if n = lane && (s.canalState c = 2 || s.canalState c = 4) then s.restripe c lane else s
      | _ => s
    | 3 =>
      if s.canalState c = 3 then
        (s.setLink c { s.link c with recal := l.recalNext.map (fun n => (n, 1)), recalNext := none }).stripeBack c lane
      else s
    | _ => s
  s.pumpLink c

/-- A control flit received in its turn; one that is only a replay of an earlier has been obeyed. -/
def State.takeControl (s : State) (c : Nat) (f : ControlFlit) : State :=
  let l := s.link c
  let fresh : Bool := l.rxNum = l.rxHigh
  let n := (l.rxNum + 1) % 65536
  let s := s.setLink c { l with rxNum := n, rxHigh := if fresh then n else l.rxHigh }
  if fresh then s.obeyControl c f else s

/-- R245: does a codeword with this flit count as uncorrectable, or fail? -/
def Flit.spoils (f : Flit) : Bool := match f with | .reserved => true | .control f => ! f.crcOk | _ => false

/-- One flit of a good codeword; after a replay has been asked for, the rest is discarded. -/
def State.takeFlit (s : State) (c : Nat) (f : Flit) : State :=
  if (s.link c).discarding then s
  else match f with
    | .stream b => s.takeStream c b
    | .control f => s.takeControl c f
    | _ => s

/-- R241 CODEWORD_RECEIVE. A canal that carries no flits receives none (R243). -/
def execCodewordReceive (c : Canal) (cw : Codeword) (s : State) : Out :=
  let n := c.val
  .next (
    if ! s.canalUsable n then s
    else
      let s := if cw.corrected && ! cw.uncorrectable then s.bump .cnfecc n else s
      let l := s.link n
      let l := if cw.replay then { l with discarding := false } else l
      let s := s.setLink n l
      if l.discarding then s
      else
        let lost : Bool := cw.uncorrectable || cw.flits.any (fun f => match f with | .reserved => true | _ => false)
        let s := if lost then s.bump .cnfecu n else s
        if lost || cw.flits.any Flit.spoils then s.askReplay n l.rxNum
        else cw.flits.foldl (fun s f => s.takeFlit n f) s)

/-- R244 CONTROL_FLIT_RECEIVE: a control flit arrives. -/
def execControlFlitReceive (c : Canal) (f : ControlFlit) (s : State) : Out :=
  let n := c.val
  .next (
    if ! s.canalUsable n || (s.link n).discarding then s
    else if ! f.crcOk then s.askReplay n (s.link n).rxNum
    else s.takeControl n f)

/-! ## Control flits sent (R244) -/

/-- R244 CONTROL_FLIT_SEND: a control flit leaves, with the credits owed and the replay asked for. Without room to keep it for replay,
idle flits leave instead (R245). -/
def execControlFlitSend (c : Canal) (s : State) : Out :=
  let n := c.val
  .next (if ! s.canalUsable n || 2048 ≤ (s.link n).replay.length then s else s.setLink n (s.link n).putControl)

/-! ## PACKET_FORWARD (R264) -/

/-- R264 PACKET_FORWARD: a packet that is not for this node leaves by another canal; one of a reserved type is discarded wherever it
is bound (R248). -/
def execPacketForward (c : Canal) (typ : BitVec 5) (p : Packet) (s : State) : Out :=
  let k : Pkt := ⟨typ, p⟩
  .next (
    if p.dst.toNat ≠ s.node then s.forwardPacket c.val k
    else if isReservedType typ then (s.unbuffer c.val k).dropPacket c.val
    else s)

/-! ## Recalibration and training (R243, R266, R470, R520) -/

/-- R266 RECALIBRATION: a lane of a canal is due: this end sends a request, while no other canal of its tower recalibrates. A DEGRADED canal
recalibrates its three lanes too (log 198). -/
def execRecalibration (c : Canal) (lane : Fin 4) (s : State) : Out :=
  let n := c.val
  .next (
    if (s.canalState n ≠ 2 && s.canalState n ≠ 4) || ! (s.fld .cnstat n 6 3).testBit lane.val || (upFrom 0 24).any (fun k => k / 12 = n / 12 && ((s.link k).recal.isSome || s.canalState k = 3)) then s
    else s.setLink n { s.link n with recal := some (lane.val, 1) })

/-- R266 RECAL_DONE: the lane has been retuned, and four-lane striping resumes; with `ok` false the lane has failed to retune in its three attempts (R243). -/
def execRecalDone (c : Canal) (ok : Bool) (s : State) : Out :=
  let n := c.val
  .next (
    match (s.link n).recal with
    | some (lane, _) =>
      if s.canalState n ≠ 3 then s
      else if ok then (s.stripeBack n lane).setLink n { s.link n with recal := some (lane, 3) }
      else (s.setLink n { s.link n with recal := (s.link n).recalNext.map (fun k => (k, 1)), recalNext := none }).laneFails n lane
    | none => s)

/-- R470: a canal whose EN is set, and whose cable is seated, enters TRAINING, unless it has gone DOWN and waits for a device reset (R243). -/
def State.trainCanal (s : State) (c : Nat) : State :=
  if s.bit .cncfg c 0 && s.power.cables.getLsbD c && ! s.canalUsable c && ! (s.link c).spent then (s.setLink c .reset).canalIs c 1 0 else s

/-- R243, R470: a device reset trains every canal that is not UP or DEGRADED. -/
def State.retrainCanal (s : State) (c : Nat) : State := (s.setLink c { s.link c with spent := false }).trainCanal c

/-- R470 CANAL_TRAINING_RETRY: 100 ms have passed without an answer, and the canal trains again: it stays in TRAINING. -/
def execCanalTrainingRetry (c : Canal) (s : State) : Out :=
  .next (if s.canalState c.val = 1 then s.canalIs c.val 1 0 else s)

/-- R243 CANAL_TRAINING_DONE: the peer has answered: with all lanes the canal is UP, with three DEGRADED, with fewer DOWN. -/
def execCanalTrainingDone (c : Canal) (lanes : BitVec 4) (s : State) : Out :=
  let n := c.val
  let k := ((upFrom 0 4).filter (fun i => lanes.getLsbD i)).length
  .next (
    if s.canalState n ≠ 1 then s
    else if k = 4 then (s.setLink n .reset).canalIs n 2 0xF
    else if k = 3 then
      let s := (s.setLink n .reset).canalIs n 4 lanes.toNat
      s.postPFs { code := 0x0106, vdid := 0x3F, arg0 := 3, arg1 := n, arg2 := (s.reg .cnstat n).toNat }
    else
      let s := s.canalDown n
      s.setLink n { s.link n with spent := true })

end Sys2Proof.Machine
end

