-- ==== Sys2Proof/Machine/Canals.lean ====
section
/-! DEFINITION. End-to-end delivery over the canals (R251 to R261, R274): packets checked, numbered, landed and acknowledged; what
their sources make of answers; retransmission, held finals. -/

namespace Sys2Proof.Machine

/-! ## Sources: what answers do (R253, R256, R257) -/

/-- The status of a code of R253. -/
def AccStatus.ofNum (n : Nat) : AccStatus :=
  match n with
  | 0x01 => .reserved | 0x03 => .tag | 0x04 => .range | 0x05 => .permission | 0x06 => .poison | 0x07 => .code | 0x08 => .handle
  | 0x09 => .fenceOrder | 0x0A => .busy | 0x0B => .noroute | 0x0C => .down | 0x0D => .aborted | _ => .bus

/-- The outstanding pool request of a packet ends (R270). -/
def State.endPoolReq (s : State) (id : Nat) : State :=
  s.setFabric { s.fabric with poolReqs := s.fabric.poolReqs.filter (fun r => r.id ≠ id) }

/-- Packets that wait anywhere are sent if they now may be (R251, R261, R270). -/
def State.pumpAll (s : State) : State := s.fabric.peers.keys.foldl State.pumpPeer s

/-- An agent told the end of a packet; an engine takes it in the same step (R277). -/
def State.told (s : State) (u : Unretired) (st : AccStatus) : State :=
  match u.agent with
  | .pool e => s.ackPool e u.id st
  | _ => s.tell u st

/-- An unretired packet ends: its agent is told. A pool request that awaits a response stays outstanding (R270). -/
def State.retirePacket (s : State) (node : Nat) (u : Unretired) (st : AccStatus) : State :=
  let p := s.peer node
  let s := s.setPeer node { p with unretired := p.unretired.filter (fun x => x.id ≠ u.id) }
  let s := if st ≠ .ok || u.pkt.typ = tyPstage then s.endPoolReq u.id else s
  s.told u st

/-- R256: does an ACK with a frontier and a bitmap cover a number? -/
def ackCovers (front : W64) (map : W64) (seq : W64) : Bool :=
  seqBehind seq front || (let d := (seq - front - 1).toNat; d < 64 && map.getLsbD d)

/-- A RESYNC is acknowledged by an ACK that carries its number, or a later one. -/
def Unretired.acked (u : Unretired) (front map : W64) : Bool :=
  if u.pkt.typ = tyResync then u.seq = front || seqBehind u.seq front else isSequenced u.pkt.typ && ackCovers front map u.seq

/-- R256 ACK: the source retires every packet that it covers. -/
def execAckPacket (c : Canal) (p : Packet) (s : State) : Out :=
  let k : Pkt := ⟨tyAck, p⟩
  let node := p.src.toNat
  .next (
    if p.dst.toNat ≠ s.node then s.forwardPacket c.val k
    else
      let s := s.unbuffer c.val k
      let front := BitVec.ofNat 64 (natLE (p.payload.take 8))
      let map := BitVec.ofNat 64 (natLE ((p.payload.drop 8).take 8))
      (((s.peer node).unretired.filter (fun u => u.acked front map)).foldl (fun s u => s.retirePacket node u .ok) s).pumpAll)

/-- The bytes that a READ's answer brings to its agent. -/
def State.readAnswer (s : State) (node : Nat) (u : Unretired) (st : AccStatus) (data : List Byte) : State :=
  let p := s.peer node
  let s := s.setPeer node { p with unretired := p.unretired.filter (fun x => x.id ≠ u.id) }
  match u.agent with
  | .barge b => s.bargeEnds b u.id st data
  | _ => s

/-- R253 NAK: a refused packet. BUSY leaves it to be sent again; any other status ends it. A number may be an end-to-end number or
a request tag: the first is looked for first (log 72). -/
def execNakPacket (c : Canal) (p : Packet) (s : State) : Out :=
  let k : Pkt := ⟨tyNak, p⟩
  let node := p.src.toNat
  .next (
    if p.dst.toNat ≠ s.node then s.forwardPacket c.val k
    else
      let s := s.unbuffer c.val k
      let num := BitVec.ofNat 64 (natLE (p.payload.take 8))
      let st := AccStatus.ofNum (p.payload.getD 8 0).toNat
      if st = .busy then s
      else
        let l := (s.peer node).unretired
        match l.find? (fun u => isSequenced u.pkt.typ && u.seq = num), l.find? (fun u => u.pkt.typ = tyRead && u.seq = num) with
        | some u, _ => (s.retirePacket node u st).pumpAll
        | none, some u => (s.readAnswer node u st []).pumpAll
        | none, none => s)

/-- R248 READ_RSP: the data of a READ. -/
def execReadRspPacket (c : Canal) (p : Packet) (s : State) : Out :=
  let k : Pkt := ⟨tyReadRsp, p⟩
  let node := p.src.toNat
  .next (
    if p.dst.toNat ≠ s.node then s.forwardPacket c.val k
    else
      let s := s.unbuffer c.val k
      match (s.peer node).unretired.find? (fun u => u.pkt.typ = tyRead && u.seq.extractLsb' 0 32 = p.seq) with
      | some u => (s.readAnswer node u .ok p.payload).pumpAll
      | none => s)

/-- R257: a node marked DOWN: what is unretired or waits for it is abandoned, and PEER_DOWN is posted. -/
def State.peerDown (s : State) (node : Nat) : State :=
  let p := s.peer node
  let s := s.setReg .cnpdown node 1
  let s := s.setPeer node { p with unretired := [], waiting := [] }
  let gone := p.unretired ++ p.waiting
  let s := gone.foldl
    (fun s u => (if u.pkt.typ = tyRead then s.readAnswer node u .down [] else s.told u .down).endPoolReq u.id) s
  let s := s.setFabric { s.fabric with poolReqs := s.fabric.poolReqs.filter (fun r => r.node ≠ node) }
  let s := s.poolNodeDown node
  (s.postPFs { code := 0x0004, vdid := 0x3F, arg0 := node, arg1 := 0, arg2 := 0 }).pumpAll

/-- R257: a packet sent again, by another usable canal where there is one. A retry that finds no usable canal sends nothing and counts as a send all
the same (log 196). A pool request is counted on the canal that it takes, and waits while every usable canal is at its limit (R262, R270). -/
def State.resend (s : State) (node : Nat) (u : Unretired) : State :=
  let pool : Bool := isPoolRequest u.pkt.typ
  let usable := s.usable u.pkt (limitVd u.vd) none
  let free := if pool then usable.filter (fun c => c = u.canal || decide (s.poolOnCanal c < 4096)) else usable
  let l := free.filter (fun c => c ≠ u.canal)
  if usable ≠ [] ∧ free = [] then s
  else
    let (r, i) := s.routeEntry u.pkt.p.dst.toNat
    let (o, s) := if free = [] then (none, s) else s.spread r i u.pkt (if l = [] then free else l)
    let p := s.peer node
    let c := o.getD u.canal
    let s := s.setPeer node { p with
      unretired := p.unretired.map (fun x => if x.id = u.id then { x with sends := x.sends + 1, canal := c } else x) }
    let s := s.setFabric { s.fabric with poolReqs := s.fabric.poolReqs.map (fun q => if q.id = u.id then { q with canal := c } else q) }
    if o.isSome then s.pushOwn c (s.firstLane c { u.pkt with p := { u.pkt.p with vl := 0 } }) else s

/-- R257 RETRANSMIT_TIMEOUT: no ACK has covered the oldest unretired packet to a node for CNRTO, or no READ_RSP has come: it is sent
again, or, after eight sends, the node is marked DOWN. -/
def execRetransmitTimeout (node : Node) (seq : W64) (s : State) : Out :=
  let n := node.toNat
  .next (
    let l := (s.peer n).unretired
    let oldest := l.find? (fun u => u.pkt.typ ≠ tyRead)
    match l.find? (fun u => u.seq = seq && (u.pkt.typ = tyRead || oldest = some u)) with
    | none => s
    | some u => if 8 ≤ u.sends then s.peerDown n else s.resend n u)

/-! ## Destinations: numbers and windows (R255, R256) -/

/-- The receiving side from a node. -/
def State.inbound (s : State) (node : Nat) : Inbound := s.fabric.inbound.get .reset node
def State.setInbound (s : State) (node : Nat) (x : Inbound) : State :=
  s.setFabric { s.fabric with inbound := s.fabric.inbound.set node x }

/-- The landed frontier of a node. -/
def State.frontier (s : State) (node : Nat) : W64 := s.reg .cnpfront node

/-- R251: the 64-bit number nearest the frontier whose low 32 bits are SEQ. -/
def rebuildSeq (front : W64) (seq : BitVec 32) : W64 := front + (seq - front.extractLsb' 0 32).signExtend 64

/-- R256: an ACK sent now. -/
def State.sendAck (s : State) (node : Nat) : State :=
  let front := s.frontier node
  let x := s.inbound node
  let map := (upFrom 0 64).foldl (fun m i => if x.marks.contains (front + 1 + BitVec.ofNat 64 i) then m + 2 ^ i else m) 0
  let s := s.setInbound node { x with sinceAck := 0 }
  s.reply { typ := tyAck, p := { Packet.blank with dst := BitVec.ofNat 16 node, payload := bytesLE 8 front.toNat ++ bytesLE 8 map } }

/-- R256 ACK_TIMER: 2 µs have passed since the first packet resolved since the last ACK. -/
def execAckTimer (node : Node) (s : State) : Out :=
  .next (if (s.inbound node.toNat).sinceAck = 0 then s else s.sendAck node.toNat)

/-- R253: a NAK with a status for a number or a tag. -/
def State.sendNak (s : State) (node : Nat) (num : W64) (st : AccStatus) : State :=
  s.reply { typ := tyNak, p := { Packet.blank with
    dst := BitVec.ofNat 16 node, payload := bytesLE 8 num.toNat ++ bytesLE 1 st.num ++ List.replicate 7 0 } }

/-- One more packet resolved: counted towards an ACK (R256). -/
def State.countAck (s : State) (node : Nat) : State :=
  let x := s.inbound node
  let s := s.setInbound node { x with sinceAck := x.sinceAck + 1 }
  if 64 ≤ x.sinceAck + 1 then s.sendAck node else s

/-- The frontier moved past the numbers resolved in order. `fuel` bounds the steps. -/
def passMarks : Nat → W64 → List W64 → W64 × List W64
  | 0, f, m => (f, m)
  | k + 1, f, m => if m.contains f then passMarks k (f + 1) (m.erase f) else (f, m)

/-- R259, R232: has an earlier packet of the group of a final-held packet been refused? Not one that another final-held packet of the group, with a
later packet of the group behind it, parts from it: that one ended its group (R229). -/
def marksLost (l : List GroupMark) (agent grp : Nat) (seq : W64) : Bool :=
  let mine (m : GroupMark) : Bool := m.agent = agent && m.grp = grp && seqBehind m.seq seq
  l.any (fun r => mine r && ! r.fin && ! r.ok
    && ! l.any (fun f => mine f && f.fin && seqBehind r.seq f.seq && l.any (fun n => mine n && ! n.fin && seqBehind f.seq n.seq)))

/-- What is kept of the resolved packets of groups: those above the frontier, and those from a refused packet on whose group goes on. -/
def keepGroups (l : List GroupMark) (front : W64) : List GroupMark :=
  l.filter (fun m => ! seqBehind m.seq front
    || l.any (fun r => r.agent = m.agent && r.grp = m.grp && ! r.fin && ! r.ok && ! seqBehind m.seq r.seq && marksLost l m.agent m.grp front))

/-- The groups with a refused packet and no final-held one behind it (R260). -/
def refusedGroups (l : List GroupMark) : List (Nat × Nat) :=
  (l.filter (fun r => ! r.fin && ! r.ok && ! l.any (fun f => f.agent = r.agent && f.grp = r.grp && f.fin && seqBehind r.seq f.seq))).foldl
    (fun (acc : List (Nat × Nat)) r => if acc.contains (r.agent, r.grp) then acc else acc ++ [(r.agent, r.grp)]) []

/-- A number marked resolved. The window is freed when the frontier reaches its highest mark (R255); one that a packet accepted above the frontier
still needs is kept for it (log 199). -/
def State.markResolved (s : State) (node : Nat) (seq : W64) : State :=
  let x := s.inbound node
  let front := s.frontier node
  if seqBehind seq front then s
  else
    let m := if x.marks.contains seq then x.marks else x.marks ++ [seq]
    let (f, m) := passMarks (m.length + 1) front m
    let waits : Bool := x.held ≠ [] || x.busy.any (fun b => b.seq ≠ f)
    let s := (s.setReg .cnpfront node f).setInbound node { x with marks := m, window := m ≠ [] || waits, grouped := keepGroups x.grouped f }
    s.countAck node

/-- R259, R260: a resolved packet of a group noted; up to 64 refused groups are recorded for a source. -/
def State.noteGroup (s : State) (node : Nat) (seq : W64) (k : Pkt) (ok : Bool) : State :=
  let x := s.inbound node
  let agent := k.p.agent.toNat
  let grp := k.p.grp.toNat
  let full : Bool := k.p.fin = 0 && ! ok && ! (refusedGroups x.grouped).contains (agent, grp) && decide (64 ≤ (refusedGroups x.grouped).length)
  if grp = 0 then s
  else if full then s.setInbound node { x with overflow := some seq }
  else s.setInbound node { x with grouped := x.grouped ++ [⟨agent, grp, seq, k.p.fin = 1, ok⟩] }

/-- A packet resolved with a status: a refusal is answered with a NAK, and noted for its group (R253, R259). -/
def State.resolve (s : State) (node : Nat) (seq : W64) (k : Pkt) (st : AccStatus) : State :=
  let s := if st = .ok then s else s.sendNak node seq st
  (s.noteGroup node seq k (st = .ok)).markResolved node seq

/-! ## Landing (R254) -/

/-- The virtual device that a fabric tag names here (R253). -/
def State.vdOfTag (s : State) (tag : Nat) : Option Nat := (upFrom 0 63).find? (fun v => s.bit .cnvdt v 0 && s.fld .cnvdt v 20 1 = tag)

/-- Where ADDR points (R247): a spire and offset, or a device address. -/
def addrSpad (a : BitVec 48) : Option (Nat × Nat) :=
  if a.getLsbD 47 then some (bitsOf a.toNat 29 22, bitsOf a.toNat 21 0) else none

/-- The bytes that a WRITE or WRITE_RED covers at its destination. -/
def spanOf (k : Pkt) : Nat :=
  if k.typ = tyWriteRed then k.p.payload.length / (redSource k.p.red.toNat).size * redDestSize k.p.red.toNat else k.p.payload.length

/-- The requests of a WRITE or WRITE_RED: granules of a plain write; the parts of a reducing one on each side of a 2 KiB boundary,
whole elements each (R171). -/
def State.landReqs (s : State) (node : Nat) (seq : W64) (v : Nat) (k : Pkt) : List (Nat → Req) :=
  let agent : Agent := .canal node seq
  let cls := k.p.cls.toNat
  let red := k.p.red.toNat
  let src := redSource red
  let kd := redDestSize red
  let a := match addrSpad k.p.addr with | some (_, o) => o | none => bitsOf k.p.addr.toNat 45 0
  let target (x : Nat) : Target := match addrSpad k.p.addr with
    | some (t, _) => .spad t x
    | none => match s.rangeCheck v x true with | .at p => .dev p | _ => .dev x
  let elems (o n : Nat) : ReqKind :=
    let es := (upFrom (o / kd) (n / kd)).map (fun i => natLE ((k.p.payload.drop (i * src.size)).take src.size))
    .reduce { red := redOf red, frame := k.p.frame.toInt, fmt := src, elems := es, flags := es.map (fun _ => Flags.none) }
  let parts := if k.typ = tyWriteRed then cutFrom 2048 8 a (spanOf k)
    else if (addrSpad k.p.addr).isSome then granules a (spanOf k) else s.units v a (spanOf k)
  parts.map (fun g id =>
    { plainReq id agent v cls (target g.1) g.1
        (if k.typ = tyWriteRed then elems (g.1 - a) g.2 else .write ((k.p.payload.drop (g.1 - a)).take g.2)) with
      grp := k.p.grp.toNat, fin := k.p.fin = 1 })

/-- A packet that has passed its checks begins to land: it is resolved when all that it becomes has ended. Until then it holds its units of the canal's
buffer, so that a full ring or landing queue withholds credit (R254; log 200). -/
def State.landPacket (s : State) (node : Nat) (seq : W64) (canal v units : Nat) (k : Pkt) : State :=
  let busy (s : State) (ids : List Nat) : State :=
    let x := s.inbound node
    s.setInbound node { x with busy := x.busy ++ [⟨seq, k, canal, units, ids, .ok⟩] }
  let agent : Agent := .canal node seq
  if k.typ = tyBasin then
    let (id, s) := s.fresh
    let cmds := (upFrom 0 (k.p.payload.length / 64)).map (fun i => BitVec.ofNat 512 (natLE ((k.p.payload.drop (64 * i)).take 64)))
    let a : Append := { id := id, agent := agent, vd := v, gen := (s.vd v).gen,
                        basin := relocBasin (s.vd v).relocs (bitsOf k.p.addr.toNat 7 0), cmds := cmds }
    busy (s.setNet { s.net with appends := s.net.appends ++ [a] }) [id]
  else if k.typ = tyFencePkt then
    let h := BitVec.ofNat 32 (natLE (k.p.payload.take 4))
    let id := s.nextId
    let s := s.sendSignal agent v (handleIndex h) (handleGen h) (BitVec.ofNat 64 (natLE ((k.p.payload.drop 8).take 8))) false
    busy s [id]
  else
    let mk := s.landReqs node seq v k
    let ids := upFrom s.nextId mk.length
    let s := { s with nextId := s.nextId + mk.length }
    if ids = [] then (s.freeBuffer (some (canal, k.p.vl.toNat, units))).resolve node seq k .ok
    else ((mk.zip ids).map (fun m => m.1 m.2)).foldl State.send (busy s ids)

/-- A final-held packet whose number the frontier has reached: it lands, unless its group was refused (R232, R259, R260). -/
def State.landFinal (s : State) (node : Nat) (b : Busy) : State :=
  let x := s.inbound node
  let s := s.setInbound node { x with held := x.held.filter (fun h => h.seq ≠ b.seq) }
  let past : Bool := match x.overflow with | some o => seqBehind b.seq o | none => false
  let free (s : State) : State := s.freeBuffer (if b.units = 0 then none else some (b.canal, b.pkt.p.vl.toNat, b.units))
  if past || marksLost x.grouped b.pkt.p.agent.toNat b.pkt.p.grp.toNat b.seq then (free s).resolve node b.seq b.pkt .bus
  else match s.vdOfTag b.pkt.p.tag.toNat with
    | some v => s.landPacket node b.seq b.canal v b.units b.pkt
    | none => (free s).resolve node b.seq b.pkt .tag

/-- The final-held packets that the frontier has reached, one after another. -/
def State.landFinals : Nat → State → Nat → State
  | 0, s, _ => s
  | fuel + 1, s, node =>
    match (s.inbound node).held.find? (fun h => h.seq = s.frontier node) with
    | some h => State.landFinals fuel (s.landFinal node h) node
    | none => s

/-- All final-held packets of the module (R260). -/
def State.heldCount (s : State) : Nat := s.fabric.inbound.cells.foldl (fun n c => n + c.2.held.length) 0

/-- The resolution of a packet, and what it lets land. -/
def State.resolved (s : State) (node : Nat) (seq : W64) (k : Pkt) (st : AccStatus) : State :=
  let s := s.resolve node seq k st
  s.landFinals ((s.inbound node).held.length + 1) node

/-- One request that a packet became has ended (R254): with the last the packet is resolved. -/
def State.ackCanal (s : State) (node : Nat) (seq : W64) (id : Nat) (st : AccStatus) : State :=
  let x := s.inbound node
  match x.busy.find? (fun b => b.seq = seq && b.ids.contains id) with
  | none => s
  | some b =>
    let b' := { b with ids := b.ids.erase id, status := if b.status = .ok then st else b.status }
    if b'.ids ≠ [] then s.setInbound node { x with busy := x.busy.map (fun y => if y = b then b' else y) }
    else
      let s := s.setInbound node { x with busy := x.busy.filter (fun y => y ≠ b) }
      (s.freeBuffer (if b.units = 0 then none else some (b.canal, b.pkt.p.vl.toNat, b.units))).resolved node seq b.pkt b'.status

/-! ## Checks at delivery (R253) -/

/-- R4, R247: a nonzero reserved field. FIN is one but on WRITE and WRITE_RED (R248). -/
def reservedBad (k : Pkt) : Bool :=
  let p := k.p
  let red : Bool := k.typ = tyWriteRed
  let n := p.payload.length
  p.rsv1 ≠ 0 || p.rsv2 ≠ 0 || p.addr.getLsbD 46 || (! red && p.red ≠ 0) || (red && p.red = 0) || (p.red ≠ 3 && p.frame ≠ 0)
    || (k.typ ≠ tyWrite && ! red && p.fin ≠ 0)
    || (k.typ = tyBasin && (p.addr.toNat ≥ 256 || n % 64 ≠ 0 || n = 0))
    || (k.typ = tyFencePkt && (n ≠ 16 || natLE ((p.payload.drop 4).take 4) ≠ 0))
    || (k.typ = tyPrule && (n < 20 || (p.payload.getD 17 0) ≠ 0))

/-- R253 steps 4 and 5 for a WRITE or WRITE_RED. A payload that is not aligned to its elements is refused as out of range (log 71). -/
def State.placeStatus (s : State) (v : Nat) (k : Pkt) : AccStatus :=
  let n := spanOf k
  let red : Bool := k.typ = tyWriteRed
  match addrSpad k.p.addr with
  | some (t, o) =>
    if (s.spire t).vdid ≠ v || spadBytes < o + n || (red && o % redDestSize k.p.red.toNat ≠ 0) then .range
    else if (s.spire t).inCode o n then .code
    else .ok
  | none =>
    let a := bitsOf k.p.addr.toNat 45 0
    if red && a % redDestSize k.p.red.toNat ≠ 0 then .range
    else
      (granules a n).foldl
        (fun (st : AccStatus) g =>
          if st = .range then st
          else match s.rangeCheck v g.1 true with
            | .outside => AccStatus.range
            | .readOnly => AccStatus.permission
            | .at p => if red && 256 ≤ portOf p then AccStatus.range else st)
        AccStatus.ok

/-- R287, R288: is a packet that is no pool type outside its virtual device for its source: a confidential one, or one that does not list the source
module as a peer? -/
def State.stranger (s : State) (v : Nat) (k : Pkt) : Bool := ! isPool k.typ && (s.confidential v || ! s.isPeer v k.p.src.toNat)

/-- R253 steps 4 and 5. -/
def State.targetStatus (s : State) (v : Nat) (k : Pkt) : AccStatus :=
  if s.stranger v k then .range
  else if k.typ = tyBasin then
    if s.holdsBasin v (relocBasin (s.vd v).relocs (bitsOf k.p.addr.toNat 7 0)) then .ok else .range
  else if k.typ = tyFencePkt then
    if (s.fenceOf v (BitVec.ofNat 32 (natLE (k.p.payload.take 4)))).isSome then .ok else .handle
  else if k.typ = tyPrule then .ok
  else s.placeStatus v k

/-- R253, R351: the checks in their order, up to the window; the virtual device. -/
def State.deliveryStatus (s : State) (k : Pkt) : AccStatus × Nat :=
  if reservedBad k then (.reserved, 0)
  else match s.vdOfTag k.p.tag.toNat with
    | none => (.tag, 0)
    | some v =>
      if s.vdState v = 2 then (.aborted, v)
      else
        let st := s.targetStatus v k
        if st ≠ .ok then (st, v) else if (s.vd v).frozen then (.busy, v) else (.ok, v)

/-- Has the module a receive window for a number that is not the frontier (R255)? -/
def State.windowRoom (s : State) (node : Nat) (seq : W64) : Bool :=
  seq = s.frontier node || (s.inbound node).window
    || decide ((s.fabric.inbound.cells.filter (fun c => c.2.window)).length < 1024)

/-- R274, R279: the pool that sent a PRULE is answered, and a QUERY is ruled on. -/
def State.answerRule (s : State) (v : Nat) (k : Pkt) : State :=
  let b := k.p.payload
  let sid := BitVec.ofNat 64 (natLE (b.take 8))
  let node := k.p.src.toNat
  let e := s.engineOf v
  let owner := ((s.entryOf e v sid).map (·.owner)).getD 0
  let st := if (s.entryOf e v sid).isSome then 0 else 1
  let s := s.reply { typ := tyPstatus, p := { Packet.blank with
    dst := k.p.src, seq := k.p.seq, tag := k.p.tag, agent := BitVec.ofNat 11 (0x402 + e),
    payload := b.take 16 ++ bytesLE 1 st ++ [0] ++ bytesLE 2 owner ++ bytesLE 4 0 ++ bytesLE 8 0 } }
  if (b.getD 16 0).toNat = ruleQuery then s.poolRuling e v sid node false false else s

/-- R253 to R260: a sequenced packet delivered. A refused packet above the frontier needs a window too, since it counts as resolved: without one it is
answered with BUSY (R255; log 199). -/
def State.deliver (s : State) (c : Nat) (k : Pkt) : State :=
  if k.p.dst.toNat ≠ s.node then s.forwardPacket c k
  else
    let (units, t) := s.takeBuffered c k
    let free := t.freeBuffer (if units = 0 then none else some (c, k.p.vl.toNat, units))
    let node := k.p.src.toNat
    let front := s.frontier node
    let seq := rebuildSeq front k.p.seq
    let x := s.inbound node
    if seqBehind seq front || x.marks.contains seq then free.countAck node
    else if x.busy.any (fun b => b.seq = seq) || x.held.any (fun b => b.seq = seq) then free
    else if 16384 ≤ (seq - front).toNat then free.dropPacket c
    else
      let (st, v) := s.deliveryStatus k
      if st = .busy || ! s.windowRoom node seq then free.sendNak node seq .busy
      else if st ≠ .ok then free.resolved node seq k st
      else if k.typ = tyPrule then (free.answerRule v k).resolved node seq k .ok
      else
        let opened (s : State) : State := if seq = front then s else s.setInbound node { s.inbound node with window := true }
        if k.p.fin = 1 && seq ≠ front then
          -- the hold store takes it out of the canal's buffer
          if 4096 ≤ s.heldCount then free.sendNak node seq .busy
          else
            let s := opened free
            let x := s.inbound node
            s.setInbound node { x with held := x.held ++ [⟨seq, k, c, 0, [], .ok⟩] }
        else if k.p.fin = 1 then (t.landFinal node ⟨seq, k, c, units, [], .ok⟩).landFinals (x.held.length + 1) node
        else (opened t).landPacket node seq c v units k

/-- R254 WRITE. -/
def execWritePacket (c : Canal) (p : Packet) (s : State) : Out := .next (s.deliver c.val ⟨tyWrite, p⟩)

/-- R254 WRITE_RED. -/
def execWriteRedPacket (c : Canal) (p : Packet) (s : State) : Out := .next (s.deliver c.val ⟨tyWriteRed, p⟩)

/-- R254 BASIN. -/
def execBasinPacket (c : Canal) (p : Packet) (s : State) : Out := .next (s.deliver c.val ⟨tyBasin, p⟩)

/-- R254 FENCE. -/
def execFencePacket (c : Canal) (p : Packet) (s : State) : Out := .next (s.deliver c.val ⟨tyFencePkt, p⟩)

/-- R274, R279 PRULE: a ruling is asked of this module. -/
def execPrule (c : Canal) (p : Packet) (s : State) : Out := .next (s.deliver c.val ⟨tyPrule, p⟩)

/-- R260 HOLD_TIMEOUT: the frontier has not reached a held packet within CNUNR. -/
def execHoldTimeout (node : Node) (seq : W64) (s : State) : Out :=
  let n := node.toNat
  .next (
    let x := s.inbound n
    match x.held.find? (fun h => h.seq = seq) with
    | none => s
    | some h => (s.setInbound n { x with held := x.held.filter (fun y => y.seq ≠ seq) }).resolved n seq h.pkt .bus)

/-- R258 RESYNC: the carried number is the new frontier; the window is freed, and held finals are discarded. -/
def execResyncPacket (c : Canal) (p : Packet) (s : State) : Out :=
  let k : Pkt := ⟨tyResync, p⟩
  let node := p.src.toNat
  .next (
    if p.dst.toNat ≠ s.node then s.forwardPacket c.val k
    else
      let s := s.unbuffer c.val k
      let s := (s.inbound node).busy.foldl
        (fun (s : State) b => s.freeBuffer (if b.units = 0 then none else some (b.canal, b.pkt.p.vl.toNat, b.units))) s
      let s := s.setReg .cnpfront node (BitVec.ofNat 64 (natLE (p.payload.take 8)))
      (s.setInbound node Inbound.reset).sendAck node)

/-! ## READ (R248) -/

/-- R248, R253 READ: checked as a write is, but for being writable; the bytes are read in the step itself, and answered. A confidential virtual device
takes none (R287); R288 asks of a peer only for sequenced packets (log 201). -/
def State.serveRemoteRead (s : State) (c : Nat) (k : Pkt) : State :=
  let p := k.p
  let node := p.src.toNat
  let tag : W64 := p.seq.zeroExtend 64
  let n := 8 * p.len.toNat
  let nak (st : AccStatus) : State := s.sendNak node tag st
  let answer (s : State) (b : List Byte) : State :=
    s.reply { typ := tyReadRsp, p := { Packet.blank with dst := p.src, agent := p.agent, cls := p.cls, seq := p.seq, tag := p.tag, payload := b } }
  if reservedBad k then nak .reserved
  else match s.vdOfTag p.tag.toNat with
    | none => nak .tag
    | some v =>
      if s.vdState v = 2 then nak .aborted
      else if s.confidential v then nak .range
      else match addrSpad p.addr with
        | some (t, o) =>
          if (s.spire t).vdid ≠ v || spadBytes < o + n then nak .range
          else if (s.vd v).frozen then nak .busy
          else if anyPoison (s.spire t).poison o n then nak .poison
          else
            let s := s.readGranted (.spad t o) (some (canalRouter c)) p.cls.toNat n
            answer s ((s.spire t).spad.readN o n)
        | none =>
          let a := bitsOf p.addr.toNat 45 0
          if ! s.rangeIn v a n false then nak .range
          else if (s.vd v).frozen then nak .busy
          else
            let (b, bad) := s.readBytes v a n
            if bad then nak .poison
            else
              answer
                ((granules a n).foldl
                  (fun s g => match s.readAt v g.1 with | some x => s.readGranted (.dev x) (some (canalRouter c)) p.cls.toNat g.2 | none => s) s)
                b

/-- R248 READ. -/
def execReadPacket (c : Canal) (p : Packet) (s : State) : Out :=
  let k : Pkt := ⟨tyRead, p⟩
  .next (
    if p.dst.toNat ≠ s.node then s.forwardPacket c.val k
    else
      -- R188: while a memory port that it reaches is closed it stays in the canal's buffer
      let places := match s.vdOfTag p.tag.toNat, addrSpad p.addr with
        | some v, none => s.placesOf v (bitsOf p.addr.toNat 45 0) (8 * p.len.toNat)
        | _, _ => []
      s.touching false places (fun s => (s.unbuffer c.val k).serveRemoteRead c.val k))

/-! ## Answers from pools (R274) -/

/-- The request that a pool's response answers, with its engine; the request is outstanding no more, and any response, a late one too, makes the
pool reachable (R270, R280). -/
def State.poolAnswer (s : State) (p : Packet) : Option (Nat × PoolAsk) × State :=
  let node := p.src.toNat
  match s.fabric.poolReqs.find? (fun r => r.node = node && r.seq.extractLsb' 0 32 = p.seq && r.answered) with
  | none => (none, [0, 1].foldl (fun s e => s.poolBack e node) s)
  | some r =>
    let s := s.endPoolReq r.id
    let hit := [0, 1].findSome? (fun e => ((s.engine e).asks.find? (fun a => a.id = r.id)).map (fun a => (e, a)))
    let s := [0, 1].foldl
      (fun s e =>
        let x := s.engine e
        (s.setEngine e { x with asks := x.asks.filter (fun a => a.id ≠ r.id) }).poolBack e node)
      s
    (hit, s.pumpAll)

/-- A response from a pool delivered here. -/
def poolResponse (c : Canal) (typ : BitVec 5) (p : Packet) (s : State) (work : State → Option (Nat × PoolAsk) → State) : Out :=
  let k : Pkt := ⟨typ, p⟩
  .next (
    if p.dst.toNat ≠ s.node then s.forwardPacket c.val k
    else
      let (hit, s) := (s.unbuffer c.val k).poolAnswer p
      work s hit)

/-- The SID that begins a pool payload. -/
def sidOf (p : Packet) : W64 := BitVec.ofNat 64 (natLE (p.payload.take 8))

/-- The places where the data of a response will lie: what its GET or RETURN has asked for goes to LADDR, whole where the state is confidential. -/
def State.pdataPlaces (s : State) (p : Packet) : List (Nat × Nat) :=
  let id := ((s.fabric.poolReqs.find? (fun r => r.node = p.src.toNat && r.seq.extractLsb' 0 32 = p.seq && r.answered)).map (·.id)).getD 0
  match [0, 1].findSome? (fun e => (s.engine e).runs.find? (PoolRun.reads id)) with
  | some r =>
    match r.job with
    | .read _ want _ off len laddr =>
      let (o, n) := ((want.find? (fun w => w.1 = id)).map (·.2)).getD (0, 0)
      if s.confidential r.vd then (if want.length = 1 then s.placesOf r.vd laddr len else []) else s.placesOf r.vd (laddr + (o - off)) n
    | _ => []
  | none => []

/-- R274 PDATA: the data of a PREAD. While a memory port that it will be written through is closed it stays in the canal's buffer (R188). -/
def execPdata (c : Canal) (p : Packet) (s : State) : Out :=
  let work (s : State) (hit : Option (Nat × PoolAsk)) : State :=
    match hit with
    | some (e, a) => if a.typ = tyPread && a.sid = sidOf p then s.poolData e a (p.payload.drop 8) else s
    | none => s
  if p.dst.toNat = s.node && ! s.mayTouchAll true (s.pdataPlaces p) then .next (s.rouseAll (s.pdataPlaces p))
  else poolResponse c tyPdata p s work

/-- R277 PACCEPT: the acceptance record of a commit; one that comes for no open transfer is answered with ABANDON (R278). -/
def execPaccept (c : Canal) (p : Packet) (s : State) : Out :=
  poolResponse c tyPaccept p s (fun s hit =>
    let w (o n : Nat) : Nat := natLE ((p.payload.drop o).take n)
    let xid := BitVec.ofNat 64 (w 8 8)
    let crc := BitVec.ofNat 64 (w 24 8)
    match hit with
    | some (e, a) =>
      let mine : Bool := a.typ = tyPcommit && ((s.entryOf e a.vd (sidOf p)).any (fun l => l.xid = a.xid)) && a.sid = sidOf p
      s.poolAccepted e p.src.toNat a.vd (sidOf p) xid (w 16 4) crc mine
    | none =>
      match s.vdOfTag p.tag.toNat with
      | some v => s.poolAccepted (s.engineOf v) p.src.toNat v (sidOf p) xid (w 16 4) crc false
      | none => s)

/-- R273, R275, R278, R279: a pool answers with a status other than OK. NOSTATE and NOT_OWNER are ruled on; a read that finds the state gone at its
owner ends with STATE_LOST; EXISTS ends the first STAGE of a state so. -/
def State.poolRefused (s : State) (e : Nat) (a : PoolAsk) (status : Nat) : State :=
  let fresh : Bool := (s.engine e).runs.any (fun r => r.vd = a.vd && r.sid = a.sid && r.fresh)
  if status = 1 || status = 2 then
    let gone : Bool := a.typ = tyPread && status = 1 && ((s.entryOf e a.vd a.sid).any (fun l => l.owner = a.node))
    let s := if gone then s.endRuns e a.vd a.sid poLost (PoolRun.reads a.id) else s
    let s := s.poolRuling e a.vd a.sid a.node (status = 1) true
    if a.typ = tyPread then s.poolReadFails e a else s
  else s.poolAskFails e a (if status = 3 && fresh then poExists else poFailed)

/-- R274 PSTATUS: the answer to a PCOPY, PCOMMIT or PRULE, or the error of a PREAD. -/
def execPstatus (c : Canal) (p : Packet) (s : State) : Out :=
  poolResponse c tyPstatus p s (fun s hit =>
    let status := (p.payload.getD 16 0).toNat
    let crc := BitVec.ofNat 64 (natLE ((p.payload.drop 24).take 8))
    match hit with
    | some (e, a) =>
      if a.typ = tyPcopy && status = 0 then
        match s.entryOf e a.vd a.sid with
        | some l =>
          if l.phase = .staging && l.xid = a.xid then (s.updLedger e a.vd a.sid (fun l => { l with staged := crc })).poolStaged e a.vd a.sid
          else s
        | none => s
      else if a.typ = tyPrule && status = 0 then s
      else s.poolRefused e a status
    | none =>
      -- no request awaits it: a refusal of staged bytes, or an answer that comes late
      match s.vdOfTag p.tag.toNat with
      | some v =>
        let e := s.engineOf v
        let node := p.src.toNat
        match s.entryOf e v (sidOf p) with
        | some l =>
          let fresh : Bool := (s.engine e).runs.any (fun r => r.vd = v && r.sid = l.sid && r.fresh)
          if status = 1 || status = 2 then s.poolRuling e v l.sid node (status = 1) true
          else if status ≠ 0 && l.phase.isOpen && l.phase ≠ .returning && (l.dest = node || l.owner = node) then
            s.failTransfer e l (if status = 3 && fresh then poExists else poFailed)
          else s
        | none => s
      | none => s)

end Sys2Proof.Machine
end

