-- ==== Sys2Proof/Machine/RegAccess.lean ====
section
/-! DEFINITION. Reading and writing the registers from outside their units (R5, R311, R314 to R317, R328, R468, R469): computed fields,
writes with the guards and actions of their registers, what is dynamic, and the bytes of BAR0. -/

namespace Sys2Proof.Machine

/-! ## Computed fields -/

/-- R402: eligible instances and saved records of a virtual device that wait for a spire. -/
def State.waitCount (s : State) (v : Nat) : Nat :=
  let n := (s.dispatches.filter (fun d => d.vd = v && d.fault.isNone && ! d.aborted)).foldl (fun n d => n + (d.n - d.next)) 0
  min (2 ^ 24 - 1) (n + ((s.vd v).saves.filter (fun r => ! r.faulted)).length)

/-- R399: the epochs of a virtual device's running, saved and eligible instances. -/
def State.epochs (s : State) (v : Nat) : List W64 :=
  (s.spires.cells.filterMap (fun c => if c.2.vdid = v then c.2.kernel.map (·.epoch) else none))
    ++ (s.vd v).saves.map (fun r => r.kernel.epoch)
    ++ (s.dispatches.filter (fun d => d.vd = v && d.fault.isNone && ! d.aborted && decide (d.next < d.n))).map (·.epoch)

/-- R399: the lowest epoch, 0 when nothing waits or runs. -/
def State.lowestEpoch (s : State) (v : Nat) : W64 :=
  match s.epochs v with
  | [] => 0
  | e :: r => r.foldl (fun a b => if seqBehind b a then b else a) e

/-- R405: the sources of a virtual device in the towers that `here` admits. -/
def State.sources (s : State) (v : Nat) (here : Nat → Bool) : Nat :=
  ((s.vdSpires v).filter (fun n => here (towerOfSpire n))).length
    + ((upFrom 0 64).filter (fun e => here (towerOfEngine e) && s.barges.cells.any (fun k => engineOfBarge k.1 = e && k.2.vd = v))).length
    + ((upFrom 0 24).filter (fun c => here (c / 12) && s.bit .cnvdc v c)).length
    + ((upFrom 0 2).filter (fun p => here p && s.objs.aps.cells.any (fun k => k.1 / 4096 / 64 = p && k.2.vd = v))).length

/-- R405, R514: the sources behind an input of a sluice: of the memory ports' MESH input, and of the per-virtual-device inputs of lock
crossings and canals. What the other inputs count the spec does not say (log 76). -/
def State.sourcesBehind (s : State) (sluice input : Nat) : Option Nat :=
  if sluice < 256 then
    if input = 0 then some (if s.fld .chcfg sluice 1 0 = 1 then s.sources (s.fld .chcfg sluice 7 2) (fun _ => true) else 0) else none
  else if sluice < 264 then
    if input = 0 then
      some (((upFrom 0 63).filter (fun v => (segmentsOf (sluice - 256)).any (fun e => s.ownsSegment v e))).foldl
        (fun n v => n + s.sources v (fun _ => true)) 0)
    else none
  else if sluice < 296 then some (if input < 63 then s.sources input (fun t => t = (if sluice < 280 then 0 else 1)) else 0)
  else if 298 ≤ sluice then some (if input < 63 && s.bit .cnvdc input (sluice - 298) then s.sources input (fun _ => true) else 0)
  else none

/-- R303, R308: EVST of an evacuation. -/
def State.evst (s : State) (e : Nat) : W64 :=
  match s.evacs.find? e with
  | none => s.reg .evst e
  | some x =>
    let done := (x.chunks.cells.filter (fun c => c.2 = .done)).length
    BitVec.ofNat 64 ((if x.switched then 0 else if done = x.total then 2 else 1) + x.vd * 4 + done * 2 ^ 8 + x.total * 2 ^ 25
      + (if x.switched then 2 ^ 42 else 0))

/-- R308: VDCNT of a virtual device. -/
def State.vdcnt (s : State) (v : Nat) : W64 :=
  let x := s.vd v
  BitVec.ofNat 64 ((s.vdSpires v).length + (x.saves.filter (fun r => ! r.faulted)).length * 2 ^ 9 + x.slots * 2 ^ 19
    + x.carves.cells.length * 2 ^ 29 + x.relocs.length * 2 ^ 33 + x.peers.length * 2 ^ 38)

/-- The bits set in a mask of 32. -/
def maskCount (w : W64) : Nat := ((upFrom 0 32).filter (fun k => w.getLsbD k)).length

/-- A register as a read shows it. -/
def State.regView (s : State) (r : RegName) (i : Nat) : W64 :=
  let w := s.reg r i
  match r with
  | .isetm => w.put 37 32 (maskCount w)
  | .plstat => w.put 32 16 s.fabric.poolReqs.length
  | .vdcnt => s.vdcnt i
  | .evst => s.evst i
  | .scvd => w.put 32 9 (s.waitCount i)
  | .fwproc =>
    -- R489: expiries in the last hour
    w.put 3 2 (min 3 ((s.fw.expiries.get [] i).filter (fun t => decide ((s.reg .btime 0 - t).toNat < tickHour))).length)
  | .scepoch => s.lowestEpoch i
  | .slsrc =>
    match s.sourcesBehind (i / 128) (i % 128) with
    | some n => BitVec.ofNat 64 (n % 65536)
    | none => BitVec.ofNat 64 (Config.free s.ctr % 65536)
  | .slmin =>
    let k := i / 128
    if k < 264 then w
    else if k < 296 then BitVec.ofNat 64 (if i % 128 < 63 then 16 * s.fld .nvdcfg (i % 128) 7 0 else 0)
    else if k < 298 then 0
    else BitVec.ofNat 64 (if i % 128 = 64 then 16 * s.fld .cntshare 0 7 0
      else if i % 128 < 63 && s.bit .cnvdc (i % 128) (k - 298) then 16 * s.fld .nvdcfg (i % 128) 7 0 else 0)
  | .keyuse0 => (s.sec.keys.keys.filter (fun k => decide (k < 64))).foldl (fun (w : W64) k => w ||| (1#64 <<< k)) 0
  | .keyuse1 => (s.sec.keys.keys.filter (fun k => decide (64 ≤ k))).foldl (fun (w : W64) k => w ||| (1#64 <<< (k - 64))) 0
  | _ => w &&& ~~~(r.mask .wo)

/-! ## Writes -/

/-- R507: the tower of a monitor's unit. -/
def monTower (src unit : Nat) : Option Nat :=
  match src with
  | 0 => some (unit / 128)
  | 1 => some (unit / 4)
  | 2 => some (unit / 128)
  | 3 => some (if unit < 256 then unit / 128 else if unit < 264 then (unit - 256) / 4 else if unit < 280 then 0 else if unit < 296 then 1
      else if unit < 298 then unit - 296 else (unit - 298) / 12)
  | 4 => some (unit / 128)
  | 5 => some (unit / 128)
  | 6 => some (unit / 12)
  | 7 => some (unit / 512)
  | 8 => some (unit / 16)
  | 10 => some unit
  | _ => none

/-- The total of the minima of a sluice with one of them replaced (R403). -/
def State.minTotal (s : State) (r : RegName) (base n i : Nat) (w : W64) : Nat :=
  (upFrom base n).foldl (fun t k => t + (if k = i then w else s.reg r k).get 11 0) 0

/-- R206: the sum of SHARE over the virtual devices but one, with CNTSHARE (R264). -/
def State.shares (s : State) (but : Nat) : Nat :=
  (upFrom 0 63).foldl (fun n v => if v = but then n else n + s.fld .nvdcfg v 7 0) (s.fld .cntshare 0 7 0)

/-- R267: does another virtual device hold a fabric tag? -/
def State.tagTaken (s : State) (v tag : Nat) : Bool :=
  (upFrom 0 64).any (fun u => u ≠ v && s.bit .cnvdt u 0 && s.fld .cnvdt u 20 1 = tag)

/-- R210: would a barrier entry written so be a second valid one of its virtual device and local index? -/
def State.barrierTaken (s : State) (e : Nat) (w : W64) : Bool :=
  w.getLsbD 0 && (upFrom 0 512).any (fun k =>
    k ≠ e && s.bit .nbar k 0 && s.fld .nbar k 6 1 = w.get 6 1 && s.fld .nbar k 14 7 = w.get 14 7)

/-- R173, R193, R194, R197, R206, R210, R267, R282, R403, R460, R502, R506, R512: is a register write ignored for its value, or for what goes on? -/
def State.writeIgnored (s : State) (r : RegName) (i : Nat) (w : W64) : Bool :=
  match r with
  | .pwcap => decide (w.get 11 0 < 600) || decide (2000 < w.get 11 0)
  | .thlim => decide (w.get 7 0 < 80) || decide (100 < w.get 7 0)
  | .pwmoor => decide (w.get 15 0 < 64) || w.get 31 16 = 0
  | .rltmo => w.get 21 0 = 0 || decide (3600000 < w.get 21 0)
  | .rlsamp =>
    decide (32768 < w.get 31 16 + w.get 63 48) || decide (65536 < w.get 15 0 + w.get 31 16) || decide (65536 < w.get 47 32 + w.get 63 48)
  | .mncfg => match monTower (w.get 4 0) (w.get 14 5) with | some t => t ≠ i / 64 | none => false
  | .slmin => decide (264 ≤ i / 128) || decide (4096 < s.minTotal .slmin (i / 128 * 128) 5 i w)
  | .slpmin => decide (4096 < s.minTotal .slpmin (i / 64 * 64) 64 i w)
  | .tgbase | .tglen | .tgseed | .tgiter | .tgham | .tgstat | .tgerr | .tgce | .tgbytes => s.bit .tgstat i 0
  | .iset => w.getLsbD 0 && decide (maskCount (s.reg .isetm i) < 2)
  | .chcfg => decide (i < 256) && (s.fld .chcfg i 1 0 = 1 || s.fld .chcfg i 1 0 = 3)
  | .fscfg => s.fld .fscfg i 1 0 = 1 || s.fld .fscfg i 1 0 = 3
  | .nvdcfg => decide (256 < s.shares i + w.get 7 0)
  | .nbar => s.barrierTaken i w
  | .cnvdt => w.getLsbD 0 && s.tagTaken i (w.get 20 1)
  | .cnrto => w.get 31 0 = 0
  | .cnunr => w.get 31 0 = 0
  | .plcfg => w.get 15 0 = 0 || w.get 31 16 = 0 || decide (w.get 47 32 < w.get 31 16)
  | _ => false

/-- R506: a snapshot of a monitor: its live set copied to the readable registers; CLR clears it. While EN is set the live set has gone on
to values that what it watches gives, which the model does not follow: they are free (log 77). -/
def State.monSnap (s : State) (m : Nat) (clr : Bool) : State :=
  let live := s.mons.get .reset m
  let (live, s) :=
    if s.bit .mncfg m 22 then
      let k := s.ctr
      let f (j : Nat) : Nat := Config.free (k + j) % 2 ^ 48
      ({ min := f 0, max := f 1, cnt := f 2, hist := (upFrom 0 32).foldl (fun t b => t.set b (f (3 + b))) .empty : MonLive },
        { s with ctr := k + 40 })
    else (live, s)
  let s := ((s.setReg .mnmin m (BitVec.ofNat 64 live.min)).setReg .mnmax m (BitVec.ofNat 64 live.max)).setReg .mncnt m (BitVec.ofNat 64 live.cnt)
  let s := (upFrom 0 32).foldl (fun s b => s.setReg .mnhist (32 * m + b) (BitVec.ofNat 64 (live.hist.get 0 b))) s
  { s with mons := s.mons.set m (if clr then .reset else live) }

/-- R195: a channel or segment port returned from test: its release fill is due. STATE stays 0b10 until it has run. -/
def State.endTest (s : State) (u : Nat) : State := s.addFill u false

/-- The actions of a register that has been written. -/
def State.afterWrite (s : State) (r : RegName) (i : Nat) (old v mask : W64) : State :=
  match r with
  | .tgctl =>
    let t := triggered r v mask
    let s := if t.getLsbD 0 then s.tgStart i else s
    if t.getLsbD 1 then s.tgStop i else s
  | .mnsnap =>
    let t := triggered r v mask
    if t.getLsbD 0 then s.monSnap i (t.getLsbD 1) else s
  | .pwmoor => if s.bit .pwmoor 0 32 then s else { s with power := { s.power with moored := false } }
  | .cncfg => if ! old.getLsbD 0 && s.canalState i = 0 then s.trainCanal i else s
  | _ => s

/-- R208: EXPECT of a barrier entry written: held for the release while spires have arrived, and where it takes the place of a held removal
(log 183). -/
def State.setExpect (s : State) (e n : Nat) : State :=
  let r := s.round e
  if r.arrived ≠ [] ∨ r.held = some .removal then s.setRound e { r with held := some (.expect n) }
  else
    let s := s.setFld .nbar e 23 15 n
    if r.held.isNone then s else s.setRound e { r with held := none }

/-- The fields of CHCFG that a far controller has: STATE, VDID and KEY are reserved (R193). -/
def farChcfg : W64 := 0x101FF00#64

/-- R5: a write of a register under a mask, with the guards and the actions of its chapter. RWL fields have writers of their own
(OWNER_SET, R437; the inspection port, R458): no other write sets them. -/
def State.writeReg (s : State) (r : RegName) (i : Nat) (v mask : W64) : State :=
  let old := s.reg r i
  let new := mergeWrite r true old v mask
  match r with
  | .tgctl =>
    -- R197: a run keeps the fields it started with
    let s := if s.bit .tgstat i 0 then s else s.setReg r i new
    s.afterWrite r i old v mask
  | _ =>
    if s.writeIgnored r i new then s
    else match r with
      | .chcfg =>
        if 256 ≤ i then s.setReg r i (new &&& farChcfg)
        -- R195: out of service and back; a return to 0b00 waits for the release fill
        else if old.get 1 0 = 2 && new.get 1 0 = 0 then (s.setReg r i (new.put 1 0 2)).endTest i
        else s.setReg r i new
      | .fscfg => if old.get 1 0 = 2 && new.get 1 0 = 0 then (s.setReg r i (new.put 1 0 2)).endTest (256 + i) else s.setReg r i new
      -- R208: EXPECT waits for the release of the round
      | .nbar => (s.setReg r i (new.put 23 15 (old.get 23 15))).setExpect i (new.get 23 15)
      -- R287: RECOV is never set for a confidential virtual device
      | .nvdcfg => s.setReg r i (if s.confidential i then new.put 30 30 0 else new)
      | _ => (s.setReg r i new).afterWrite r i old v mask

/-- The registers of an aligned 8-byte place of BAR0, with the bit at which each begins (R314: the routing tables lie 4 bytes apart). -/
def bar0Regs (off : Nat) : List (RegName × Nat × Nat) :=
  ((bar0At off).toList.map (fun x => (x.1, x.2, 0)))
    ++ (((bar0At (off + 4)).toList.filter (fun x => x.1 = .cngrt || x.1 = .cnmbt)).map (fun x => (x.1, x.2, 32)))

/-- A write of 8 bytes at a place of BAR0 outside the function block. -/
def State.writePlace (s : State) (off : Nat) (v mask : W64) : State :=
  (bar0Regs off).foldl (fun s x => s.writeReg x.1 x.2.1 (v >>> x.2.2) (mask >>> x.2.2)) s

/-- Where the replica tables stand for REGISTER_WRITE: entry k of basin c at 512c + 32k, its offset and length in the channel, then the replica's
address (R156, log 182). -/
def replicaArea : Nat := 0x4020000

/-- R131, R156: firmware writes a word of a replica-table entry. -/
def State.writeReplica (s : State) (off : Nat) (v : W64) : State :=
  let c := off / 512
  let k := off % 512 / 32
  let b := s.basin c
  let r := b.replicas.get ⟨0, 0, 0⟩ k
  let set (r : Replica) : State := s.setBasin c { b with replicas := if r = ⟨0, 0, 0⟩ then b.replicas.erase k else b.replicas.set k r }
  match off % 32 with
  | 0 => set { r with off := v.get 31 0, len := v.get 63 32 }
  | 8 => set { r with addr := v.toNat }
  | _ => s

/-- Firmware writes what no BAR maps: a register of the security core or of a landing adder, or the replica table of a basin (log 182). -/
def State.writeTow (s : State) (off : Nat) (v : W64) : State :=
  let all := BitVec.allOnes 64
  match towAt off with
  | some (.nwin0, n) => s.setSpire n { s.spire n with nwin0 := mergeWrite .nwin0 true (s.spire n).nwin0 v all }
  | some (.nwin1, n) => s.setSpire n { s.spire n with nwin1 := mergeWrite .nwin1 true (s.spire n).nwin1 v all }
  | some (.nrstat, n) => s.setSpire n { s.spire n with nrstat := mergeWrite .nrstat true (s.spire n).nrstat v all }
  | some (r, i) => s.writeReg r i v all
  | none => if replicaArea ≤ off && decide (off < replicaArea + 256 * 512) then s.writeReplica (off - replicaArea) v else s

/-- R469: can the register never be dynamic? -/
def neverDynamic (r : RegName) : Bool :=
  match r with
  | .cnnode => true
  | .mtrstat => true
  | .mtrseq => true
  | .mtrack => true
  | .mtrboot => true
  | .mtrmod => true
  | .mtridle => true
  | .mtrcal => true
  | _ => false

/-- R469, R512: dynamic in every image: event counters, the traffic generators, CHCFG. -/
def alwaysDynamic (r : RegName) : Bool :=
  r.isEvent || (match r with
    | .mnmin => true
    | .mnmax => true
    | .mncnt => true
    | .mnhist => true
    | .tgctl => true
    | .tgbase => true
    | .tglen => true
    | .tgseed => true
    | .tgiter => true
    | .tgham => true
    | .tgstat => true
    | .tgfaddr => true
    | .tgfxor => true
    | .chcfg => true
    | _ => false)

/-- R469: is the register of a place dynamic? -/
def State.dynamic (s : State) (off : Nat) (r : RegName) : Bool := ! neverDynamic r && (alwaysDynamic r || s.fw.dyn.contains off)

/-- R469: a REG_WRITE of CHCFG: STATE only, between 0b00 and 0b10, on a channel whose VDID is 0x3F. -/
def State.writeState (s : State) (ch : Nat) (v mask : W64) : State :=
  let old := s.reg .chcfg ch
  let x := (mergeWrite .chcfg true old v mask).get 1 0
  if old.get 7 2 = 0x3F && (old.get 1 0 = 0 || old.get 1 0 = 2) && (x = 0 || x = 2) then
    s.writeReg .chcfg ch (BitVec.ofNat 64 x) 3
  else s

/-! ## BAR0 as a function reads it (R311, R315, R317) -/

/-- Does a function own a queue? -/
def State.ownsQueue (s : State) (fn q : Nat) : Bool :=
  match s.objs.queues.live.find? q with | some o => o.fn = fn && ! o.head.freed | none => false

/-- R311: does the function exist: a PF, or an enabled VF? -/
def State.fnExists (s : State) (fn : Nat) : Bool := fn % 64 = 0 || decide (fn % 64 ≤ s.fw.vfs.getD (fn / 64) 0)

/-- The base and size of the ring area and of the log ring (R325, R488). -/
def ringArea : Nat := 0x2000000
def ringAreaBytes : Nat := 0x8000
def logArea : Nat := 0x2100000
def logAreaBytes : Nat := 0x100000

/-- The aligned 8 bytes of BAR0 that a function reads. -/
def State.bar0Word (s : State) (fn off : Nat) : W64 :=
  if off < 0x1000 then
    match functionBlock[off / 8]? with
    | some r => s.reg r fn
    | none => 0
  else
    let place := (bar0Regs off).foldl (fun w x => w ||| (s.regView x.1 x.2.1 <<< x.2.2)) (0 : W64)
    if 0x100000 ≤ off && off < 0x180000 then (if s.ownsQueue fn ((off - 0x100000) / 0x80) then place else 0)
    else if fn % 64 ≠ 0 then 0
    else if ringArea ≤ off && off < ringArea + ringAreaBytes then
      BitVec.ofNat 64 ((s.fw.rings.get .zero (fn / 64)).readLE (off - ringArea) 8)
    else if logArea ≤ off && off < logArea + logAreaBytes then
      BitVec.ofNat 64 (natLE ((((s.fw.log.get [] ((off - logArea) / 64)).drop (off % 64)).take 8)))
    else place

end Sys2Proof.Machine
end

