-- ==== Sys2Proof/Machine/HostPort.lean ====
section
/-! DEFINITION. Host ports (chapter 12): doorbells, command fetch, completions, status rings, function pages, BAR accesses, function level
resets, module commands. -/

namespace Sys2Proof.Machine

/-! ## Queues (R317 to R320) -/

/-- R319, R322: a queue enters error state and says so. -/
def State.queueError (s : State) (q err : Nat) : State :=
  if s.fld .qstat q 1 0 = 3 then s
  else
    let s := (s.setFld .qstat q 1 0 3).setFld .qstat q 15 8 err
    let o := s.objs.queues.live.find? q
    let fn := (o.map (·.fn)).getD 0
    s.post fn { code := 0x0001, vdid := ((o.bind (·.ctx)).map s.vdOfCtx).getD 0x3F, arg0 := q, arg1 := err, arg2 := (s.reg .qcprod q).toNat }

/-- R319: a doorbell acts. -/
def State.ringBell (s : State) (fn q : Nat) (v : W64) : State :=
  if ! s.ownsQueue fn q then s.bump .fndberr fn
  else if seqAfter v (s.reg .qccons q + BitVec.ofNat 64 (2 ^ s.fld .qcfg q 4 0)) then (s.bump .fndberr fn).queueError q 1
  else if seqAfter v (s.reg .qcprod q) then
    if seqBehind v (s.reg .qccons q) then (s.bump .fndberr fn).queueError q 2 else s.setReg .qcprod q v
  else s.bump .fndberr fn

/-- R237: the posted BAR4 writes of a function that have not landed. -/
def State.bar4Unlanded (s : State) (fn : Nat) : List Nat :=
  (s.net.reqs.filter (fun r => r.agent = .host fn)).map (·.id)

/-- R319: K: the completion consumer. -/
def State.consume (s : State) (fn q : Nat) (k : W64) : State :=
  if s.ownsQueue fn q && seqAfter k (s.reg .qkcons q) && ! seqAfter k (s.reg .qkprod q) then s.setReg .qkcons q k
  else s.bump .fndberr fn

/-- R237, R319 DOORBELL: a write to a queue's page of BAR2. It acts once the function's earlier BAR4 writes have landed. -/
def execDoorbell (fn : Fn) (q : Qn) (off width : Nat) (v : W64) (s : State) : Out :=
  .next (
    if ! s.fnExists fn.val then s
    else if width ≠ 8 || off ≠ 0 || ! s.ownsQueue fn.val q.val then s.bump .fndberr fn.val
    else
      let deps := s.bar4Unlanded fn.val
      if deps = [] then s.ringBell fn.val q.val v else { s with bells := s.bells ++ [⟨fn.val, q.val, v, deps⟩] })

/-- R319 COMPLETION_CONSUMER_WRITE: a write at offset 8 of a queue's page. -/
def execCompletionConsumerWrite (fn : Fn) (q : Qn) (width : Nat) (v : W64) (s : State) : Out :=
  .next (if ! s.fnExists fn.val then s else if width ≠ 8 then s.bump .fndberr fn.val else s.consume fn.val q.val v)

/-- R316, R322, R326: an access of a function in a virtual device that met poison at an address: counted once and told. -/
def State.tellPoison (s : State) (fn v a : Nat) : State :=
  (s.bump .fnpois fn).post fn { code := 0x0005, vdid := v, arg0 := 0, arg1 := a, arg2 := 0 }

/-- A posted BAR4 write has ended: poison is told once for the access it belongs to (R326), and doorbells that waited for it act (R237). -/
def State.ackHost (s : State) (fn id : Nat) (st : AccStatus) : State :=
  let w := s.hostWrites.find? (fun w => w.id = id)
  let s := { s with hostWrites := s.hostWrites.filter (fun w => w.id ≠ id) }
  let s := match w, st with
    | some w, .poison =>
      if w.told then s
      else
        let told (x : HostWrite) : HostWrite := if x.access = w.access then { x with told := true } else x
        { s with hostWrites := s.hostWrites.map told }.tellPoison fn w.vd w.addr
    | _, _ => s
  let bells := s.bells.map (fun b => { b with deps := b.deps.erase id })
  let s := { s with bells := bells.filter (fun b => b.deps ≠ []) }
  (bells.filter (fun b => b.deps = [])).foldl (fun s b => s.ringBell b.fn b.queue b.value) s

/-! ## Rings in memory -/

/-- The virtual device of a queue, and the cache that its port's ring accesses use (R362). -/
def ringCache (fn : Nat) : Nat := 80 + fn / 64

/-- What is known of a ring access: where it goes, that it waits for a translation, or that it fails. -/
inductive RingAt where
  | device (phys : Nat)
  | bus (addr : Nat)
  | wait
  | bad

/-- R317, R340, R356: the place of `n` bytes of a ring, the state having asked for the translation it needs. A control queue's bases are bus
addresses; one in device memory has no virtual device and is never in range (log 78). -/
def State.ringAt (s : State) (q : Nat) (o : QueueObj) (base : W64) (off n : Nat) (write : Bool) : RingAt × State :=
  let a := base.get 63 6 * 64 + off
  if base.getLsbD 0 then
    match o.ctx with
    | none => (.bad, s)
    | some c =>
      match s.rangeCheck (s.vdOfCtx c) a write, s.rangeCheck (s.vdOfCtx c) (a + n - 1) write with
      | .at p, .at _ =>
        -- a port that is closed, or has traffic held, holds this access too (R132, R188)
        if s.mayTouch write p n then (.device p, s) else (.wait, s.rousePort (portOf p))
      | _, _ => (.bad, s)
  else match o.ctx with
    | none => (.bus a, s)
    | some c =>
      let page := a / 4096 % 2 ^ 45
      let s := s.want (.ring q) (ringCache o.fn) (o.fn / 64) c page write
      match (s.wantOf (.ring q) page write).bind (·.found) with
      | none => (.wait, s)
      | some (.page p) => (.bus (p * 4096 + a % 4096), s.unwantPage (.ring q) page)
      | some (.bad _) => (.bad, s.unwantPage (.ring q) page)

/-- R319, R320: may the port fetch the next command of a queue? -/
def State.mayFetch (s : State) (q : Nat) (o : QueueObj) : Bool :=
  let dying : Bool := match o.ctx.bind (fun c => s.objs.ctxs.live.find? c) with | some c => c.dying | none => false
  s.fld .qstat q 1 0 = 1 && ! o.head.freed && ! dying && ! (s.vd (s.vdOfQueue o)).frozen && s.vdState (s.vdOfQueue o) ≠ 2 && s.reg .qccons q ≠ s.reg .qcprod q
    && decide (((s.reg .qccons q - s.reg .qdone q) + (s.reg .qkprod q - s.reg .qkcons q)).toNat < 2 ^ s.fld .qcfg q 9 5)

/-- R319, R354: a command taken into its queue. -/
def State.accept (s : State) (q : Nat) (o : QueueObj) (bytes : List Byte) : State :=
  let seq := s.reg .qccons q
  let c : Cmd := { seq := seq, raw := BitVec.ofNat 512 (natLE bytes), gen := (s.vd (s.vdOfQueue o)).gen, holds := [], stage := .waiting,
                   fetched := s.reg .btime 0, checked := false, sigf := none, waitf := none,
                   awaits := none }
  (s.setReg .qccons q (seq + 1)).updQueue q (fun o => { o with cmds := o.cmds ++ [c] })

/-- R319, R320 COMMAND_FETCH: the next entry read; a ring that cannot be read puts the queue in error state with ERR 3. -/
def execCommandFetch (q : Qn) (ans : HostAns) (s : State) : Out :=
  .next (
    match s.objs.queues.live.find? q.val with
    | none => s
    | some o =>
      if ! s.mayFetch q.val o then s
      else
        let slot := (s.reg .qccons q.val).toNat % 2 ^ s.fld .qcfg q.val 4 0
        let (r, s) := s.ringAt q.val o (s.reg .qcbase q.val) (64 * slot) 64 false
        match r with
        | .wait => s
        | .bad => s.queueError q.val 3
        | .device p =>
          let (b, bad) := s.devRead p 64
          if bad then s.queueError q.val 3 else s.accept q.val o b
        | .bus _ =>
          match ans with
          | .data b => s.accept q.val o (b.take 64)
          | .busError => s.queueError q.val 3)

/-! ## Retirement (R320, R321, R323, R337, R342, R347) -/

/-- R289, R328, R343, R367, R390, R417, R457, R500: the opcodes of each queue kind that have a meaning. -/
def opcodeKnown (kind op : Nat) : Bool :=
  match kind with
  | 0 => (decide (1 ≤ op) && decide (op ≤ 0x0B)) || (decide (0x20 ≤ op) && decide (op ≤ 0x23)) || (decide (0x40 ≤ op) && decide (op ≤ 0x56))
    || (decide (0x60 ≤ op) && decide (op ≤ 0x6A)) || op = 0x70 || op = 0x71
  | 1 => op = 0 || (decide (0x10 ≤ op) && decide (op ≤ 0x13))
  | 2 => op = 0 || op = 0x20
  | _ => decide (1 ≤ op) && decide (op ≤ 6)

/-- The command whose turn it is ends with OPCODE, or a pool's with RESERVED, where its opcode is reserved (R271, R292, R342). -/
def State.endReserved (s : State) (q : Qn) : State :=
  match s.objs.queues.live.find? q.val with
  | none => s
  | some o =>
    match o.next with
    | none => s
    | some c =>
      if opcodeKnown o.kind c.op then s
      else
        let out : Out := match o.kind with
          | 0 => objectCmd q c.op false (2 ^ 512 - 1) (fun s _ _ => s.fail stOpcode) s
          | 3 => poolCmd q c.op (fun s _ _ _ => s.poolEnds poReserved) s
          | k => workCmd q k c.op (2 ^ 512 - 1) (fun s _ _ => s.fail stOpcode) s
        match out with | .next t => t | _ => s

/-- Does a command of a kind ask for a signal? -/
def Cmd.signals (c : Cmd) (kind : Nat) : Bool :=
  if kind = 0 then false else if kind = 3 then c.raw.getLsbD 9 else c.sig

/-- Has a command signalled before its completion entry is posted: a compute or copy command that ends OK? Its entry shows FENCE_ORDER where the bank
refuses the value (R344, R346). -/
def Cmd.told (c : Cmd) : Bool := match c.stage with | .signalling d _ => d.status = 0 | _ => false

/-- R342, R346: a compute or copy command at QDONE that ends OK signals its SIGF; its completion entry waits for the bank's answer, which may be
FENCE_ORDER (log 205). None where it has nothing to signal, or has signalled. -/
def State.signalFirst (s : State) (q : Nat) (o : QueueObj) (c : Cmd) : Option State :=
  match c.stage, c.sigf with
  | .done d, some f =>
    if d.status = 0 && (o.kind = 1 || o.kind = 2) && c.signals o.kind && c.checked then
      let id := s.nextId
      let s := (s.hold tyFence f.1).sendSignal (.command q c.seq) (s.vdOfQueue o) f.1 f.2 (BitVec.ofNat 64 (cmdField c.raw 8 8)) true
      some (s.updCmd q c.seq (fun x => { x with stage := .signalling d (some id) }))
    else none
  | _, _ => none

/-- R346: the bank's answer to the signal of a command: a refused value ends it with FENCE_ORDER. -/
def State.ackCommand (s : State) (q : Nat) (seq : W64) (id : Nat) (order : Bool) : State :=
  s.updCmd q seq (fun c =>
    match c.stage with
    | .signalling d (some i) =>
      if i = id then { c with stage := .signalling (if order then s.failed stFenceOrder kindCommand else d) none } else c
    | _ => c)

/-- R342, R347: the signal of a command that retires. It takes over the command's hold on the fence; a command that a reset stopped before
its handles were checked signals what its handle names now. -/
def State.signalCmd (s : State) (q : Nat) (o : QueueObj) (c : Cmd) (d : Done) : State :=
  if ! c.signals o.kind || c.told then s
  else
    let (f, s) : Option (Nat × Nat) × State :=
      if c.checked then (c.sigf, s)
      else match o.ctx.bind (fun x => s.fenceNamed x (BitVec.ofNat 32 (cmdField c.raw 4 4))) with
        | some f => (some f, s.hold tyFence f.1)
        | none => (none, s)
    match f with
    | none => s
    | some f =>
      let v := if d.status = 0 then BitVec.ofNat 64 (cmdField c.raw 8 8) else errorValue d.err
      s.sendSignal (.command q c.seq) (s.vdOfQueue o) f.1 f.2 v true

/-- The 32 bytes of a completion entry (R321). -/
def completionBytes (kseq cseq : W64) (q : Nat) (d : Done) : List Byte :=
  bytesLE 8 kseq.toNat ++ bytesLE 8 cseq.toNat ++ bytesLE 4 d.handle.toNat ++ bytesLE 1 d.status ++ [0] ++ bytesLE 2 q ++ bytesLE 8 d.value.toNat

/-- R323: the message of a queue's completion ring, or one owed at the end of its interval. -/
def State.queueMsix (s : State) (q : Nat) (o : QueueObj) : State :=
  let vec := s.fld .qcfg q 17 10
  if s.fld .qcfg q 27 18 = 0 then s.sendMsix o.fn vec
  else if o.moderating then s.updQueue q (fun o => { o with owed := true })
  else (s.sendMsix o.fn vec).updQueue q (fun o => { o with moderating := true, owed := false })

/-- R298: the slots of a DISPATCH's saved faulted kernels are free once it retires. -/
def State.freeFaulted (s : State) (v q : Nat) (seq : W64) : State :=
  let x := s.vd v
  s.setVd v { x with saves := x.saves.filter (fun r => ! (r.faulted && r.kernel.queue = q && r.kernel.cseq = seq)) }

/-- A command leaves its queue: its signal, its holds, its channel and its save slots. -/
def State.retireCmd (s : State) (q : Nat) (o : QueueObj) (c : Cmd) (d : Done) : State :=
  let s := s.signalCmd q o c d
  let s := s.updQueue q (fun o => { o with cmds := o.cmds.filter (fun x => x.seq ≠ c.seq) })
  -- the signal keeps the hold on its fence
  let holds := match c.signals o.kind && ! c.told && c.checked, c.sigf with
    | true, some f => c.holds.erase (tyFence, f.1)
    | _, _ => c.holds
  let s := holds.foldl (fun s h => s.unhold h.1 h.2) s
  ((s.freeFaulted (s.vdOfQueue o) q c.seq).bargePosted q c.seq).tryRelease tyQueue q

/-- R350: the ended commands of a dying context's queue leave without completion or signal. -/
def State.discardEnded (s : State) (q : Nat) (o : QueueObj) (c : Nat) : State :=
  let s := (o.cmds.filter (fun x => ! x.atWork)).foldl (fun s x => (s.discardCmd q x).bargePosted q x.seq) s
  s.tryTeardown c

/-- R351: is a virtual device quiet: no kernel runs, no command of it but a DISPATCH is at work, its rings and landing queues are empty, its
barges have retired and its pool commands have ended? -/
def State.quietVd (s : State) (v : Nat) : Bool :=
  (s.vdSpires v).all (fun n => (s.spire n).run = .free || (s.spire n).run = .halted)
    && s.objs.queues.live.cells.all (fun k =>
      k.2.ctx.isNone || s.vdOfQueue k.2 ≠ v || k.2.cmds.all (fun c => c.stage ≠ .started || (k.2.kind = 1 && c.op = 0x10)))
    && (s.vdChannels v).all (fun c => (s.basin c).ring = [] && (s.basin c).land = [])
    && s.barges.cells.all (fun k => k.2.vd ≠ v) && [0, 1].all (fun e => (s.engine e).runs.all (fun r => r.vd ≠ v))

/-- R351: the VD_FREEZE of a control queue ends when its virtual device is quiet. -/
def State.settleFreeze (s : State) (q : Nat) : State :=
  s.vds.cells.foldl
    (fun s k =>
      match (s.vd k.1).freezer with
      | some (x, seq) =>
        if x = q && s.quietVd k.1 then (s.setVd k.1 { s.vd k.1 with freezer := none }).finishCmd q seq Done.ok else s
      | none => s)
    s

/-- R320, R321: a completion entry posted in its ring, and its command retired. A ring in host memory that fails translation, or whose bus reports an
error, puts the queue in error state. -/
def State.postDone (s : State) (q : Nat) (o : QueueObj) (c : Cmd) (d : Done) (busError : Bool) : State :=
  let seq := s.reg .qdone q
  let k := s.reg .qkprod q
  let bytes := completionBytes k seq q d
  let slot := k.toNat % 2 ^ s.fld .qcfg q 9 5
  let (r, s) := s.ringAt q o (s.reg .qkbase q) (32 * slot) 32 true
  let written : Option (State × Bool) := match r with
    | .wait => none
    | .bad => some (s, false)
    -- a part of a poisoned granule takes no write (R176): the entry is held (log 195)
    | .device p => if anyPoison s.devPoison p 32 then some (s, false) else some ((s.devWrite p bytes).1, true)
    | .bus a =>
      if busError then some (s, false)
      else some ((s.hostWrite (o.fn / 64) (a + 8) (bytes.drop 8)).hostWrite (o.fn / 64) a (bytes.take 8), true)
  match written with
  | none => s
  | some (s, false) => s.queueError q 4
  | some (s, true) =>
    let s := (s.setReg .qkprod q (k + 1)).setReg .qdone q (seq + 1)
    (s.queueMsix q o).retireCmd q o c d

/-- R320: the command at QDONE, once its work has ended, signals and has its completion entry posted. A queue in error state with ERR 3 or 4 holds
both. -/
def State.retireHead (s : State) (q : Nat) (busError : Bool) : State :=
  match s.objs.queues.live.find? q with
  | none => s
  | some o =>
    let dying : Option Nat := o.ctx.bind (fun c => match s.objs.ctxs.live.find? c with | some x => if x.dying then some c else none | none => none)
    match dying with
    | some c => s.discardEnded q o c
    | none =>
      let seq := s.reg .qdone q
      let held : Bool := s.fld .qstat q 1 0 = 3 && decide (3 ≤ s.fld .qstat q 15 8)
      match o.cmds.find? (fun c => c.seq = seq) with
      | none => s
      | some c =>
        match c.stage with
        | .done d =>
          if held then s
          else match s.signalFirst q o c with
            | some t => t
            | none => s.postDone q o c d busError
        | .signalling d none => if held then s else s.postDone q o c d busError
        | _ => s

/-- R320 COMMAND_RETIRE. A head whose opcode is reserved ends first, and a VD_FREEZE whose virtual device has become quiet. -/
def execCommandRetire (r : Retirement) (s : State) : Out :=
  .next (((s.settleFreeze r.queue.val).endReserved r.queue).retireHead r.queue.val r.busError)

/-- R323 MSIX_MODERATION_EXPIRY: entries posted in the interval are covered by one message, which begins the next. -/
def execMsixModerationExpiry (q : Qn) (s : State) : Out :=
  .next (
    match s.objs.queues.live.find? q.val with
    | none => s
    | some o =>
      if ! o.moderating then s
      else if o.owed then (s.sendMsix o.fn (s.fld .qcfg q.val 17 10)).updQueue q.val (fun o => { o with owed := false })
      else s.updQueue q.val (fun o => { o with moderating := false }))

/-! ## The function page (R322, R325, R340) -/

/-- R322: a LOST entry posted as soon as there is room. -/
def State.flushLost (s : State) (fn : Nat) : State :=
  let n := s.lost.get 0 fn
  if n = 0 || ! s.statusRoom fn then s
  else
    let t := s.writeStatus fn { code := 0x0007, vdid := 0x3F, arg0 := n, arg1 := 0, arg2 := 0 }
    { t with lost := t.lost.erase fn }

/-- R470: the events of this start posted to a PF whose ring is enabled. -/
def State.postOwed (s : State) (fn : Nat) : State :=
  (s.owed.get [] fn).foldl (fun s e => s.post fn e) { s with owed := s.owed.erase fn }

/-- R322 STATUS_RING_ENABLE: FSBASE at +0x0 and FSCTL at +0x8, taken while EN is 0. A ring outside 2^6 to 2^12 entries is not enabled, and the
write counts as ignored (log 79). -/
def execStatusRingEnable (fn : Fn) (off : Nat) (v : W64) (s : State) : Out :=
  .next (
    if ! s.fnExists fn.val then s
    else if s.bit .fsctl fn.val 16 then s.bump .fndberr fn.val
    else if off = 0 then s.setReg .fsbase fn.val (BitVec.ofNat 64 (v.get 63 12 * 4096))
    else if off ≠ 8 then s.bump .fndberr fn.val
    else if v.getLsbD 16 && (decide (v.get 3 0 < 6) || decide (12 < v.get 3 0)) then s.bump .fndberr fn.val
    else
      let s := s.setReg .fsctl fn.val (v &&& 0x1FF0F#64)
      if v.getLsbD 16 then (s.flushLost fn.val).postOwed fn.val else s)

/-- R322 STATUS_CONSUMER_WRITE, under the rule of K in R319. -/
def execStatusConsumerWrite (fn : Fn) (v : W64) (s : State) : Out :=
  .next (
    if ! s.fnExists fn.val then s
    else if s.bit .fsctl fn.val 16 && seqAfter v (s.reg .fscons fn.val) && ! seqAfter v (s.reg .fsprod fn.val) then
      (s.setReg .fscons fn.val v).flushLost fn.val
    else s.bump .fndberr fn.val)

/-- R317: the registers of a queue that is created: rings, sizes, vector, moderation; it runs. -/
def State.setQueueRegs (s : State) (q : Nat) (cbase kbase : W64) (clog klog vec modi : Nat) : State :=
  let s := ((s.clearQueueRegs q).setReg .qcbase q (cbase &&& ~~~0x3E#64)).setReg .qkbase q (kbase &&& ~~~0x3E#64)
  (s.setReg .qcfg q (BitVec.ofNat 64 (clog + klog * 2 ^ 5 + vec * 2 ^ 10 + modi * 2 ^ 18))).setFld .qstat q 1 0 1

/-- R341: the ring sizes of a queue, and a vector of its function (R311). -/
def ringsOk (fn clog klog vec : Nat) : Bool :=
  decide (6 ≤ clog) && decide (clog ≤ 16) && decide (6 ≤ klog) && decide (klog ≤ 16) && decide (vec < (if fn % 64 = 0 then 256 else 64))

/-- R340 CONTROL_QUEUE_CREATE: a function page write at +0x28, +0x30 or +0x38, taken while the control queue does not exist. -/
def execControlQueueCreate (fn : Fn) (off : Nat) (v : W64) (s : State) : Out :=
  let q := fn.val
  let bases := s.objs.page.get (0, 0) fn.val
  .next (
    if ! s.fnExists fn.val then s
    else if (s.objs.queues.live.find? q).isSome then s.bump .fndberr fn.val
    else if off = 0x28 then s.setObjs { s.objs with page := s.objs.page.set fn.val (v, bases.2) }
    else if off = 0x30 then s.setObjs { s.objs with page := s.objs.page.set fn.val (bases.1, v) }
    else if off ≠ 0x38 || v.get 63 19 ≠ 0 then s.bump .fndberr fn.val
    else if ! v.getLsbD 18 then s
    else if ! ringsOk fn.val (v.get 4 0) (v.get 9 5) (v.get 17 10) then s.bump .fndberr fn.val
    else
      let gen := s.objs.queues.gens.get 0 q
      let o : QueueObj := { head := newHead gen 0x100, kind := 0, ctx := none, fn := fn.val, cmds := [], epoch := 0, moderating := false, owed := false }
      let s := s.setObjs { s.objs with queues := { s.objs.queues with live := s.objs.queues.live.set q o } }
      s.setQueueRegs q bases.1 bases.2 (v.get 4 0) (v.get 9 5) (v.get 17 10) 0)

/-- The firmware processors' ring pointers changed. -/
def State.setFw (s : State) (f : Fw) : State := { s with fw := f }

/-- R325 FW_REQUEST_PRODUCER: under the rules of R319; a value beyond the ring, or stale, is ignored and counted. -/
def execFwRequestProducer (fn : Fn) (v : W64) (s : State) : Out :=
  let p := fn.val / 64
  .next (
    if ! s.fnExists fn.val then s
    else if fn.val % 64 = 0 && seqAfter v (s.fw.reqProd.getD p 0) && ! seqAfter v (s.fw.reqCons.getD p 0 + 256) then
      s.setFw { s.fw with reqProd := s.fw.reqProd.set p v }
    else s.bump .fndberr fn.val)

/-- R325 FW_RESPONSE_CONSUMER. -/
def execFwResponseConsumer (fn : Fn) (v : W64) (s : State) : Out :=
  let p := fn.val / 64
  .next (
    if ! s.fnExists fn.val then s
    else if fn.val % 64 = 0 && seqAfter v (s.fw.rspCons.getD p 0) && ! seqAfter v (s.fw.rspProd.getD p 0) then
      s.setFw { s.fw with rspCons := s.fw.rspCons.set p v }
    else s.bump .fndberr fn.val)

/-! ## BAR0 (R315) -/

/-- Does a place of BAR0 hold a 64-bit register, whose halves latch (R315): not two entries of the routing tables, nor bytes of a ring? -/
def latching (off : Nat) : Bool :=
  decide (off < ringArea) && (bar0Regs off).all (fun x => x.1 ≠ .cngrt && x.1 ≠ .cnmbt)

/-- R315 BAR0_READ_LATCH: a read of 4 or 8 bytes; what it returns stands in `shown`. -/
def execBar0ReadLatch (fn : Fn) (off width : Nat) (s : State) : Out :=
  let base := off / 8 * 8
  let w := s.bar0Word fn.val base
  let key := 2 ^ 26 * fn.val + off
  .next (
    if ! s.fnExists fn.val || off % width ≠ 0 || decide (0x4000000 ≤ off) then s
    else if width = 8 then { s with shown := bytesLE 8 w.toNat }
    else if width ≠ 4 then s
    else if off % 8 = 0 then
      let s := { s with shown := bytesLE 4 w.toNat }
      if latching base then { s with latches := s.latches.set (key + 4) (w >>> 32) } else s
    else match s.latches.find? key with
      | some h => { s with shown := bytesLE 4 h.toNat, latches := s.latches.erase key }
      | none => { s with shown := bytesLE 4 (w.toNat / 2 ^ 32) })

/-- R5, R315 REGISTER_WRITE: firmware writes a place over the towpath, BAR0's or another (log 182); a host writes its own counters and, as a PF, the firmware ring area, and
any other write is ignored and counted. -/
def execRegisterWrite (who : Writer) (off : Nat) (v : W64) (s : State) : Out :=
  .next (
    match who with
    | .firmware => if off % 8 ≠ 0 then s else if off < 0x4000000 then s.writePlace off v (BitVec.allOnes 64) else s.writeTow off v
    | .host fn =>
      if ! s.fnExists fn.val then s
      else match if off % 8 = 0 then functionBlock[off / 8]? else none with
        | some r =>
          if functionCounters.contains r then s.setReg r fn.val (mergeWrite r false (s.reg r fn.val) v (BitVec.allOnes 64))
          else s.bump .fnwign fn.val
        | none =>
          if fn.val % 64 = 0 && decide (ringArea ≤ off) && decide (off < ringArea + ringAreaBytes) && off % 8 = 0 then
            let m := s.fw.rings.get .zero (fn.val / 64)
            s.setFw { s.fw with rings := s.fw.rings.set (fn.val / 64) (m.writeLE (off - ringArea) 8 v.toNat) }
          else s.bump .fnwign fn.val)

/-! ## BAR4 (R324, R326) -/

/-- R324, R467: the bytes of an aperture of a port's functions. -/
def State.apertureBytes (s : State) (port : Nat) : Nat := 2 ^ (16 + (s.fw.hostCfg.getD port (63, 0, false)).2.1)

/-- What one piece of a BAR4 access meets. -/
inductive Bar4 where
  | at (named phys vd : Nat)
  | unmapped (ap vd : Nat)

/-- R326: is an address out of reach of a port: across a failed lock? -/
def State.beyondLock (s : State) (port a : Nat) : Bool := s.bit .chg 0 1 && towerOfAddr a ≠ some port

/-- The bytes of an extent (R163, R169). -/
def State.extentBytes (s : State) (x : Extent) : Nat :=
  match x with
  | .channel _ => chanBytes
  | .set slot => (s.members slot).length * chanBytes
  | .segment _ => 2 ^ 33

/-- The device address of an extent's first byte (R163). -/
def extentBase (x : Extent) : Nat :=
  match x with
  | .channel ch => nearAddr ch 0
  | .set slot => windowBase + slot * 2 ^ 37
  | .segment e => farAddr e 0

/-- R167: the device address of a carve-out offset in a list of extents. -/
def State.extentsAt (s : State) : List (Extent × Nat) → Nat → Option Nat
  | [], _ => none
  | x :: l, off => if off < s.extentBytes x.1 then some (extentBase x.1 + off) else s.extentsAt l (off - s.extentBytes x.1)

/-- The sealed carve-out of an owner. -/
def State.sealedCarve (s : State) (owner k : Nat) : Option Carve :=
  match (s.vd owner).carves.find? k with
  | some c => if c.sealed then some c else none
  | none => none

/-- The device address that a bound aperture's place names. -/
def State.apertureAddr (s : State) (a : Aperture) (off : Nat) : Option Nat :=
  match s.objs.mems.live.find? a.mem with
  | none => none
  | some m =>
    if m.kind = 2 then (s.sealedCarve m.ownerVd m.carve).bind (fun c => s.extentsAt c.extents (a.addr + off)) else some (a.addr + off)

/-- R324: the check of one piece at a BAR4 offset. -/
def State.bar4At (s : State) (fn off : Nat) (write : Bool) : Bar4 :=
  let size := s.apertureBytes (fn / 64)
  let i := off / size
  match (if i < 4096 then s.objs.aps.find? (4096 * fn + i) else none).bind (fun a => (s.apertureAddr a (off % size)).map (fun n => (a, n))) with
  | none => .unmapped i 0x3F
  | some (a, named) =>
    match s.rangeCheck a.vd named write with
    | .at p => if s.beyondLock (fn / 64) p then .unmapped i a.vd else .at named p a.vd
    | _ => .unmapped i a.vd

/-- A BAR4 offset range cut at the apertures, and each part at the 64-byte granules of the device addresses it names (R225). -/
def State.bar4Cuts (s : State) (fn off n : Nat) : List (Nat × Nat) :=
  let size := s.apertureBytes (fn / 64)
  (cutFrom size (n / size + 2) off n).flatMap
    (fun g => match s.objs.aps.find? (4096 * fn + g.1 / size) with
      | none => [g]
      | some a =>
        let d := a.addr + g.1 % size
        (granules d g.2).map (fun x => (g.1 + (x.1 - d), x.2)))

/-- R326: an access to an unmapped or unreachable place told. -/
def State.tellUnmapped (s : State) (fn i v off : Nat) : State :=
  (s.bump .fnunmap fn).post fn { code := 0x0006, vdid := v, arg0 := i, arg1 := off, arg2 := 0 }

/-- What the parts of a BAR4 access meet, each with its offset and length. -/
def State.bar4Parts (s : State) (fn off n : Nat) (write : Bool) : List ((Nat × Nat) × Bar4) :=
  (s.bar4Cuts fn off n).map (fun g => (g, s.bar4At fn g.1 write))

/-- R316, R326: an access with an unmapped part told, once, of the first. -/
def State.tellStray (s : State) (fn : Nat) (l : List ((Nat × Nat) × Bar4)) : State :=
  match l.findSome? (fun (x : (Nat × Nat) × Bar4) => match x.2 with | .unmapped i v => some (i, v, x.1.1) | _ => none) with
  | some (i, v, off) => s.tellUnmapped fn i v off
  | none => s

/-- R132, R326 BAR4_READ: the bytes stand in `shown`, the completion's EP bit in `ep`. A poisoned granule makes the whole completion all ones; an
unmapped part reads all ones. -/
def execBar4Read (fn : Fn) (off n : Nat) (s : State) : Out :=
  .next (
    if ! s.fnExists fn.val then s
    else
      let parts := s.bar4Parts fn.val off n false
      let places := parts.filterMap (fun (x : (Nat × Nat) × Bar4) => match x.2 with | .at _ p _ => some (p, x.1.2) | _ => none)
      s.touching false places (fun s =>
        let bytes := parts.flatMap (fun (x : (Nat × Nat) × Bar4) => match x.2 with
          | .at _ p _ => (s.devRead p x.1.2).1
          | .unmapped _ _ => List.replicate x.1.2 0xFF)
        let bad := parts.findSome? (fun (x : (Nat × Nat) × Bar4) => match x.2 with
          | .at named p v => if (s.devRead p x.1.2).2 then some (named, v) else none
          | .unmapped _ _ => none)
        let s := s.tellStray fn.val parts
        match bad with
        | some (named, v) => { s.tellPoison fn.val v named with shown := List.replicate n 0xFF, ep := true }
        | none => { s with shown := bytes, ep := false }))

/-- R326 BAR4_WRITE: posted, granule by granule; an unmapped part is discarded. -/
def execBar4Write (fn : Fn) (off : Nat) (data : List Byte) (s : State) : Out :=
  .next (
    if ! s.fnExists fn.val then s
    else
      let parts := s.bar4Parts fn.val off data.length true
      let access := s.nextId
      let s := parts.foldl
        (fun (s : State) (x : (Nat × Nat) × Bar4) =>
          match x.2 with
          | .unmapped _ _ => s
          | .at named p v =>
            let (id, s) := s.fresh
            let w : HostWrite := { id := id, fn := fn.val, addr := named, vd := v, access := access, told := false }
            let s := { s with hostWrites := s.hostWrites ++ [w] }
            s.send (plainReq id (.host fn.val) v 0 (.dev p) named (.write ((data.drop (x.1.1 - off)).take x.1.2))))
        s
      s.tellStray fn.val parts)

/-! ## Function level reset (R312, R340) -/

/-- A queue that is removed while commands of it still run: what they answer to is gone, and a number that no queue has stands for it. -/
def State.orphan (s : State) (q : Nat) : State :=
  let (id, s) := s.fresh
  let d := 4096 + id
  let swap (x : Nat) : Nat := if x = q then d else x
  let swapO (x : Option (Nat × W64)) : Option (Nat × W64) := x.map (fun y => (swap y.1, y.2))
  let slice (l : Slice) : Slice := { l with leaving := l.leaving.map (fun y => (swap y.1, y.2)) }
  let vd (x : VdState) : VdState := { x with slices := x.slices.map slice, freezer := swapO x.freezer }
  let o := s.objs
  { s with
    vds := ⟨s.vds.cells.map (fun c => (c.1, vd c.2))⟩,
    evacs := ⟨s.evacs.cells.map (fun c => (c.1, { c.2 with queue := swap c.2.queue }))⟩,
    joins := s.joins.map (fun j => { j with queue := swap j.queue }),
    trans := { s.trans with invals := s.trans.invals.map (fun i => { i with queue := swap i.queue }) },
    objs := { o with ctxs := { o.ctxs with live := ⟨o.ctxs.live.cells.map (fun c => (c.1, { c.2 with killer := swapO c.2.killer }))⟩ } } }

/-- R312: a function's control queue removed. -/
def State.dropControl (s : State) (fn : Nat) : State :=
  match s.objs.queues.live.find? fn with
  | none => s
  | some o =>
    let s := o.cmds.foldl (fun s c => s.discardCmd fn c) s
    let s := s.orphan fn
    let s := s.setObjs { s.objs with queues := { s.objs.queues.raise fn with live := s.objs.queues.live.erase fn } }
    s.clearQueueRegs fn

/-- R312, R316, R333: one function reset: its contexts torn down, its control queue removed, its function block at reset, its doorbells
forgotten. -/
def State.resetFunction (s : State) (fn : Nat) : State :=
  let mine := (s.objs.ctxs.live.cells.filter (fun k => k.2.fn = fn && ! k.2.head.freed)).map (·.1)
  let s := mine.foldl (fun s c => s.teardown c s.abandoned none) s
  let s := s.dropControl fn
  let s := functionBlock.foldl (fun s r => s.rstReg r fn) s
  { s with
    bells := s.bells.filter (fun b => b.fn ≠ fn), hostWrites := s.hostWrites.filter (fun w => w.fn ≠ fn), lost := s.lost.erase fn,
    latches := ⟨s.latches.cells.filter (fun c => c.1 / 2 ^ 26 ≠ fn)⟩,
    objs := { s.objs with page := s.objs.page.erase fn } }

/-- R312: a PF's reset: itself, its VFs, which are disabled. -/
def State.resetPf (s : State) (port : Nat) : State :=
  let s := (upFrom (64 * port) 64).foldl State.resetFunction s
  s.setFw { s.fw with vfs := s.fw.vfs.set port 0 }

/-- R312 FUNCTION_LEVEL_RESET. -/
def execFunctionLevelReset (fn : Fn) (s : State) : Out :=
  .next (if ! s.fnExists fn.val then s else if fn.val % 64 = 0 then s.resetPf (fn.val / 64) else s.resetFunction fn.val)

/-- R312 LINK_DOWN: a link-down or hot reset acts as a function level reset of the port's PF. -/
def execLinkDown (port : Port) (s : State) : Out :=
  .next ({ s with power := { s.power with linkUp := s.power.linkUp.set port.val false } }.resetPf port.val)

/-- R311, R467 VF_ENABLE: the PF enables VFs 1 to n, or none; those that it disables are reset. More than TotalVFs is not enabled (log 80). -/
def execVfEnable (port : Port) (n : Fin 64) (s : State) : Out :=
  let p := port.val
  let old := s.fw.vfs.getD p 0
  .next (
    if (s.fw.hostCfg.getD p (63, 0, false)).1 < n.val then s
    else
      let s := (upFrom (64 * p + n.val + 1) (old - n.val)).foldl State.resetFunction s
      s.setFw { s.fw with vfs := s.fw.vfs.set p n.val })

/-! ## Module commands (R328) -/

/-- R328 REG_WRITE. -/
def execRegWrite (q : Qn) (s : State) : Out :=
  bindCmd q 0x20 (byteMask [(8, 4), (16, 16)])
    (fun s o c =>
      let off := cmdField c.raw 8 4
      let v := BitVec.ofNat 64 (cmdField c.raw 16 8)
      let mask := BitVec.ofNat 64 (cmdField c.raw 24 8)
      if off % 8 ≠ 0 then s.fail stOperand
      else if off < 0x1000 then
        match functionBlock[off / 8]? with
        | none => s.fail stOperand
        | some r =>
          if functionCounters.contains r then (s.setReg r o.fn (mergeWrite r false (s.reg r o.fn) v mask)).okay else s.fail stNotDynamic
      else match bar0Regs off with
        | [] => s.fail stOperand
        | l =>
          if ! l.all (fun x => s.dynamic off x.1) then s.fail stNotDynamic
          else match l with
            | [(.chcfg, ch, _)] => (s.writeState ch v mask).okay
            | _ => (s.writePlace off v mask).okay)
    s

/-- R328 PEER_RESET: DOWN cleared, and RESYNC sent (R257, R258). -/
def execPeerReset (q : Qn) (s : State) : Out :=
  bindCmd q 0x21 (byteMask [(8, 2)])
    (fun s _ c =>
      let node := cmdField c.raw 8 2
      if ! s.bit .cnpdown node 0 then s.okay
      else
        let s := s.setReg .cnpdown node 0
        (((s.setPeer node { s.peer node with synced := false }).resyncFirst node).poolNodeUp node).okay)
    s

/-- R328, R331 CHARGE_MOVE: charge goes to the other scheduler core. -/
def execChargeMove (q : Qn) (s : State) : Out :=
  bindCmd q 0x22 0
    (fun s _ _ =>
      let h := s.fld .chg 0 0 0
      if s.bit .chg 0 1 then s.fail stSplit
      else if s.procState (3 - h) ≠ 1 then s.fail stBusy
      else (s.grantCharge (1 - h)).okay)
    s

end Sys2Proof.Machine
end

