-- ==== Sys2Proof/Machine/Acks.lean ====
section
/-! DEFINITION. Acknowledgements of writes (R535) and of fence signals (R346, R534), delivered to whoever made them. -/

namespace Sys2Proof.Machine

/-- What an acknowledgement does to the agent that made the write. -/
def State.ackAgent (s : State) (a : Agent) (id : Nat) (st : AccStatus) : State :=
  match a with
  | .spire n => s.ackSpire n id st
  | .basin c => s.ackBasin c id st
  | .barge b => s.bargeEnds b id st []
  | .canal node seq => s.ackCanal node seq id st
  | .host fn => s.ackHost fn id st
  | .pool e => s.ackPool e id st
  | .evac _ => s
  | .command _ _ => s
  | .firmware => s

/-- R230, R232, R535 WRITE_ACK_ARRIVAL: the acknowledgement of a write reaches its writer, and what the source held for it leaves, or is
discarded. That of a combined packet is its router's (COMBINED_ACK, R214). -/
def execWriteAckArrival (id : Nat) (s : State) : Out :=
  .next (
    match s.net.acks.find? (fun a => a.id = id) with
    | none => s
    | some a =>
      if s.net.combined.any (fun c => c.1 = id) then s
      else
        let s := s.setNet { s.net with acks := s.net.acks.filter (fun x => x.id ≠ id) }
        (s.ackAgent a.agent id a.status).acknowledged id a.status)

/-- R534: the bank's answer as a number: 0 applied, 1 fence freed, 2 FENCE_ORDER. -/
def SigResult.num : SigResult → Nat
  | .applied => 0 | .freed => 1 | .order => 2

/-- R346, R534 FENCE_SIGNAL_APPLY: a signal reaches the bank of its fence and is applied; its answer starts back, and its hold on the
storage ends. -/
def execFenceSignalApply (id : Nat) (s : State) : Out :=
  .next (
    match s.net.signals.find? (fun g => g.id = id) with
    | none => s
    | some g =>
      if g.deps ≠ [] then s
      else
        let s := s.setNet { s.net with signals := s.net.signals.filter (fun x => x.id ≠ id) }
        let (r, s) := s.applySignal g.slot g.gen g.value g.holds
        let st := ((s.fence g.slot).map (·.status)).getD 0
        let s := s.setNet { s.net with sigAcks := s.net.sigAcks ++ [⟨id, g.agent, r.num, st⟩] }
        if g.holds then s.unhold tyFence g.slot else s)

/-- R120, R254, R534 FENCE_ACK: the bank's answer reaches the signaller: an FSIGNAL completes, with HANDLE where its fence has been freed and
FENCE_ORDER, detailed with the fence's status, where the value was refused; a FENCE packet is resolved; a queue command may retire (R344). -/
def execFenceAck (id : Nat) (s : State) : Out :=
  .next (
    match s.net.sigAcks.find? (fun a => a.id = id) with
    | none => s
    | some a =>
      let s := s.setNet { s.net with sigAcks := s.net.sigAcks.filter (fun x => x.id ≠ id) }
      match a.agent with
      | .spire n =>
        match (s.spire n).tq.find? (fun (e : QEntry) => e.waiting.contains id) with
        | none => s
        | some e =>
          if a.result = 0 then s.tileGone n .tq e true
          else if a.result = 1 then s.tileFault n .tq e .completion Cause.handle 0 0 0
          else s.tileFault n .tq e .completion Cause.fenceOrder 0 0 a.status.toNat
      | .canal node seq => s.ackCanal node seq id (if a.result = 0 then .ok else if a.result = 1 then .handle else .fenceOrder)
      | .command q seq => s.ackCommand q seq id (a.result = 2)
      | _ => s)

end Sys2Proof.Machine
end

