-- ==== Sys2Proof/Machine/Objects.lean ====
section
/-! DEFINITION. Object commands of control queues (chapter 13): contexts, queues, memory objects and apertures, fences, event
sources, export and import, release, grants, freezing and thawing. -/

namespace Sys2Proof.Machine

/-! ## What a command names -/

/-- A 32-bit handle field of a command. -/
def Cmd.handle (c : Cmd) (off : Nat) : BitVec 32 := BitVec.ofNat 32 (cmdField c.raw off 4)

/-- Is a context live, and not being torn down? -/
def State.ctxLives (s : State) (c : Nat) : Bool :=
  match s.objs.ctxs.live.find? c with
  | some x => ! x.head.freed && ! x.dying
  | none => false

/-- The contexts through which a function's object commands reach objects (R335): its own that live. -/
def State.fnHas (s : State) (fn c : Nat) : Bool := s.ctxLives c && decide (s.fnOfCtx c = fn)

/-- R335: a context of the submitting function that a handle names. -/
def State.ctxNamed (s : State) (o : QueueObj) (h : BitVec 32) : Option Nat :=
  let i := handleIndex h
  match s.objs.ctxs.live.find? i with
  | some x => if handleType h = tyCtx && x.head.gen = handleGen h && s.fnHas o.fn i then some i else none
  | none => none

/-- R335: an object of a type that a handle names, reached through any context of the submitting function. -/
def State.objNamed (s : State) (o : QueueObj) (ty : Nat) (h : BitVec 32) : Option Nat := s.named ty h (s.fnHas o.fn)

/-- A memory object, and its context's virtual device. -/
def State.mem? (s : State) (m : Nat) : Option MemObj := s.objs.mems.live.find? m

/-- R308: a command that names a virtual device in reset holds its head until the reset ends. -/
def State.vdResetting (s : State) (v : Nat) : Bool := v < 63 && s.vdState v = 2

/-! ## Contexts (R344, R350, R357) -/

/-- R357: the layout of a translation root. -/
def State.rootOk (s : State) (root : W64) : Bool :=
  let mode := root.get 3 0
  decide (mode ≤ 4) && root.get 11 8 = 0
    && (if mode = 4 then
        (s.trans.pdesc.get 0 (root.get 7 4)).getLsbD 49 && parOk (s.trans.pdesc.get 0 (root.get 7 4))
      else root.get 7 4 = 0)

/-- R401: the lowest free privileged slot. -/
def State.freePriv (s : State) : Option Nat := (upFrom 0 16).find? (fun k => ! s.bit .scpriv k 8)

/-- R401: a context takes privileged slot `k`. -/
def State.takePriv (s : State) (k c : Nat) : State :=
  ((s.setReg .scpriv k (BitVec.ofNat 64 (c + 256))).rstReg .scqwait k).rstReg .scpre k

/-- R344: is the virtual device granted to the function? A PF always has it. -/
def State.granted' (s : State) (fn v : Nat) : Bool := fn % 64 = 0 || (s.objs.grants.find? (64 * fn + v)).isSome

/-- R344 CTX_CREATE. -/
def execCtxCreate (q : Qn) (s : State) : Out :=
  objectCmd q 0x40 false (byteMask [(8, 1), (10, 2), (16, 8)] ||| (1 <<< 72))
    (fun s o c =>
      let v := cmdField c.raw 8 1
      let drain := cmdField c.raw 10 2
      let root := BitVec.ofNat 64 (cmdField c.raw 16 8)
      let priv := c.raw.getLsbD 72
      if s.bit .sustat 0 8 then s.fail stNoImage
      else if s.vdResetting v then (s, .hold)
      else if ! s.vdActive v then s.fail stVdid
      else if ! s.granted' o.fn v then s.fail stGrant
      else if ! s.rootOk root || ! ((decide (1 ≤ drain) && decide (drain ≤ 10000)) || drain = 0xFFFF) then s.fail stOperand
      else if priv && s.freePriv.isNone then s.fail stLimit
      else match s.objs.ctxs.take 256 with
        | none => s.fail stFull
        | some (i, t) =>
          let gen := t.gens.get 0 i
          let k := if priv then s.freePriv else none
          let x : Ctx := { head := newHead gen 0x100, fn := o.fn, vd := v, priv := k, drain := if drain = 0xFFFF then 10 else drain, root := root,
                           dying := false, killer := none, doom := 0 }
          let s := s.setObjs { s.objs with ctxs := { t with live := t.live.set i x } }
          let s := match k with | some k => s.takePriv k i | none => s
          s.okay 0 (handleOf tyCtx gen i))
    s

/-- R343, R350 CTX_DESTROY: it ends when step 4 of the teardown is done. -/
def execCtxDestroy (q : Qn) (s : State) : Out :=
  objectCmd q 0x41 false (byteMask [(8, 4)])
    (fun s o c =>
      match s.ctxNamed o (c.handle 8) with
      | none => s.fail stHandle
      | some x =>
        -- started before the teardown, which may end at once
        let s := (s.nameHandles q.val c [(tyCtx, x)]).updCmd q.val c.seq (fun y => { y with stage := .started })
        (s.teardown x s.abandoned (some (q.val, c.seq)), .running))
    s

/-! ## Queues (R317, R341, R344) -/

/-- R341 Q_CREATE. -/
def execQCreate (q : Qn) (s : State) : Out :=
  let base := (2 ^ 64 - 0x40 + 1)
  objectCmd q 0x42 false (byteMask [(8, 4), (12, 1), (13, 1), (14, 1), (15, 1), (32, 2)] ||| (base <<< 128) ||| (base <<< 192))
    (fun s o c =>
      match s.ctxNamed o (c.handle 8) with
      | none => s.fail stHandle
      | some x =>
        let kind := cmdField c.raw 12 1
        let clog := cmdField c.raw 13 1
        let klog := cmdField c.raw 14 1
        let vec := cmdField c.raw 15 1
        let modi := cmdField c.raw 32 2
        if kind < 1 || decide (3 < kind) || ! ringsOk o.fn clog klog vec || decide (1023 < modi) then s.fail stOperand
        else match s.objs.queues.take 4096 with
          | none => s.fail stFull
          | some (i, t) =>
            let gen := t.gens.get 0 i
            let n : QueueObj := { head := newHead gen x, kind := kind, ctx := some x, fn := o.fn, cmds := [], epoch := 0, moderating := false,
                                  owed := false }
            let s := s.setObjs { s.objs with queues := { t with live := t.live.set i n } }
            let s := s.setQueueRegs i (BitVec.ofNat 64 (cmdField c.raw 16 8)) (BitVec.ofNat 64 (cmdField c.raw 24 8)) clog klog vec modi
            let s := (s.hold tyCtx x).nameHandles q.val c [(tyCtx, x)]
            s.okay 0 (handleOf tyQueue gen i))
    s

/-- A fetched command that has not started ends CANCELLED (R344). -/
def State.cancelCmd (s : State) (q : Nat) (c : Cmd) : State :=
  match c.stage with
  | .waiting => s.finishCmd q c.seq ⟨stCancelled, 0, 0, s.errStatus kindCancelled 0⟩
  | _ => s

/-- R344 Q_STOP: fetch ends; with MODE 1 what has not started is cancelled. VALUE is QCCONS. -/
def execQStop (q : Qn) (s : State) : Out :=
  objectCmd q 0x43 false (byteMask [(8, 4), (12, 1)])
    (fun s o c =>
      match s.objNamed o tyQueue (c.handle 8) with
      | none => s.fail stHandle
      | some i =>
        let mode := cmdField c.raw 12 1
        if 1 < mode then s.fail stOperand
        else
          let s := s.nameHandles q.val c [(tyQueue, i)]
          let s := if s.fld .qstat i 1 0 = 1 then s.setFld .qstat i 1 0 2 else s
          let s := if mode = 0 then s else match s.objs.queues.live.find? i with
            | some t => t.cmds.foldl (fun s x => s.cancelCmd i x) s
            | none => s
          s.okay (s.reg .qccons i))
    s

/-- R344 Q_START: a stopped queue fetches again from QCCONS. A queue in another state stays as it is (log 81). -/
def execQStart (q : Qn) (s : State) : Out :=
  objectCmd q 0x44 false (byteMask [(8, 4)])
    (fun s o c =>
      match s.objNamed o tyQueue (c.handle 8) with
      | none => s.fail stHandle
      | some i =>
        let s := s.nameHandles q.val c [(tyQueue, i)]
        (if s.fld .qstat i 1 0 = 2 then s.setFld .qstat i 1 0 1 else s).okay)
    s

/-- R344 Q_RESET. -/
def execQReset (q : Qn) (s : State) : Out :=
  objectCmd q 0x45 false (byteMask [(8, 4), (16, 8)])
    (fun s o c =>
      match s.objNamed o tyQueue (c.handle 8) with
      | none => s.fail stHandle
      | some i =>
        let n := BitVec.ofNat 64 (cmdField c.raw 16 8)
        let st := s.fld .qstat i 1 0
        if (st ≠ 2 && st ≠ 3) || s.reg .qdone i ≠ s.reg .qccons i || ! seqAfter n (s.reg .qcprod i) then s.fail stOperand
        else
          let s := s.nameHandles q.val c [(tyQueue, i)]
          let s := ((s.setReg .qcprod i n).setReg .qccons i n).setReg .qdone i n
          ((s.setFld .qstat i 1 0 2).setFld .qstat i 15 8 0).okay)
    s

/-! ## Memory objects and apertures (R324, R344) -/

/-- Does a whole range lie in a virtual device's own ranges (R166)? -/
def State.ownsRange (s : State) (v a n : Nat) : Bool :=
  (granules a n).all (fun g => (s.ownAt v g.1).isSome && (s.ownAt v (g.1 + g.2 - 1)).isSome)

/-- R344: is the range of a new memory object good? One of device memory lies within the context's virtual device, a shared one in a sealed carve-out
of its owner. -/
def State.memRangeOk (s : State) (v kind carve owner base len : Nat) : Bool :=
  len ≠ 0 && (match kind with
    | 0 => s.ownsRange v base len
    | 1 => base % 4096 = 0 && len % 4096 = 0 && decide (base + len ≤ 2 ^ 57)
    | _ => decide (owner < 63) && (match s.sealedCarve owner carve with
      | some k => decide (base + len ≤ k.extents.foldl (fun n x => n + s.extentBytes x.1) 0)
      | none => false))

/-- R344 MEM_CREATE. -/
def execMemCreate (q : Qn) (s : State) : Out :=
  objectCmd q 0x46 false (byteMask [(8, 4), (12, 3), (16, 16)])
    (fun s o c =>
      match s.ctxNamed o (c.handle 8) with
      | none => s.fail stHandle
      | some x =>
        let kind := cmdField c.raw 12 1
        let carve := cmdField c.raw 13 1
        let owner := cmdField c.raw 14 1
        let base := cmdField c.raw 16 8
        let len := cmdField c.raw 24 8
        if decide (2 < kind) || (kind ≠ 2 && (carve ≠ 0 || owner ≠ 0)) then s.fail stOperand
        else if ! s.memRangeOk (s.vdOfCtx x) kind carve owner base len then s.fail stRange
        else match s.objs.mems.take 262144 with
          | none => s.fail stFull
          | some (i, t) =>
            let gen := t.gens.get 0 i
            let m : MemObj := { head := newHead gen x, kind := kind, base := base, len := len, carve := carve, ownerVd := owner }
            let s := s.setObjs { s.objs with mems := { t with live := t.live.set i m } }
            (s.nameHandles q.val c [(tyCtx, x)]).okay 0 (handleOf tyMem gen i))
    s

/-- R344 MEM_MAP: apertures of the submitting function bound in turn; each holds the object (R337). -/
def execMemMap (q : Qn) (s : State) : Out :=
  objectCmd q 0x47 false (byteMask [(8, 4), (12, 4), (16, 8)])
    (fun s o c =>
      match s.objNamed o tyMem (c.handle 8) with
      | none => s.fail stHandle
      | some i =>
        match s.mem? i with
        | none => s.fail stHandle
        | some m =>
          let first := cmdField c.raw 12 2
          let n := cmdField c.raw 14 2
          let off := cmdField c.raw 16 8
          let size := s.apertureBytes (o.fn / 64)
          let v := s.vdOfCtx m.head.owner
          let x := ((m.head.owner :: m.head.imports).find? (fun y => s.fnOfCtx y = o.fn)).getD m.head.owner
          let key (k : Nat) : Nat := 4096 * o.fn + first + k
          if m.kind = 1 || s.confidential v || n = 0 || decide (4096 < first + n) || decide (m.len < off + n * size)
              || (upFrom 0 n).any (fun k => (s.objs.aps.find? (key k)).isSome) then s.fail stOperand
          else
            let bind (s : State) (k : Nat) : State :=
              (s.setObjs { s.objs with aps := s.objs.aps.set (key k) ⟨i, m.base + off + k * size, v, x⟩ }).hold tyMem i
            ((upFrom 0 n).foldl bind (s.nameHandles q.val c [(tyMem, i)])).okay)
    s

/-- R343 MEM_UNMAP: the apertures unbound; one that is not bound is left so (log 82). -/
def execMemUnmap (q : Qn) (s : State) : Out :=
  objectCmd q 0x48 false (byteMask [(12, 4)])
    (fun s o c =>
      let first := cmdField c.raw 12 2
      let n := cmdField c.raw 14 2
      if 4096 < first + n then s.fail stOperand
      else
        let unbind (s : State) (k : Nat) : State :=
          match s.objs.aps.find? (4096 * o.fn + k) with
          | some a => (s.setObjs { s.objs with aps := s.objs.aps.erase (4096 * o.fn + k) }).unhold tyMem a.mem
          | none => s
        ((upFrom first n).foldl unbind s).okay)
    s

/-! ## Fences and event sources (R345 to R349) -/

/-- R346 FENCE_CREATE. -/
def execFenceCreate (q : Qn) (s : State) : Out :=
  objectCmd q 0x49 false (byteMask [(8, 4), (16, 16)])
    (fun s o c =>
      match s.ctxNamed o (c.handle 8) with
      | none => s.fail stHandle
      | some x =>
        let v := BitVec.ofNat 64 (cmdField c.raw 16 8)
        let mirror := cmdField c.raw 24 8
        if ! normalValue v || mirror % 16 ≠ 0 then s.fail stOperand
        else match s.objs.fences.take 16384 with
          | none => s.fail stFull
          | some (i, t) =>
            let gen := t.gens.get 0 i
            let f : FenceObj := { head := newHead gen x, value := v, status := 0, mirror := mirror, fwd := .empty }
            let s := s.setObjs { s.objs with fences := { t with live := t.live.set i f } }
            (s.nameHandles q.val c [(tyCtx, x)]).okay 0 (handleOf tyFence gen i))
    s

/-- R347 FENCE_LINK: a forward slot set or cleared. A fence that carries an error already forwards it at once (log 83). -/
def execFenceLink (q : Qn) (s : State) : Out :=
  objectCmd q 0x4A false (byteMask [(8, 4), (12, 2), (16, 4), (20, 1)])
    (fun s o c =>
      match s.objNamed o tyFence (c.handle 8) with
      | none => s.fail stHandle
      | some i =>
        match s.fence i with
        | none => s.fail stHandle
        | some f =>
          let node := cmdField c.raw 12 2
          let remote := c.handle 16
          let slot := cmdField c.raw 20 1
          let v := s.vdOfCtx f.head.owner
          if 3 < slot then s.fail stOperand
          else if remote = 0 then
            ((s.nameHandles q.val c [(tyFence, i)]).setFence i
              { f with head := { f.head with dref := f.head.dref + 1 }, fwd := f.fwd.erase slot }).okay
          else if ! s.isPeer v node then s.fail stOperand
          else
            let s := (s.nameHandles q.val c [(tyFence, i)]).setFence i
              { f with head := { f.head with dref := f.head.dref + 1 }, fwd := f.fwd.set slot (node, remote) }
            (if f.status = 0 then s else s.forward i v f.status (node, remote)).okay)
    s

/-- R346 FENCE_RESET: the value raised, the status cleared, the mirror written, nobody signalled. -/
def execFenceReset (q : Qn) (s : State) : Out :=
  objectCmd q 0x4B false (byteMask [(8, 4), (16, 8)])
    (fun s o c =>
      match s.objNamed o tyFence (c.handle 8) with
      | none => s.fail stHandle
      | some i =>
        match s.fence i with
        | none => s.fail stHandle
        | some f =>
          let v := BitVec.ofNat 64 (cmdField c.raw 16 8)
          if ! normalValue v || v.ult f.value then s.fail stOperand
          else
            let f := { f with head := { f.head with dref := f.head.dref + 1 }, value := v, status := 0 }
            ((((s.nameHandles q.val c [(tyFence, i)]).setFence i f)).mirrorFence f).okay)
    s

/-- R343 EVENT_CREATE. -/
def execEventCreate (q : Qn) (s : State) : Out :=
  objectCmd q 0x4C false (byteMask [(8, 4), (12, 1), (16, 8)])
    (fun s o c =>
      match s.ctxNamed o (c.handle 8) with
      | none => s.fail stHandle
      | some x =>
        let vec := cmdField c.raw 12 1
        let mirror := cmdField c.raw 16 8
        if mirror % 8 ≠ 0 || (o.vf && decide (64 ≤ vec)) then s.fail stOperand
        else match s.objs.events.take 2048 with
          | none => s.fail stFull
          | some (i, t) =>
            let gen := t.gens.get 0 i
            let e : EventObj := { head := newHead gen x, vec := vec, mirror := mirror, count := 0 }
            let s := s.setObjs { s.objs with events := { t with live := t.live.set i e } }
            (s.nameHandles q.val c [(tyCtx, x)]).okay 0 (handleOf tyEvent gen i))
    s

/-- R349 FENCE_NOTIFY: armed, or fired at once where the condition holds already. -/
def execFenceNotify (q : Qn) (s : State) : Out :=
  objectCmd q 0x4D false (byteMask [(8, 8), (16, 8)])
    (fun s o c =>
      match s.objNamed o tyFence (c.handle 8), s.objNamed o tyEvent (c.handle 12) with
      | some i, some e =>
        match s.fence i with
        | none => s.fail stHandle
        | some f =>
          let n : Notify := ⟨i, e, BitVec.ofNat 64 (cmdField c.raw 16 8)⟩
          let met := (f.answer n.value).isSome
          if ! met && decide (16384 ≤ s.objs.notes.length) then s.fail stLimit
          else
            let s := ((s.nameHandles q.val c [(tyFence, i), (tyEvent, e)]).hold tyFence i).hold tyEvent e
            (if met then s.fireNotify n else s.setObjs { s.objs with notes := s.objs.notes ++ [n] }).okay
      | _, _ => s.fail stHandle)
    s

/-! ## Export, import and release (R337 to R339, R344) -/

/-- Object types that can be exported, imported and released: all but contexts (log 84). -/
def sharable (ty : Nat) : Bool := decide (2 ≤ ty) && decide (ty ≤ 5)

/-- R339 EXPORT: by the owner. -/
def execExportObj (q : Qn) (s : State) : Out :=
  objectCmd q 0x4E false (byteMask [(8, 8)])
    (fun s o c =>
      let h := c.handle 8
      let ty := handleType h
      let i := handleIndex h
      match if sharable ty then s.objs.head? ty i else none with
      | some x =>
        if ! x.freed && x.gen = handleGen h && s.fnHas o.fn x.owner then
          let s := s.nameHandles q.val c [(ty, i)]
          (s.setObjs (s.objs.updHead ty i (fun y => { y with key := c.handle 12 }))).okay
        else s.fail stHandle
      | none => s.fail stHandle)
    s

/-- R339 IMPORT: by another context of the same virtual device, with the object's KEY. -/
def execImportObj (q : Qn) (s : State) : Out :=
  objectCmd q 0x4F false (byteMask [(8, 12)])
    (fun s o c =>
      match s.ctxNamed o (c.handle 8) with
      | none => s.fail stHandle
      | some x =>
        let h := c.handle 12
        let ty := handleType h
        let i := handleIndex h
        match if sharable ty then s.objs.head? ty i else none with
        | some y =>
          if ! y.freed && y.gen = handleGen h && y.key ≠ 0 && y.key = c.handle 16 && decide (y.owner < 256) && y.owner ≠ x
              && s.vdOfCtx y.owner = s.vdOfCtx x then
            if 65535 ≤ y.href then s.fail stLimit
            else
              let s := s.nameHandles q.val c [(tyCtx, x), (ty, i)]
              (s.setObjs (s.objs.updHead ty i (fun y => { y with href := y.href + 1, imports := y.imports ++ [x] }))).okay 0 h
          else s.fail stHandle
        | none => s.fail stHandle)
    s

/-- R337, R338, R344 RELEASE: the calling context's reference removed; VALUE is 1 when the storage went at once. Its own name for the object is no
hold on it, and an owner that has given its reference up removes none (log 85). -/
def execReleaseObj (q : Qn) (s : State) : Out :=
  objectCmd q 0x50 false (byteMask [(8, 12), (24, 8)])
    (fun s o c =>
      match s.ctxNamed o (c.handle 8) with
      | none => s.fail stHandle
      | some x =>
        let h := c.handle 12
        let ty := handleType h
        let fh := c.handle 16
        let f := if fh = 0 then none else s.fenceNamed x fh
        match if sharable ty then s.named ty h (fun k => k = x) else none with
        | none => s.fail stHandle
        | some i =>
          if fh ≠ 0 && f.isNone then s.fail stHandle
          else
            let s := s.nameHandles q.val c ((tyCtx, x) :: (f.toList.map (fun y => (tyFence, y.1))).filter (fun y => y ≠ (ty, i)))
            let bye : List (Nat × Nat × W64) := f.toList.map (fun y => (y.1, y.2, BitVec.ofNat 64 (cmdField c.raw 24 8)))
            let s := s.setObjs (s.objs.updHead ty i (fun y =>
              { y with href := if y.owner = x && decide (y.href ≤ y.imports.length) then y.href else y.href - 1, imports := if y.owner = x then y.imports else y.imports.erase x, farewell := y.farewell ++ bye }))
            let s := if ((s.objs.head? ty i).map (·.href)) = some 0 then s.freeObj ty i else s
            s.okay (if (s.objs.head? ty i).isNone then 1 else 0))
    s

/-! ## Grants (R344) -/

/-- R344 VD_GRANT: a function 1 to 63 of the PF's port; revoking tears its contexts down. -/
def execVdGrant (q : Qn) (s : State) : Out :=
  objectCmd q 0x51 true (byteMask [(8, 2)] ||| (1 <<< 80))
    (fun s o c =>
      let v := cmdField c.raw 8 1
      let f := cmdField c.raw 9 1
      let fn := 64 * (o.fn / 64) + f
      if s.vdResetting v then (s, .hold)
      else if ! s.vdActive v then s.fail stVdid
      else if f = 0 || decide (63 < f) then s.fail stOperand
      else if ! c.raw.getLsbD 80 then (s.setObjs { s.objs with grants := s.objs.grants.set (64 * fn + v) () }).okay
      else
        let s := s.setObjs { s.objs with grants := s.objs.grants.erase (64 * fn + v) }
        let mine := (s.objs.ctxs.live.cells.filter (fun k => k.2.fn = fn && k.2.vd = v && ! k.2.head.freed)).map (·.1)
        (mine.foldl (fun s x => s.teardown x s.abandoned none) s).okay)
    s

/-! ## Freezing (R351) -/

/-- R351, R297: the running kernels of a virtual device pre-empted. -/
def State.preemptVd (s : State) (v : Nat) : State := (s.vdSpires v).foldl State.preempt s

/-- R351 VD_FREEZE: fetch stops, kernels have the grace, and the command ends when the virtual device is quiet. A virtual device frozen already
stays so; while another VD_FREEZE of it runs the command holds (log 86). -/
def execVdFreeze (q : Qn) (s : State) : Out :=
  objectCmd q 0x52 true (byteMask [(8, 1), (10, 2)])
    (fun s _ c =>
      let v := cmdField c.raw 8 1
      let g := cmdField c.raw 10 2
      let grace := if g = 0xFFFF then s.fld .vdcfg v 19 4 else g
      if s.vdResetting v then (s, .hold)
      else if ! s.vdActive v then s.fail stVdid
      else if decide (60000 < g) && g ≠ 0xFFFF then s.fail stOperand
      else if (s.vd v).freezer.isSome then (s, .hold)
      else if (s.vd v).frozen then s.okay
      else
        let s := s.setVd v { s.vd v with frozen := true, freezer := some (q.val, c.seq) }
        (if grace = 0 then s.preemptVd v else s, .running))
    s

/-- R351 VD_THAW: records resume, and fetch goes on. -/
def execVdThaw (q : Qn) (s : State) : Out :=
  objectCmd q 0x55 true (byteMask [(8, 1)])
    (fun s _ c =>
      let v := cmdField c.raw 8 1
      if s.vdResetting v then (s, .hold)
      else if ! s.vdActive v then s.fail stVdid
      else if ! (s.vd v).frozen || (s.vd v).freezer.isSome then s.fail stNotFrozen
      else
        let s := s.setVd v { s.vd v with frozen := false }
        (s.fill v).okay)
    s

end Sys2Proof.Machine
end

