-- ==== Sys2Proof/Machine/Bind.lean ====
section
/-! DEFINITION. Bind commands (chapter 11): virtual devices, slices, carve-outs, evacuation, peers and barriers. -/

namespace Sys2Proof.Machine

/-! ## What a bind command names (R289, R291) -/

/-- VDID and SLICE of a bind command. -/
def Cmd.vdid (c : Cmd) : Nat := cmdField c.raw 1 1
def Cmd.slice (c : Cmd) : Nat := cmdField c.raw 2 1
/-- CARVE, bits 2:0 of byte 3. -/
def Cmd.carve (c : Cmd) : Nat := bitsOf c.raw.toNat 26 24

/-- R292, R308: the virtual device that a bind command names is active; one in reset holds the command. -/
def onVd (s : State) (c : Cmd) (work : Nat → State × Fate) : State × Fate :=
  let v := c.vdid
  if s.vdResetting v then (s, .hold) else if ! s.vdActive v then s.fail stVdid else work v

/-- The numbers of the bits set among the `n` lowest of a field. -/
def bitList (x n : Nat) : List Nat := (upFrom 0 n).filter x.testBit

/-! ## Creating and setting (R290, R291, R294) -/

/-- R291: the field rules of PRIO, RWIN and GRACE. -/
def Cmd.settingsOk (c : Cmd) : Bool :=
  decide (cmdField c.raw 9 1 ≤ 1) && decide (cmdField c.raw 11 1 ≤ 63) && (decide (cmdField c.raw 14 2 ≤ 60000) || cmdField c.raw 14 2 = 0xFFFF)

/-- R291, R308: PRIO, SHARE, RWIN, REDMASK and GRACE taken from a command. -/
def State.applySettings (s : State) (v : Nat) (c : Cmd) : State :=
  let g := cmdField c.raw 14 2
  let s := (s.setFld .vdcfg v 3 3 (cmdField c.raw 9 1)).setFld .vdcfg v 19 4 (if g = 0xFFFF then 50 else g)
  ((s.setFld .nvdcfg v 7 0 (cmdField c.raw 10 1)).setFld .nvdcfg v 29 24 (cmdField c.raw 11 1)).setFld .nvdcfg v 23 8 (cmdField c.raw 12 2)

/-- R428, R435: may a confidential virtual device be created now? -/
def State.confidentialAllowed (s : State) : Bool :=
  (s.fld .lcstat 0 2 0 = 2 || s.fld .lcstat 0 2 0 = 3) && ! s.bit .lcstat 0 9 && s.fld .dbgrights 0 8 3 = 0

/-- R294 VD_CREATE. -/
def execVdCreate (q : Qn) (s : State) : Out :=
  bindCmd q 0x01 (byteMask [(1, 1), (8, 8), (20, 2), (24, 8)] ||| ((2 ^ 20 - 1) <<< 128) ||| (1 <<< 159))
    (fun s _ c =>
      let v := c.vdid
      let kind := cmdField c.raw 8 1
      let tag := bitsOf c.raw.toNat 147 128
      let tagged := c.raw.getLsbD 159
      let slots := cmdField c.raw 20 2
      let base := cmdField c.raw 24 8
      if 62 < v then s.fail stVdid
      else if s.vdResetting v then (s, .hold)
      else if s.vdState v = 3 then s.fail stBusy
      else if s.vdState v ≠ 0 then s.fail stVdid
      else if 1 < kind || ! c.settingsOk || slots = 0 || decide (512 < slots) || base % 64 ≠ 0 || decide (2 ^ 52 ≤ base)
          || (tagged && s.tagTaken v tag) then s.fail stOperand
      else if kind = 1 && ! s.confidentialAllowed then s.fail stLifecycle
      else if 256 < s.shares v + cmdField c.raw 10 1 then s.fail stShare
      else
        let (n, s) := if kind = 1 then let (n, s) := s.free; (some n, s) else (none, s)
        let gen := (s.vd v).gen + 1
        let s := s.setVd v { VdState.reset with gen := gen, slots := slots, ek := n }
        let s := s.setReg .vdcfg v (BitVec.ofNat 64 (1 + kind * 4 + tag * 2 ^ 20 + (if tagged then 2 ^ 40 else 0)))
        let s := (s.setReg .vdsave v (BitVec.ofNat 64 base)).applySettings v c
        (if tagged then s.setReg .cnvdt v (BitVec.ofNat 64 (1 + tag * 2)) else s).okay)
    s

/-- R290 VD_SET. -/
def execVdSet (q : Qn) (s : State) : Out :=
  bindCmd q 0x02 (byteMask [(1, 1), (9, 7)])
    (fun s _ c =>
      onVd s c (fun v =>
        if ! c.settingsOk then s.fail stOperand
        else if 256 < s.shares v + cmdField c.raw 10 1 then s.fail stShare
        else (s.applySettings v c).okay))
    s

/-- R294 step 4: a barrier entry back at its reset values. -/
def State.dropBarrier (s : State) (e : Nat) : State :=
  (s.setNet { s.net with rounds := s.net.rounds.erase e }).rstReg .nbar e

/-- R294 step 4: what a virtual device leaves behind returns to its reset values; a sealed carve-out that is still mapped keeps the number
taken (STATE 3). -/
def State.destroyed (s : State) (v : Nat) : State :=
  let s := ((upFrom 0 512).filter (fun e => s.bit .nbar e 0 && s.fld .nbar e 6 1 = v)).foldl State.dropBarrier s
  let x := s.vd v
  let s := s.setVd v { VdState.reset with gen := x.gen, carves := x.carves }
  let s := { s with
    evacs := ⟨s.evacs.cells.filter (fun k => k.2.vd ≠ v)⟩,
    objs := { s.objs with grants := ⟨s.objs.grants.cells.filter (fun k => k.1 % 64 ≠ v)⟩ } }
  let s := [RegName.nvdcfg, .cnvdt, .cnvdc, .vdsave, .scvd, .scjob].foldl (fun s r => s.rstReg r v) s
  (s.setReg .vdcfg v 3).tryDestroyed v

/-- R294: a virtual device destroyed, once it has been reset. -/
def State.destroyVd (s : State) (v : Nat) : State :=
  let s := (s.vdSpires v).foldl (fun s n => s.setSpire n { (s.spire n).zeroed n with vdid := 0x3F }) s
  let s := ((s.vd v).carves.cells.filter (fun k => ! k.2.sealed)).foldl (fun s k => s.releaseCarve v k.1) s
  (s.freeLedger v).destroyed v

/-- Is a context of a virtual device open (R292)? -/
def State.ctxOpen (s : State) (v : Nat) : Bool := s.objs.ctxs.live.cells.any (fun k => k.2.vd = v && ! k.2.head.freed)

/-- R294 VD_DESTROY. -/
def execVdDestroy (q : Qn) (s : State) : Out :=
  bindCmd q 0x03 (byteMask [(1, 1)])
    (fun s _ c =>
      let v := c.vdid
      if ! s.vdActive v then s.fail stVdid
      else if s.ctxOpen v then s.fail stBusy
      else ((s.resetVd v).destroyVd v).okay)
    s

/-- R332: in split mode, would units in these towers leave a virtual device with units in both? -/
def State.wouldSplit (s : State) (v : Nat) (towers : List Nat) : Bool :=
  s.bit .chg 0 1 && [0, 1].all (fun t => towers.contains t || s.vdInTower v t)

/-! ## Slices (R296 to R299) -/

/-- Is a spire retired, or its cluster without a control core (R509, R510)? -/
def State.spireRetired (s : State) (n : Nat) : Bool := (s.spire n).retired || s.procState (16 + n / 16) = 3

/-- The device address that serves one of a virtual device's, after relocations (R305); windows keep theirs. -/
def renamed (l : List Reloc) (a : Nat) : Nat :=
  match placeOf a with
  | .near ch off => nearAddr ((relocChannel l ch).getD ch) off
  | .far e off => farAddr ((relocSegment l e).getD e) off
  | _ => a

/-- The bytes of an extent that a virtual device may use: a channel's end at CHTOP (R184). -/
def State.extentOpen (s : State) (x : Extent) : Nat :=
  match x with
  | .channel ch => s.fld .chtop ch 31 0
  | _ => s.extentBytes x

/-- R299: does a range of device addresses lie within the extents of one carve-out? `fuel` bounds the extents it may cross. -/
def State.inCarve (s : State) (v : Nat) (c : Carve) : Nat → Nat → Nat → Bool
  | 0, _, n => n = 0
  | fuel + 1, a, n =>
    n = 0 || (match c.extents.find? (fun x =>
        let b := renamed (s.vd v).relocs a
        decide (extentBase x.1 ≤ b) && decide (b < extentBase x.1 + s.extentOpen x.1)) with
      | none => false
      | some x =>
        let left := extentBase x.1 + s.extentOpen x.1 - renamed (s.vd v).relocs a
        (match s.rangeCheck v a true with | .at _ => true | .readOnly => true | .outside => false)
          && s.inCarve v c fuel (a + min n left) (n - min n left))

/-- The carve-out that holds a virtual device's save area. -/
def State.saveCarve (s : State) (v : Nat) : Option Carve :=
  let x := s.vd v
  (x.carves.cells.find? (fun k => s.inCarve v k.2 (k.2.extents.length + 1) (s.fld .vdsave v 51 0) (x.slots * slotBytes))).map (·.2)

/-- R299: spires bound, and records waiting to resume. -/
def State.saveLoad (s : State) (v : Nat) : Nat := (s.vdSpires v).length + ((s.vd v).saves.filter (fun r => ! r.faulted)).length

/-- Is a slice number in use on the module (R285)? -/
def State.sliceTaken (s : State) (n : Nat) : Bool := s.vds.cells.any (fun k => k.2.slices.any (fun sl => sl.num = n))

/-- R296 SLICE_BIND. The dispatch that fills the new spires follows at once (log 89). -/
def execSliceBind (q : Qn) (s : State) : Out :=
  bindCmd q 0x04 (byteMask [(1, 2), (8, 3), (16, 32)])
    (fun s _ c =>
      onVd s c (fun v =>
        let l := bitList (cmdField c.raw 16 32) 256
        if l = [] then s.fail stOperand
        else if l.any (fun n => s.spireRetired n) then s.fail stRetired
        else if s.wouldSplit v (l.map towerOfSpire ++ (bitList (cmdField c.raw 8 3) 24).map (· / 12)) then s.fail stSplit
        else if s.sliceTaken c.slice || l.any (fun n => (s.spire n).vdid ≠ 0x3F) then s.fail stBusy
        else match s.saveCarve v with
          | none => s.fail stSave
          | some k =>
            if k.sealed then s.fail stOperand
            else if (s.vd v).slots < s.saveLoad v + l.length then s.fail stSave
            else
              let s := l.foldl (fun s n => s.setSpire n { s.spire n with vdid := v }) s
              let x := s.vd v
              let x := { x with slices := x.slices ++ [⟨c.slice, l, BitVec.ofNat 24 (cmdField c.raw 8 3), none⟩] }
              let s := (s.setVd v x).setFld .cnvdc v 23 0 x.canals
              (s.fill v).okay))
    s

/-- R297: the grace of a slice that is being reclaimed has ended. -/
def State.graceEnds (s : State) (v n : Nat) : State :=
  let x := s.vd v
  let s := s.setVd v { x with slices := x.slices.map (fun sl => if sl.num = n then { sl with leaving := sl.leaving.map (fun y => (y.1, y.2.1, true)) } else sl) }
  (((x.slice? n).map (·.spires)).getD []).foldl State.preempt s

/-- R297 SLICE_UNBIND: idle spires leave at once, the others at their kernel boundary or after the grace. -/
def execSliceUnbind (q : Qn) (s : State) : Out :=
  bindCmd q 0x05 (byteMask [(1, 2), (8, 2)])
    (fun s _ c =>
      onVd s c (fun v =>
        let g := cmdField c.raw 8 2
        let grace := if g = 0xFFFF then s.fld .vdcfg v 19 4 else g
        match (s.vd v).slice? c.slice with
        | none => s.fail stOperand
        | some sl =>
          if sl.leaving.isSome then s.fail stOperand
          else
            let x := s.vd v
            let mark (y : Slice) : Slice := if y.num = c.slice then { y with leaving := some (q.val, c.seq, false) } else y
            let s := s.setVd v { x with slices := x.slices.map mark }
            let s := (sl.spires.filter (fun n => (s.spire n).run = .free)).foldl State.leaveSpire s
            (if grace = 0 then s.graceEnds v c.slice else s, .running)))
    s

/-- R297, R351 GRACE_EXPIRY: of a reclaimed slice, or of a VD_FREEZE that runs: kernels that still run are pre-empted. -/
def execGraceExpiry (v : Vd) (slice : Nat) (s : State) : Out :=
  .next (
    match (s.vd v.val).slice? slice with
    | some sl => if sl.leaving.isSome then s.graceEnds v.val slice else if (s.vd v.val).freezer.isSome then s.preemptVd v.val else s
    | none => if (s.vd v.val).freezer.isSome then s.preemptVd v.val else s)

/-! ## Carve-outs (R300, R301) -/

/-- The tower of a unit. -/
def unitTower (u : Nat) : Nat := if u < 256 then towerOfChannel u else towerOfFar ((u - 256) / 8)

/-- R305: is a unit the source of a relocation of a virtual device? -/
def isRelocated (l : List Reloc) (u : Nat) : Bool :=
  l.any (fun r => match r with
    | .channel a _ => u = a
    | .members a _ => decide (u < 256) && a.contains u
    | .segment a _ => u = 256 + a)

/-- R292, R300: why a unit cannot be bound now: 0 where it can. -/
def State.unitRefused (s : State) (v u : Nat) : Nat :=
  if s.unitState u = 3 then stRetired
  else if s.unitState u ≠ 0 || s.unitVd u ≠ 0x3F || isRelocated (s.vd v).relocs u
      || s.evacTarget (decide (256 ≤ u)) (if u < 256 then u else u - 256) then stBusy
  else 0

/-- The first refusal among units: RETIRED before BUSY. -/
def State.unitsRefused (s : State) (v : Nat) (l : List Nat) : Nat :=
  if l.any (fun u => s.unitRefused v u = stRetired) then stRetired
  else if l.any (fun u => s.unitRefused v u ≠ 0) then stBusy else 0

/-- R173: the free window slots: neither valid nor of a carve-out whose fills still run. -/
def State.freeSlots (s : State) : List Nat :=
  (upFrom 0 256).filter (fun w => ! s.bit .iset w 0 && ! s.vds.cells.any (fun k => k.2.carves.cells.any (fun c => c.2.extents.any (fun x => x.1 = .set w))))

/-- R178: the lowest free key slot. -/
def State.freeKey (s : State) : Option Nat := (upFrom 1 127).find? (fun k => (s.sec.keys.find? k).isNone)

/-- R172, R182: a channel enters a carve-out of a key: at once, or by its fill. -/
def State.bindChannel (s : State) (v ch key : Nat) (slot : Option Nat) : State :=
  let s := ((s.setFld .chcfg ch 7 2 v).setFld .chcfg ch 23 17 key).setFld .chcfg ch 24 24 0
  let s := match slot with
    | some w => (s.setFld .chcfg ch 8 8 1).setFld .chcfg ch 16 9 w
    | none => (s.setFld .chcfg ch 8 8 0).setFld .chcfg ch 16 9 0
  if key = 0 then s.setFld .chcfg ch 1 0 1 else s.addFill ch true

/-- A segment enters a carve-out of a key, its counters at area `idx` of a channel (R184). -/
def State.bindSegment (s : State) (v e key ctr idx : Nat) : State :=
  let s := ((s.setFld .fscfg e 7 2 v).setFld .fscfg e 14 8 key).setFld .fscfg e 15 15 0
  let s := if key = 0 then s else (s.setFld .fscfg e 23 16 ctr).setFld .fscfg e 26 24 idx
  if key = 0 then s.setFld .fscfg e 1 0 1 else s.addFill (256 + e) true

/-- R167, R173, R300: the near-tier extents of one stack: its set, then its plain channels. -/
def State.bindStack (s : State) (v key slice k : Nat) (ilv : Bool) (l : List Nat) : List (Extent × Nat) × State :=
  if ! ilv then (l.map (fun c => (.channel c, slice)), l.foldl (fun s c => s.bindChannel v c key none) s)
  else match s.freeSlots with
    | [] => ([], s)
    | w :: _ =>
      let s := s.setReg .isetm w (BitVec.ofNat 64 (l.foldl (fun m c => m + 2 ^ (c % 32)) 0))
      let s := s.setReg .iset w (BitVec.ofNat 64 ((if key = 0 then 1 else 0) + 2 * k + 16 * v))
      ([(.set w, slice)], l.foldl (fun s c => s.bindChannel v c key (some w)) s)

/-- R184: the segments that have their counters in a channel. -/
def State.counterUsers (s : State) (ctr : Nat) : Nat :=
  ((upFrom 0 64).filter (fun e => s.fld .fscfg e 7 2 ≠ 0x3F && s.fld .fscfg e 14 8 ≠ 0 && s.fld .fscfg e 23 16 = ctr)).length

/-- R184, R194: may a channel take the counters of `n` more segments of a carve-out? -/
def State.counterRoom (s : State) (old : Option Carve) (plain : List Nat) (ctr n : Nat) : Bool :=
  (plain.contains ctr || (match old with | some c => c.extents.any (fun x => x.1 = .channel ctr) && s.fld .chcfg ctr 1 0 = 1 | none => false))
    && decide (s.counterUsers ctr + n ≤ 8)

/-- R300: a carve-out takes units: near channels by stack, then segments. -/
def State.growCarve (s : State) (v k : Nat) (c : Cmd) (enc : Bool) (old : Option Carve) (near far : List Nat) : State :=
  let slice := cmdField c.raw 11 1
  let ctr := cmdField c.raw 10 1
  let (key, s) : Nat × State := match old, enc with
    | some o, _ => (o.key, s)
    | none, false => (0, s)
    | none, true =>
      let n := s.freeKey.getD 0
      let (x, s) := s.free
      (n, { s with sec := { s.sec with keys := s.sec.keys.set n x } })
  let first := s.counterUsers ctr
  let (ext, s) := (upFrom 0 8).foldl
    (fun (r : List (Extent × Nat) × State) st =>
      let l := near.filter (fun ch => ch / 32 = st)
      let (e, s) := if l = [] then ([], r.2) else r.2.bindStack v key slice st ((cmdField c.raw 9 1).testBit st) l
      -- the slot is in use from now on
      let x := s.vd v
      let o : Carve := (x.carves.find? k).getD ⟨[], enc, key, false⟩
      (r.1 ++ e, s.setVd v { x with carves := x.carves.set k { o with extents := o.extents ++ e } }))
    ([], s)
  let s := far.zipIdx.foldl (fun s ei => s.bindSegment v ei.1 key ctr (first + ei.2)) s
  let s := if enc && far ≠ [] then s.setFld .chtop ctr 31 0 (chanBytes - (first + far.length) * 0x10000000) else s
  let x := s.vd v
  let o : Carve := (x.carves.find? k).getD ⟨ext, enc, key, false⟩
  s.setVd v { x with carves := x.carves.set k { o with extents := o.extents ++ far.map (fun e => (.segment e, slice)) } }

/-- R300 CARVE_BIND. It holds while a unit it names is being filled (R172, R499). -/
def execCarveBind (q : Qn) (s : State) : Out :=
  bindCmd q 0x06 (byteMask [(1, 1), (9, 3), (16, 40)] ||| (7 <<< 24) ||| (1 <<< 64))
    (fun s _ c =>
      onVd s c (fun v =>
        let enc := c.raw.getLsbD 64
        let ilv := cmdField c.raw 9 1
        let near := bitList (cmdField c.raw 16 32) 256
        let far := bitList (cmdField c.raw 48 8) 64
        let units := near ++ far.map (256 + ·)
        let old := (s.vd v).carves.find? c.carve
        let inStack (k : Nat) : List Nat := near.filter (fun ch => ch / 32 = k)
        let plain := near.filter (fun ch => ! ilv.testBit (ch / 32))
        let oldBad : Bool := match old with | some o => o.sealed || o.enc ≠ enc | none => false
        if units = [] || oldBad || (bitList ilv 8).any (fun k => decide ((inStack k).length < 2)) then s.fail stOperand
        else if s.confidential v && ! enc then s.fail stKind
        else if s.wouldSplit v (units.map unitTower) then s.fail stSplit
        else if s.unitsRefused v units ≠ 0 then s.fail (s.unitsRefused v units)
        else if units.any s.filling then (s, .hold)
        else if enc && far ≠ [] && ! s.counterRoom old plain (cmdField c.raw 10 1) far.length then s.fail stOperand
        else if s.freeSlots.length < (bitList ilv 8).length then s.fail stLimit
        else if enc && old.isNone && s.freeKey.isNone then s.fail stNoKey
        else
          let s := s.growCarve v c.carve c enc old near far
          if enc then ({ s with joins := s.joins ++ [{ queue := q.val, cseq := c.seq, units := units, opens := none }] }, .running) else s.okay))
    s

/-- R193, R194, R301: the RDONLY bits of an extent set. -/
def State.sealExtent (s : State) (x : Extent) : State :=
  match x with
  | .segment e => s.setFld .fscfg e 15 15 1
  | x => (s.extentChannels x).foldl (fun s ch => s.setFld .chcfg ch 24 24 1) s

/-- R301 CARVE_SEAL. A carve-out that holds the save area is not sealed. -/
def execCarveSeal (q : Qn) (s : State) : Out :=
  bindCmd q 0x07 (byteMask [(1, 1)] ||| (7 <<< 24))
    (fun s _ c =>
      onVd s c (fun v =>
        match (s.vd v).carves.find? c.carve with
        | none => s.fail stOperand
        | some k =>
          if s.confidential v then s.fail stKind
          else if k.sealed then s.okay
          else if s.saveCarve v = some k then s.fail stOperand
          else
            let s := k.extents.foldl (fun s x => s.sealExtent x.1) s
            let x := s.vd v
            (s.setVd v { x with carves := x.carves.set c.carve { k with sealed := true } }).okay))
    s

/-! ## Evacuation (R302 to R306) -/

/-- R302: the extent of a virtual device that SKIND and SRC name, and its channels, or its segment. -/
def State.evacSource (s : State) (v kind src : Nat) : Option (Extent × List Nat) :=
  match kind with
  | 0 => if s.fld .chcfg src 1 0 = 1 && s.fld .chcfg src 7 2 = v && ! s.bit .chcfg src 8 then some (.channel src, [src]) else none
  | 1 => if s.bit .iset src 0 && s.fld .iset src 9 4 = v then some (.set src, s.members src) else none
  | 2 => if decide (src < 64) && s.ownsSegment v src then some (.segment src, [src]) else none
  | _ => none

/-- R292: why an extent that is not the virtual device's cannot be evacuated. -/
def State.evacMissing (s : State) (v kind src : Nat) : Nat :=
  let busy : Bool := match kind with
    | 0 => isRelocated (s.vd v).relocs src || (s.fld .chcfg src 1 0 = 1 && s.fld .chcfg src 7 2 ≠ v)
    | 1 => s.bit .iset src 0
    | 2 => isRelocated (s.vd v).relocs (256 + src) || (decide (src < 64) && s.fld .fscfg src 1 0 = 1)
    | _ => false
  if busy then stBusy else stOperand

/-- R302: the destination's channels, or segment; none where it does not match the source. -/
def Cmd.evacDest (c : Cmd) (src : List Nat) : Option (List Nat) :=
  let dch := cmdField c.raw 10 1
  let stack := cmdField c.raw 11 1
  match cmdField c.raw 8 1 with
  | 0 => some [dch]
  | 1 =>
    let l := (bitList (cmdField c.raw 12 4) 32).map (fun i => 32 * stack + i)
    if stack < 8 && l.length = src.length then some l else none
  | _ => if decide (dch < 64) && dch / 8 ≠ src.headD 0 / 8 then some [dch] else none

/-- The bytes in use beside OP and VDID in EVAC's body, by SKIND: what the form does not use is reserved (R4). -/
def Cmd.evacStray (c : Cmd) : Bool :=
  match cmdField c.raw 8 1 with
  | 1 => cmdField c.raw 10 1 ≠ 0
  | _ => cmdField c.raw 11 5 ≠ 0

/-- R293, R308: the lowest evacuation number not running. -/
def State.freeEvac (s : State) : Option Nat :=
  (upFrom 0 4).find? (fun e => match s.evacs.find? e with | some x => x.switched | none => true)

/-- R302 EVAC: the journal opens, and the first chunk is copied. -/
def execEvac (q : Qn) (s : State) : Out :=
  bindCmd q 0x08 (byteMask [(1, 1), (8, 8)])
    (fun s _ c =>
      onVd s c (fun v =>
        let kind := cmdField c.raw 8 1
        let src := cmdField c.raw 9 1
        let far := kind = 2
        if 2 < kind then s.fail stOperand
        else if c.evacStray then s.fail stReserved
        else match s.evacSource v kind src with
          | none => s.fail (s.evacMissing v kind src)
          | some (ext, l) =>
            if s.evacs.cells.any (fun k => ! k.2.switched && k.2.vd = v && k.2.ext = ext) then s.fail stBusy
            else match c.evacDest l with
              | none => s.fail stOperand
              | some dst =>
                let units := dst.map (fun d => if far then 256 + d else d)
                if s.wouldSplit v (units.map unitTower) then s.fail stSplit
                else if s.unitsRefused v units ≠ 0 then s.fail (s.unitsRefused v units)
                else if units.any s.filling then (s, .hold)
                else match s.freeEvac with
                  | none => s.fail stLimit
                  | some e =>
                    if 16 ≤ (s.vd v).relocs.length + (s.evacs.cells.filter (fun k => ! k.2.switched && k.2.vd = v)).length then s.fail stLimit
                    else
                      let x : Evac := { vd := v, ext := ext, far := far, src := l, dst := dst, total := s.extentBytes ext / 2 ^ 20,
                                        chunks := Tab.empty.set 0 .copying, switched := false, queue := q.val, cseq := c.seq }
                      ({ s with evacs := s.evacs.set e x }, .running)))
    s

/-- R306 EVAC_ABORT: of an evacuation that has not switched. -/
def execEvacAbort (q : Qn) (s : State) : Out :=
  bindCmd q 0x09 (byteMask [(1, 1), (8, 2)])
    (fun s _ c =>
      onVd s c (fun v =>
        match s.evacSource v (cmdField c.raw 8 1) (cmdField c.raw 9 1) with
        | none => s.fail stOperand
        | some (ext, _) =>
          match s.evacs.cells.find? (fun k => ! k.2.switched && k.2.vd = v && k.2.ext = ext) with
          | none => s.fail stOperand
          | some k => (s.evacAbort k.1).okay))
    s

/-- The pieces of a chunk, each contiguous at both ends: source and destination address, and length. -/
def Evac.piecesOf (e : Evac) (chunk : Nat) : List (Nat × Nat × Nat) :=
  let n := e.src.length
  (upFrom (512 * chunk) 512).map (fun g =>
    let i := g % n
    let off := g / n * 2048
    if e.far then (farAddr (e.src.headD 0) off, farAddr (e.dst.headD 0) off, 2048)
    else (nearAddr (e.src.getD i 0) off, nearAddr (e.dst.getD i 0) off, 2048))

/-- R302, R303: bytes and poison of a piece copied. -/
def State.copyPiece (s : State) (x : Nat × Nat × Nat) : State :=
  { s with dev := s.dev.splice x.2.1 x.2.2 s.dev x.1,
           devPoison := s.devPoison.splice (x.2.1 / 64) (x.2.2 / 64) s.devPoison (x.1 / 64) }

/-- R303 EVAC_CHUNK_DONE: the copy of a chunk ends and that of the next begins. Writes held for it go on (they are on their way still). -/
def execEvacChunkDone (e : Fin 4) (chunk : Nat) (s : State) : Out :=
  .next (
    match s.evacs.find? e.val with
    | none => s
    | some x =>
      if x.switched || x.chunks.get .pending chunk ≠ .copying then s
      -- the copy pauses for a retraining window, and a moored channel wakes first (R188, R309, R448)
      else if ! (x.piecesOf chunk).all (fun p => ! s.portHeld (portOf p.1) && ! s.portHeld (portOf p.2.1)) then
        s.rouseAll ((x.piecesOf chunk).flatMap (fun p => [(p.1, p.2.2), (p.2.1, p.2.2)]))
      else
        let s := (x.piecesOf chunk).foldl State.copyPiece s
        let t := x.chunks.set chunk .done
        let t := if chunk + 1 < x.total then t.set (chunk + 1) .copying else t
        { s with evacs := s.evacs.set e.val { x with chunks := t } })

/-- A number of the source put in the destination's place. -/
def Evac.moved (e : Evac) (u : Nat) : Nat := ((e.src.idxOf? u).bind (fun i => e.dst[i]?)).getD u

/-- An address of the source put in the destination's place. -/
def Evac.readdress (e : Evac) (a : Nat) : Nat := match e.copyOf a with | some x => x.2 | none => a

/-- A request bound for the source, bound for the destination. -/
def Evac.redirect (e : Evac) (r : Req) : Req :=
  match r.target with
  | .dev a => { r with target := .dev (e.readdress a) }
  | _ => r

/-- R304: the ring, landing queue and tables of a source basin moved to its destination's (log 88). -/
def State.moveBasin (s : State) (e : Evac) (c d : Nat) : State :=
  let b := s.basin c
  let t := s.basin d
  let n := s.reg .bseqa d
  let ring := b.ring.zipIdx.map (fun x => { x.1 with num := n + BitVec.ofNat 64 x.2 })
  let land := b.land.map e.redirect
  let s := s.setReg .bseqa d (n + BitVec.ofNat 64 ring.length)
  let s := s.setBasin d { b with ring := ring, land := land, moored := t.moored, waking := t.waking }
  s.dropBasin c

/-- R304: a source channel's configuration, CHTOP and counter areas taken to the destination. -/
def State.moveChannel (s : State) (e : Evac) (c d : Nat) : State :=
  let s := (s.setReg .chcfg d (s.reg .chcfg c)).setReg .chtop d (s.reg .chtop c)
  -- the counters as they stand now
  let top := s.fld .chtop c 31 0
  let s := s.copyPiece (nearAddr c top, nearAddr d top, chanBytes - top)
  let s := ((upFrom 0 64).filter (fun g => s.fld .fscfg g 14 8 ≠ 0 && s.fld .fscfg g 23 16 = c)).foldl (fun s g => s.setFld .fscfg g 23 16 d) s
  s.moveBasin e c d

/-- R305: the relocation entries once an evacuation has switched: earlier ones lead on to the new place. -/
def Evac.relocate (e : Evac) (l : List Reloc) : List Reloc :=
  let one (r : Reloc) : Reloc := match r, e.ext with
    | .channel a b, .channel _ => .channel a (e.moved b)
    | .members a b, .set _ => .members a (if b = e.src then e.dst else b)
    | .segment a b, .segment _ => .segment a (e.moved b)
    | r, _ => r
  l.map one ++ [match e.ext with
    | .channel c => .channel c (e.moved c)
    | .set _ => .members e.src e.dst
    | .segment g => .segment g (e.moved g)]

/-- The extent once an evacuation has switched. -/
def Evac.newExtent (e : Evac) (x : Extent) : Extent :=
  if x ≠ e.ext then x
  else match x with
    | .channel c => .channel (e.moved c)
    | .segment g => .segment (e.moved g)
    | x => x

/-- R304: the switch. -/
def State.evacSwitch (s : State) (k : Nat) (e : Evac) : State :=
  let s := s.setNet { s.net with
    reqs := s.net.reqs.map e.redirect,
    appends := if e.far then s.net.appends else s.net.appends.map (fun a => { a with basin := e.moved a.basin }) }
  let replicas (b : Basin) : Basin := { b with replicas := ⟨b.replicas.cells.map (fun (k : Nat × Replica) => (k.1, { k.2 with addr := e.readdress k.2.addr }))⟩ }
  let s := { s with basins := ⟨s.basins.cells.map (fun (c : Nat × Basin) => (c.1, replicas c.2))⟩ }
  let s :=
    if e.far then s.setReg .fscfg (e.dst.headD 0) (s.reg .fscfg (e.src.headD 0))
    else (e.src.zip e.dst).foldl (fun s p => s.moveChannel e p.1 p.2) s
  let s := match e.ext with
    | .set w =>
      (s.setFld .iset w 3 1 (e.dst.headD 0 / 32)).setReg .isetm w (BitVec.ofNat 64 (e.dst.foldl (fun m c => m + 2 ^ (c % 32)) 0))
    | _ => s
  let s := e.src.foldl (fun s u => if e.far then s.releaseSegment u else s.releaseChannel u) s
  let x := s.vd e.vd
  let s := s.setVd e.vd { x with
    relocs := e.relocate x.relocs,
    carves := ⟨x.carves.cells.map (fun (c : Nat × Carve) => (c.1, { c.2 with extents := c.2.extents.map (fun y => (e.newExtent y.1, y.2)) }))⟩ }
  { s with evacs := s.evacs.set k { e with switched := true } }.finishCmd e.queue e.cseq Done.ok

/-- R304 EVAC_SWITCH: every chunk is DONE and no source basin runs a command. -/
def execEvacSwitch (e : Fin 4) (s : State) : Out :=
  .next (
    match s.evacs.find? e.val with
    | none => s
    | some x =>
      let copied := (x.chunks.cells.filter (fun c => c.2 = .done)).length
      if x.switched || copied ≠ x.total || (! x.far && x.src.any (fun c => (s.basin c).run.isSome)) then s else s.evacSwitch e.val x)

/-! ## Peers and barriers (R208, R295) -/

/-- R295 VD_PEER. -/
def execVdPeer (q : Qn) (s : State) : Out :=
  bindCmd q 0x0A (byteMask [(1, 1), (9, 1), (12, 48)] ||| (1 <<< 64))
    (fun s _ c =>
      onVd s c (fun v =>
        let n := cmdField c.raw 9 1
        let l := (upFrom 0 (min n 12)).map (fun i => (cmdField c.raw (12 + 4 * i) 2, cmdField c.raw (14 + 4 * i) 2))
        let old := if c.raw.getLsbD 64 then [] else (s.vd v).peers
        if (upFrom n (12 - n)).any (fun i => cmdField c.raw (12 + 4 * i) 4 ≠ 0) then s.fail stReserved
        else if s.confidential v then s.fail stKind
        else if 12 < n || l.any (fun r => decide (r.2 < r.1)) then s.fail stOperand
        else if 32 < old.length + n then s.fail stLimit
        else (s.setVd v { s.vd v with peers := old ++ l }).okay))
    s

/-- R208 VD_BARRIER: an entry set, changed or removed; while spires have arrived the change is held for the release. -/
def execVdBarrier (q : Qn) (s : State) : Out :=
  bindCmd q 0x0B (byteMask [(1, 1), (8, 1), (10, 2)])
    (fun s _ c =>
      onVd s c (fun v =>
        let idx := cmdField c.raw 8 1
        let n := cmdField c.raw 10 2
        let mine (e : Nat) : Bool := s.bit .nbar e 0 && s.fld .nbar e 6 1 = v && s.fld .nbar e 14 7 = idx
        if 256 < n then s.fail stOperand
        else match (upFrom 0 512).find? mine with
          | some e =>
            let r := s.round e
            if n ≠ 0 then (s.setExpect e n).okay
            else if r.arrived ≠ [] then (s.setRound e { r with held := some .removal }).okay
            else (s.dropBarrier e).okay
          | none =>
            if n = 0 then s.okay
            else match (upFrom 0 512).find? (fun e => ! s.bit .nbar e 0) with
              | none => s.fail stLimit
              | some e => (s.setReg .nbar e (BitVec.ofNat 64 (1 + 2 * v + 2 ^ 7 * idx + 2 ^ 15 * n))).okay))
    s

end Sys2Proof.Machine
end

