-- ==== Sys2Proof/Machine/Sched.lean ====
section
/-! DEFINITION. Commands of compute queues, and NOP of compute and copy queues (chapters 13 and 16): DISPATCH, jobs, epochs. -/

namespace Sys2Proof.Machine

/-- R342 WORK_NOP: of a compute or copy queue: it waits and signals. -/
def execWorkNop (q : Qn) (s : State) : Out :=
  let kind := ((s.objs.queues.live.find? q.val).map (·.kind)).getD 0
  workCmd q (if kind = 2 then 2 else 1) 0 0 (fun s _ _ => s.okay) s

/-! ## DISPATCH (R392 to R396) -/

/-- The bytes of DISPATCH's body in use; KDESC has bits 51:6 and bit 0. -/
def dispatchMask : Nat := ((2 ^ 52 - 64 + 1) <<< 256) ||| byteMask [(40, 24)]

/-- R216: one window slot: region start and length, map start, in bytes; none when it is disabled. -/
def winRegion (w : W64) : Option (Nat × Nat × Nat) := if w.get 32 16 = 0 then none else some (64 * w.get 15 0, 64 * w.get 32 16, 64 * w.get 48 33)

/-- R216: the rules of the two window slots: no region meets the other, and no map meets a region. A map is RLEN bytes. -/
def windowsOk (w0 w1 : W64) : Bool :=
  let l := (winRegion w0).toList ++ (winRegion w1).toList
  let good (w : W64) : Bool := decide (w.get 32 16 ≤ 65536) && w.get 63 49 = 0
  good w0 && good w1
    && l.all (fun x => l.all (fun y => ! rangesMeet x.2.2 (x.2.1 / 64) y.1 y.2.1))
    && (match winRegion w0, winRegion w1 with | some x, some y => ! rangesMeet x.1 x.2.1 y.1 y.2.1 | _, _ => true)

/-- A kernel descriptor (R393). -/
structure KDesc where
  code : Nat
  codeLen : Nat
  codeBase : Nat
  seed : W64
  nwin0 : W64
  nwin1 : W64
  rest : Nat
deriving DecidableEq, Repr

/-- The fields of a descriptor's 64 bytes. -/
def kdescOf (b : List Byte) : KDesc :=
  let f (o n : Nat) : Nat := natLE ((b.drop o).take n)
  { code := f 0 8, codeLen := f 8 4, codeBase := f 12 4, seed := BitVec.ofNat 64 (f 16 8), nwin0 := BitVec.ofNat 64 (f 24 8),
    nwin1 := BitVec.ofNat 64 (f 32 8), rest := f 40 24 }

/-- R393, R394: the field rules of a descriptor. -/
def KDesc.ok (k : KDesc) : Bool :=
  k.code % 64 = 0 && k.codeLen ≠ 0 && k.codeLen % 64 = 0 && k.codeBase % 64 = 0 && decide (k.codeBase + k.codeLen ≤ spadBytes)
    && k.rest = 0 && windowsOk k.nwin0 k.nwin1

/-- R394 DISPATCH: it starts at its queue head; with SER once every earlier command of its queue has retired. -/
def execDispatch (q : Qn) (s : State) : Out :=
  workCmd q 1 0x10 dispatchMask
    (fun s o c =>
      let v := s.vdOfQueue o
      let kd := cmdField c.raw 32 8 / 64 * 64
      let n := cmdField c.raw 56 4
      let ser := c.raw.getLsbD 256
      if ! s.hasJob v || (ser && (o.cmds.head?.map (·.seq)) ≠ some c.seq) then (s, .hold)
      else if n = 0 || decide (2 ^ 24 < n) then s.fail stOperand
      else if ! s.rangeIn v kd 64 false then s.fail stRange
      else if ! s.mayTouchAll false (s.placesOf v kd 64) then (s.rouseAll (s.placesOf v kd 64), .hold)
      else
        let (b, bad) := s.readBytes v kd 64
        let k := kdescOf b
        if bad then s.fail stPoison
        else if ! k.ok then s.fail stOperand
        else if ! s.rangeIn v k.code k.codeLen false then s.fail stRange
        else
          let d : Dispatch :=
            { queue := q.val, cseq := c.seq, ctx := o.ctx.getD 0, vd := v, gen := (s.vd v).gen, cls := c.cls, epoch := o.epoch, code := k.code,
              codeLen := k.codeLen, codeBase := k.codeBase, seed := k.seed, nwin0 := k.nwin0, nwin1 := k.nwin1,
              args := BitVec.ofNat 64 (cmdField c.raw 40 8), aff := cmdField c.raw 48 8, affStride := cmdField c.raw 60 4, n := n, next := 0,
              ended := 0, fault := none, aborted := false }
          (({ s with dispatches := s.dispatches ++ [d] }).fill v, .running))
    s

/-! ## Jobs (R391) -/

/-- R391 JOB_BEGIN: it holds while a job is open, or while the meter's ring is full (R457). -/
def execJobBegin (q : Qn) (s : State) : Out :=
  workCmd q 1 0x11 (byteMask [(32, 8)])
    (fun s o c =>
      let v := s.vdOfQueue o
      let id := BitVec.ofNat 64 (cmdField c.raw 32 8)
      if id = 0 then s.fail stOperand
      else if s.hasJob v || s.meterFull then (s, .hold)
      else (s.openJob v (o.ctx.getD 0) id).okay)
    s

/-- R337, R391: the commands of a virtual device accepted before a JOB_END: those before it in its queue, and those of other queues past their checks.
A JOB_BEGIN that holds for this very job is not among them (log 90). -/
def State.acceptedBefore (s : State) (v q : Nat) (seq : W64) : List (Nat × W64) :=
  s.objs.queues.live.cells.flatMap (fun k =>
    if k.2.ctx.isNone || s.vdOfQueue k.2 ≠ v then []
    else
      (k.2.cmds.filter (fun c =>
        if k.1 = q then seqBehind c.seq seq
        else (c.checked || c.stage ≠ .waiting) && ! (k.2.kind = 1 && c.op = 0x11 && c.stage = .waiting))).map (fun c => (k.1, c.seq)))

/-- Has a command left its queue? -/
def State.retired (s : State) (x : Nat × W64) : Bool :=
  match s.objs.queues.live.find? x.1 with
  | some o => ! o.cmds.any (fun c => c.seq = x.2)
  | none => true

/-- R391 JOB_END: by the context that began the job; it waits at its head for the commands accepted before it. -/
def execJobEnd (q : Qn) (s : State) : Out :=
  workCmd q 1 0x12 0
    (fun s o c =>
      let v := s.vdOfQueue o
      if ! s.hasJob v || o.ctx ≠ some (s.fld .scvd v 8 1) then s.fail stOperand
      else
        let l := c.awaits.getD (s.acceptedBefore v q.val c.seq)
        let s := s.updCmd q.val c.seq (fun x => { x with awaits := some l })
        if l.all s.retired then (s.closeJob v 0).okay else (s, .hold))
    s

/-! ## Epochs (R398) -/

/-- R398 EPOCH of a compute queue. -/
def execQueueEpoch (q : Qn) (s : State) : Out :=
  workCmd q 1 0x13 (byteMask [(32, 8)] ||| (1 <<< 320))
    (fun s o c =>
      let e := BitVec.ofNat 64 (cmdField c.raw 32 8)
      if ! seqAfter e o.epoch then s.fail stOperand
      else if c.raw.getLsbD 320 && (o.cmds.head?.map (·.seq)) ≠ some c.seq then (s, .hold)
      else (s.updQueue q.val (fun o => { o with epoch := e })).okay)
    s

end Sys2Proof.Machine
end

