-- ==== Sys2Proof/Machine/Inval.lean ====
section
/-! DEFINITION. Page-table walks and invalidation (chapter 14): TRANSLATION_WALK and the answers of its reads, INVAL, the abort of holders,
its completion. -/

namespace Sys2Proof.Machine

/-! ## Walks (R359, R361, R364) -/

/-- A walk changed. -/
def State.setWalk (s : State) (n : Nat) (k : Walk) : State := s.setTrans { s.trans with walks := s.trans.walks.set n k }

/-- R364: the oldest miss of a tower that no walk serves, and the lowest free walker. -/
def State.nextMiss (s : State) (t : Nat) : Option (Want × Nat) :=
  let running (w : Want) : Bool := s.trans.walks.cells.any (fun k => ! k.2.stale && k.2.serves w)
  match s.trans.wants.find? (fun w => w.tower = t && w.found.isNone && ! running w),
      (upFrom (16 * t) 16).find? (fun n => (s.trans.walks.find? n).isNone) with
  | some w, some n => some (w, n)
  | _, _ => none

/-- R359, R364 TRANSLATION_WALK: the oldest miss of a tower takes a free walker. -/
def execTranslationWalk (t : Tower) (s : State) : Out :=
  .next (
    match s.nextMiss t.val with
    | none => s
    | some (w, n) =>
      match s.trans.geometry (s.ctxRoot w.ctx) with
      | none => s
      | some g =>
        let (level, table, wr) := s.walkStart g t.val w.ctx w.gen w.page
        (s.bump .trwalk t.val).setWalk n
          { tower := t.val, ctx := w.ctx, gen := w.gen, page := w.page, level := level, table := table, w := wr, stale := false })

/-- R359, R361: an entry has been read. One that forbids writes is not kept in the tower's cache, so that a permission that the host has widened is
honoured without an INVAL (R363, log 220). -/
def State.walkReads (s : State) (n : Nat) (k : Walk) (e : W64) : State :=
  match s.trans.geometry (s.ctxRoot k.ctx) with
  | none => s.endWalk n k (.bad trNoMode)
  | some g =>
    match g.entry k.level k.w e with
    | .pointer table w =>
      let k := { k with level := k.level + 1, table := table, w := k.w && w }
      let b : Branch := { tower := k.tower, ctx := k.ctx, gen := k.gen, level := k.level, stem := g.stem k.level k.page, table := table, w := k.w }
      (if k.w then s.cacheBranch b else s).setWalk n k
    | x => s.endWalk n k x

/-- R364: a table read that fails ends the walk with a walk error. -/
def State.walkFails (s : State) (n : Nat) (k : Walk) : State := (s.bump .trwerr k.tower).endWalk n k (.bad trWalkErr)

/-- R359 WALK_READ_RETURN: the answer of a walker's read. A stale walk serves no request (R368). -/
def execWalkReadReturn (w : Fin 32) (ans : HostAns) (s : State) : Out :=
  .next (
    match s.trans.walks.find? w.val with
    | none => s
    | some k =>
      if k.stale then s.setTrans { s.trans with walks := s.trans.walks.erase w.val }
      else match ans with
        | .data b => s.walkReads w.val k (BitVec.ofNat 64 (natLE (b.take 8)))
        | .busError => s.walkFails w.val k)

/-- R364 HOST_READ_TIMEOUT: the read of a walker is not answered within 10 ms. -/
def execHostReadTimeout (w : Fin 32) (s : State) : Out :=
  .next (
    match s.trans.walks.find? w.val with
    | none => s
    | some k => if k.stale then s.setTrans { s.trans with walks := s.trans.walks.erase w.val } else s.walkFails w.val k)

/-! ## Invalidation (R367 to R371) -/

/-- Does an INVAL's scope hold a page of a context? -/
def Inval.covers (i : Inval) (ctx gen page : Nat) (g : Nat) : Bool :=
  i.ctx = ctx && g = gen && (i.whole || (decide (i.page ≤ page) && decide (page < i.page + i.pages)))

/-- R368: does a requester hold what it has obtained? A tile transfer does from its start; a barge channel while the transfer that asked for it has
not moved (log 91); a ring fetch takes its translation and ends in one step. -/
def State.holdsPage (s : State) (w : Want) : Bool :=
  match w.asker with
  | .tile n seq => (s.spire n).tq.any (fun (e : QEntry) => e.seq = seq && e.started)
  | .barge _ => true
  | .ring _ => false

/-- R368 steps 1 to 3: cached translations in the scope dropped, walks of the context marked stale, old translations noted; what is not held is to be
walked again. -/
def State.invalidate (s : State) (i : Inval) : State :=
  let gen := s.ctxGen i.ctx
  let want (w : Want) : Want :=
    if ! i.covers w.ctx w.gen w.page gen || w.found.isNone then w
    else if s.holdsPage w then { w with old := w.old ++ [i.id] } else { w with found := none }
  s.setTrans { s.trans with
    leaves := s.trans.leaves.filter (fun l => ! i.covers l.ctx l.gen l.page gen),
    branches := s.trans.branches.filter (fun b => ! (b.ctx = i.ctx && b.gen = gen)),
    walks := ⟨s.trans.walks.cells.map (fun k => (k.1, if k.2.ctx = i.ctx then { k.2 with stale := true } else k.2))⟩,
    wants := s.trans.wants.map want,
    invals := s.trans.invals ++ [i] }

/-- R367 INVAL. -/
def execInval (q : Qn) (s : State) : Out :=
  objectCmd q 0x56 false (byteMask [(8, 5), (16, 16)])
    (fun s o c =>
      match s.ctxNamed o (c.handle 8) with
      | none => s.fail stHandle
      | some x =>
        let scope := cmdField c.raw 12 1
        let va := cmdField c.raw 16 8
        let n := cmdField c.raw 24 8
        if 1 < scope || (scope = 1 && (va ≠ 0 || n ≠ 0)) || (scope = 0 && (va % 4096 ≠ 0 || n = 0 || decide (2 ^ 45 < n))) then s.fail stOperand
        else
          let (id, s) := s.fresh
          let s := s.nameHandles q.val c [(tyCtx, x)]
          (s.invalidate { id := id, queue := q.val, cseq := c.seq, ctx := x, whole := scope = 1, page := va / 4096, pages := n, aborted := 0 }, .running))
    s

/-- The first byte of a tile that lies in a page: its number and its address. -/
def TDesc.firstIn (d : TDesc) (base page : Nat) : Option (Nat × Nat) :=
  if d.space ≠ 3 then none
  else (upFrom 0 d.rows).findSome? (fun r =>
    let a := d.addr + r * d.stride
    let lo := max a (4096 * page)
    if lo < min (a + d.rowBytes) (4096 * page + 4096) then some (base + r * d.rowBytes + (lo - a), lo) else none)

/-- R369: a tile transfer that holds a page is aborted: no further request goes to the page, and it completes with BUS. -/
def State.abortTile (s : State) (n seq page : Nat) (write : Bool) : State :=
  match (s.spire n).tq.find? (fun (e : QEntry) => e.seq = seq) with
  | none => s
  | some e =>
    let ts := e.descs.getD 0 default
    let at' : Nat × Nat :=
      if write then ((e.descs.getD 1 default).firstIn 0 page).getD (0, 4096 * page)
      else match ts.firstIn 0 page with
        | some x => x
        | none => ((e.descs.getD 2 default).firstIn (ts.rows * ts.rowBytes) page).getD (0, 4096 * page)
    let kept (r : Req) : Bool := ! (r.stage = .held && r.agent = .spire n && r.named / 4096 = page && e.acc.any (fun a => a.id = r.id)
      && (match r.target with | .host _ _ => true | _ => false))
    let gone := (s.net.reqs.filter (fun r => ! kept r)).map (·.id)
    let s := s.setNet { s.net with reqs := s.net.reqs.filter kept }
    let upd (x : QEntry) : QEntry :=
      { x with waiting := x.waiting.filter (fun i => ! gone.contains i), err := worseErr x.err (Cause.bus, at'.1, at'.2) }
    s.setSpire n ((s.spire n).updEntry .tq seq upd)

/-- R369: one holder aborted. -/
def State.abortHolder (s : State) (w : Want) : State :=
  let s := s.bump .trabort w.tower
  match w.asker with
  | .tile n seq => s.abortTile n seq w.page w.write
  | .barge b => s.bargeInvalidated b w.page
  | .ring _ => s

/-- R369 INVAL_ABORT: 1 ms after its acceptance, running INVAL number `k` aborts the holders of old translations; each transfer counts once. -/
def execInvalAbort (k : Nat) (s : State) : Out :=
  .next (
    match s.trans.invals[k]? with
    | none => s
    | some i =>
      let old := s.trans.wants.filter (fun w => w.old.contains i.id)
      let askers := (old.map (·.asker)).eraseDups
      let first := askers.filterMap (fun a => old.find? (fun w => w.asker = a))
      let s := first.foldl State.abortHolder s
      s.setTrans { s.trans with
        wants := s.trans.wants.filter (fun w => ! w.old.contains i.id),
        invals := s.trans.invals.map (fun x => if x.id = i.id then { x with aborted := x.aborted + first.length } else x) })

/-- R368 INVAL_COMPLETE: no transfer holds an old translation in the scope of running INVAL number `k` any more. -/
def execInvalComplete (k : Nat) (s : State) : Out :=
  .next (
    match s.trans.invals[k]? with
    | none => s
    | some i =>
      if s.trans.wants.any (fun w => w.old.contains i.id) then s
      else
        let s := s.setTrans { s.trans with invals := s.trans.invals.filter (fun x => x.id ≠ i.id) }
        let s := s.bump .trinv (((s.objs.queues.live.find? i.queue).map (·.fn)).getD 0 / 64)
        s.finishCmd i.queue i.cseq (Done.ok (BitVec.ofNat 64 i.aborted)))

end Sys2Proof.Machine
end

