-- ==== Sys2Proof/Machine/Image.lean ====
section
/-! DEFINITION. Saving and restoring a virtual device (R352, R353), the sealed image of a confidential one (R426), and the turns of security
commands (R417). -/

namespace Sys2Proof.Machine

/-! ## The security core's turn -/

/-- R417, R483, R510: a command that the security core runs: while the core is away or restarts it holds, and once the core has failed it
ends BUSY. -/
def bySecurity (s : State) (work : State → State × Fate) : State × Fate :=
  match s.procState 0 with
  | 2 => (s, .hold)
  | 3 => s.fail stBusy
  | _ => work s

/-- A 64-bit field of a command. -/
def Cmd.word (c : Cmd) (off : Nat) : Nat := cmdField c.raw off 8

/-- The port of a queue's function. -/
def QueueObj.port (o : QueueObj) : Nat := o.fn / 64

/-! ## Records of extents (R352, R416) -/

/-- The kind of an extent in a record. -/
def Extent.kind : Extent → Nat
  | .channel _ => 0 | .set _ => 1 | .segment _ => 2

/-- The channels, or the segment, of an extent in a record. -/
def State.extentUnits (s : State) (x : Extent) : List Nat :=
  match x with
  | .segment e => [e]
  | x => s.extentChannels x

/-- R352: the 16-byte record of an extent. -/
def State.extentRecord (s : State) (x : Extent) : List Byte :=
  (upFrom 0 16).map (Config.extentRecordByte x.kind (s.extentUnits x) (s.extentBytes x))

/-- The extents of a virtual device, by carve-out in index order, each list in its order (R167). -/
def VdState.extents (x : VdState) : List Extent := x.carves.cells.flatMap (fun c => c.2.extents.map (·.1))

/-- The places of an extent's bytes: extent offset, physical address, length. -/
def State.extentPieces (s : State) (x : Extent) : List (Nat × Nat × Nat) :=
  match x with
  | .channel ch => [(0, nearAddr ch 0, chanBytes)]
  | .segment e => [(0, farAddr e 0, 2 ^ 33)]
  | .set slot =>
    let ms := s.members slot
    (upFrom 0 (ms.length * chanBytes / 2048)).map (fun g =>
      let (ch, off) := windowMap ms (2048 * g)
      (2048 * g, nearAddr ch off, 2048))

/-! ## Records of objects (R352) -/

/-- The fields that every object record holds: handle, owning handle, HREF, KEY. -/
def headFields (ty idx : Nat) (h : Head) (owner : BitVec 32) : List Nat :=
  [(handleOf ty h.gen idx).toNat, owner.toNat, h.href, h.key.toNat]

/-- The fields of the objects of a virtual device, contexts first, each type in slot order. -/
def State.vdObjects (s : State) (v : Nat) : List (List Nat) :=
  let ctxs := s.objs.ctxs.live.cells.filter (fun k => k.2.vd = v && ! k.2.head.freed)
  let own (c : Nat) : Bool := ctxs.any (fun k => k.1 = c)
  let oh (c : Nat) : BitVec 32 := match s.objs.ctxs.live.find? c with | some x => handleOf tyCtx x.head.gen c | none => 0
  let live (h : Head) : Bool := ! h.freed && own h.owner
  let r (n : RegName) (q : Nat) : Nat := (s.reg n q).toNat
  ctxs.map (fun k => headFields tyCtx k.1 k.2.head 0 ++ [k.2.root.toNat, k.2.drain])
    ++ (s.objs.queues.live.cells.filter (fun k => live k.2.head)).map (fun k =>
      headFields tyQueue k.1 k.2.head (oh k.2.head.owner) ++ [k.2.kind, k.2.epoch.toNat]
        ++ [RegName.qcbase, .qcfg, .qkbase, .qcprod, .qccons, .qdone, .qkprod, .qkcons, .qstat].map (fun n => r n k.1))
    ++ (s.objs.mems.live.cells.filter (fun k => live k.2.head)).map (fun k =>
      headFields tyMem k.1 k.2.head (oh k.2.head.owner) ++ [k.2.kind, k.2.base, k.2.len, k.2.carve, k.2.ownerVd])
    ++ (s.objs.fences.live.cells.filter (fun k => live k.2.head)).map (fun k =>
      headFields tyFence k.1 k.2.head (oh k.2.head.owner) ++ [k.2.value.toNat, k.2.status.toNat, k.2.mirror]
        ++ (upFrom 0 4).flatMap (fun i => match k.2.fwd.find? i with | some f => [f.1, f.2.toNat] | none => [0, 0]))
    ++ (s.objs.events.live.cells.filter (fun k => live k.2.head)).map (fun k =>
      headFields tyEvent k.1 k.2.head (oh k.2.head.owner) ++ [k.2.vec, k.2.mirror, k.2.count.toNat])

/-! ## The image -/

/-- A byte memory built from parts laid one after another, each a memory and a length. -/
def layParts (l : List (Memory × Nat)) : Memory × Nat :=
  l.foldl (fun (r : Memory × Nat) p => (r.1.splice r.2 p.2 p.1 0, r.2 + p.2)) (.zero, 0)

/-- A part given by its bytes. -/
def bytesPart (b : List Byte) : Memory × Nat := (Memory.zero.writeN 0 b, b.length)

/-- R352: the contents of an extent, and its poisoned granules by offset. -/
def State.extentMemory (s : State) (x : Extent) : Memory × Tab Unit :=
  (s.extentPieces x).foldl
    (fun (r : Memory × Tab Unit) p =>
      (r.1.splice p.1 p.2.2 s.dev p.2.1, r.2.splice (p.1 / 64) (p.2.2 / 64) s.devPoison (p.2.1 / 64)))
    (.zero, .empty)

/-- The device memory that an image is made from, or loaded into: the extents and the save area. -/
def State.imagePlaces (s : State) (v : Nat) : List (Nat × Nat) :=
  (s.vd v).extents.flatMap (fun x => (s.extentPieces x).map (fun p => (p.2.1, p.2.2)))

/-- The contents of an extent as the image carries them: a poisoned granule's bytes are free (log 93). -/
def State.extentPart (s : State) (x : Extent) : (Memory × Nat) × State :=
  let (m, p) := s.extentMemory x
  let r := p.keys.foldl
    (fun (r : Memory × State) g =>
      let (f, s) := r.2.free
      (r.1.writeLE (64 * g) 64 f, s))
    (m, s)
  ((r.1, s.extentBytes x), r.2)

/-- The save area address of a slot (R299). -/
def State.slotAddr (s : State) (v slot : Nat) : Nat := s.fld .vdsave v 51 0 + slotBytes * slot

/-- R352: the header of an image. -/
def State.imageHeader (s : State) (v objs saves exts : Nat) : List Byte :=
  bytesLE 2 0x0001 ++ bytesLE 1 v ++ bytesLE 1 (if s.confidential v then 1 else 0) ++ bytesLE 4 0 ++ bytesLE 8 (s.vd v).gen.toNat
    ++ bytesLE 4 objs ++ bytesLE 4 saves ++ bytesLE 4 exts ++ List.replicate 36 0

/-- R352: the image of a virtual device, and its length. -/
def State.vdImage (s : State) (v : Nat) : (Memory × Nat) × State :=
  let x := s.vd v
  let objs := s.vdObjects v
  let order (a b : SaveRec) : Bool := decide (a.order ≤ b.order)
  let saves := x.saves.mergeSort order
  let parts := [bytesPart (s.imageHeader v objs.length saves.length x.extents.length), bytesPart (x.extents.flatMap s.extentRecord),
      bytesPart (objs.flatMap (fun f => (upFrom 0 64).map (Config.objRecordByte f)))]
    ++ saves.map (fun r => ((s.getBlock v (s.slotAddr v r.slot) recordBytes).1, recordBytes))
  let (mem, s) := x.extents.foldl
    (fun (r : List (Memory × Nat) × State) e => let (p, s) := r.2.extentPart e; (r.1 ++ [p], s))
    ([], s)
  (layParts (parts ++ mem), s)

/-! ## Sealing (R426) -/

/-- The chunk of a sealed image. -/
def imageChunk : Nat := 65536

/-- R426: the key of a sealed image. -/
def imageKey (ss report : List Byte) : List Byte := digest (ss ++ digest report)

/-- R426: the IV of chunk `i`. -/
def imageIv (i : Nat) : List Byte := bytesLE 4 i ++ List.replicate 8 0

/-- R426: an image sealed: the ciphertext CT of the encapsulation, then chunks of 64 KiB, each with its tag. -/
def sealImage (ct key : List Byte) (img : Memory) (len : Nat) : Memory × Nat :=
  layParts (bytesPart ct :: (upFrom 0 (ceilDiv len imageChunk)).map (fun i =>
    let n := min imageChunk (len - imageChunk * i)
    let x := gcmCrypt key (imageIv i) (img.readN (imageChunk * i) n)
    bytesPart (x ++ gcmTag key (imageIv i) [] x)))

/-- R426: a sealed image opened: none when a tag fails. -/
def openImage (key : List Byte) (body : Memory) (len : Nat) : Option (Memory × Nat) :=
  let step := imageChunk + 16
  (upFrom 0 (ceilDiv len step)).foldl
    (fun (r : Option (Memory × Nat)) i =>
      match r with
      | none => none
      | some (m, k) =>
        let n := min step (len - step * i) - 16
        let x := body.readN (step * i) n
        if body.readN (step * i + n) 16 = gcmTag key (imageIv i) [] x then
          some (m.writeN k (gcmCrypt key (imageIv i) x), k + n)
        else none)
    (some (.zero, 0))

/-- The EK of a report (R416). -/
def reportEk (r : List Byte) : List Byte := (r.drop 288).take 1568

/-- R352: the length of a sealed image. -/
def sealedImageLen (len : Nat) : Nat := 1568 + len + 16 * ceilDiv len imageChunk

/-- An image written to host memory as one run of bytes (R352). -/
def State.writeImage (s : State) (port bus : Nat) (img : Memory × Nat) : State :=
  { s with hostMem := s.hostMem.set port ((s.hostOf port).splice bus img.2 img.1 0) }

/-- R352: has a virtual device ledger entries? -/
def State.hasLedger (s : State) (v : Nat) : Bool := s.engines.cells.any (fun k => k.2.ledger.any (fun e => e.vdid = v))

/-- R352, R426 VD_SAVE. VALUE is the image's length; the target of a confidential virtual device is used up by the image. -/
def execVdSave (q : Qn) (s : State) : Out :=
  objectCmd q 0x53 true (byteMask [(8, 1), (16, 16)])
    (fun s o c =>
      let v := cmdField c.raw 8 1
      let save (s : State) : State × Fate :=
        let (img, t) := s.vdImage v
        let len := match (s.vd v).target with | some _ => sealedImageLen img.2 | none => img.2
        if c.word 24 < len then s.fail stOperand (BitVec.ofNat 64 len)
        else match (s.vd v).target with
          | none => (t.writeImage o.port (c.word 16) img).okay (BitVec.ofNat 64 len)
          | some report =>
            let (n, t) := t.free
            let ek := reportEk report
            let ct := (upFrom 0 1568).map (Config.kemCipherByte ek n)
            let ss := (upFrom 0 32).map (Config.kemSharedByte ek n)
            let t := t.setVd v { t.vd v with target := none }
            (t.writeImage o.port (c.word 16) (sealImage ct (imageKey ss report) img.1 img.2)).okay (BitVec.ofNat 64 len)
      if s.vdResetting v then (s, .hold)
      else if ! s.vdActive v then s.fail stVdid
      else if ! (s.vd v).frozen || (s.vd v).freezer.isSome then s.fail stNotFrozen
      else if (s.vd v).peers ≠ [] || s.hasLedger v then s.fail stBusy
      else if ! s.mayTouchAll false (s.imagePlaces v) then (s.rouseAll (s.imagePlaces v), .hold)
      else if ! s.confidential v then save s
      else if (s.vd v).target.isNone then s.fail stKind
      else bySecurity s save)
    s

/-! ## Restoring (R353) -/

/-- A place taken in a slot table, with its generation; slots never used that it passes over count as the oldest freed (log 94). -/
def Slots.place {α : Type} (t : Slots α) (i gen : Nat) (x : α) : Slots α :=
  { live := t.live.set i x, gens := t.gens.set i gen,
    freed := if t.next ≤ i then upFrom t.next (i - t.next) ++ t.freed else t.freed.filter (fun k => k ≠ i),
    next := max t.next (i + 1) }

/-- The fields of an object record as VD_RESTORE reads them. -/
structure ObjRec where
  handle : BitVec 32
  owner : Nat
  head : Head
  field : List Nat
deriving DecidableEq, Repr

/-- An object record read. Which contexts its references beside the owner's belong to, the record does not say: they are free (log 94). -/
def objRecOf (b : List Byte) : ObjRec :=
  let f (k : Nat) : Nat := Config.objRecordField b k
  let h := BitVec.ofNat 32 (f 0)
  let owner := handleIndex (BitVec.ofNat 32 (f 1))
  let href := f 2 % 65536
  let head : Head := { (newHead (handleGen h) (if handleType h = tyCtx then 0x100 else owner)) with
    href := href, key := BitVec.ofNat 32 (f 3), imports := (upFrom 0 (href - 1)).map (fun i => f (100 + i) % 256) }
  { handle := h, owner := owner, head := head, field := (upFrom 4 15).map f }

/-- A field of an object record beside its head. -/
def ObjRec.at (r : ObjRec) (k : Nat) : Nat := r.field.getD k 0
def ObjRec.w (r : ObjRec) (k : Nat) : W64 := BitVec.ofNat 64 (r.at k)

/-- R353: may the slot of a record be taken? -/
def State.slotFree (s : State) (r : ObjRec) : Bool :=
  let ty := handleType r.handle
  let i := handleIndex r.handle
  decide (1 ≤ ty) && decide (ty ≤ 5) && decide (i < slotCount ty) && (ty ≠ tyQueue || decide (128 ≤ i)) && (s.objs.head? ty i).isNone

/-- R353: an object placed at the handle it had. -/
def State.placeObj (s : State) (v fn : Nat) (r : ObjRec) : State :=
  let i := handleIndex r.handle
  let g := handleGen r.handle
  let o := s.objs
  match handleType r.handle with
  | 1 =>
    let x : Ctx := { head := r.head, fn := fn, vd := v, priv := none, drain := r.at 1, root := r.w 0, dying := false, killer := none, doom := 0 }
    s.setObjs { o with ctxs := o.ctxs.place i g x }
  | 2 =>
    let x : QueueObj := { head := r.head, kind := r.at 0, ctx := some r.owner, fn := fn, cmds := [], epoch := r.w 1, moderating := false, owed := false }
    let s := (s.setObjs { o with queues := o.queues.place i g x }).hold tyCtx r.owner
    ([RegName.qcbase, .qcfg, .qkbase, .qcprod, .qccons, .qdone, .qkprod, .qkcons, .qstat].zipIdx).foldl (fun s n => s.setReg n.1 i (r.w (2 + n.2))) s
  | 3 =>
    let x : MemObj := { head := r.head, kind := r.at 0, base := r.at 1, len := r.at 2, carve := r.at 3, ownerVd := r.at 4 }
    s.setObjs { o with mems := o.mems.place i g x }
  | 4 =>
    let fwd : Tab (Nat × BitVec 32) := (upFrom 0 4).foldl
      (fun (t : Tab (Nat × BitVec 32)) k => if r.at (4 + 2 * k) = 0 then t else t.set k (r.at (3 + 2 * k), BitVec.ofNat 32 (r.at (4 + 2 * k)))) .empty
    let x : FenceObj := { head := r.head, value := r.w 0, status := BitVec.ofNat 32 (r.at 1), mirror := r.at 2, fwd := fwd }
    s.setObjs { o with fences := o.fences.place i g x }
  | 5 =>
    let x : EventObj := { head := r.head, vec := r.at 0, mirror := r.at 1, count := r.w 2 }
    s.setObjs { o with events := o.events.place i g x }
  | _ => s

/-- R353: a save record put into slot `i`, under the generation the virtual device has now (log 95). Which command its kernel belongs to,
the image does not say: that is free (log 94). -/
def State.placeSave (s : State) (v i : Nat) (m : Memory) : State :=
  let gen := (s.vd v).gen
  let k := s.ctr
  let w (n : Nat) : Nat := Config.free (k + n)
  let s := { s with ctr := k + 6 }
  let s := s.putBlock v (s.slotAddr v i) recordBytes (m.writeLE 8 8 gen.toNat) .empty
  let kernel : Kernel := ⟨w 0 % 4096, BitVec.ofNat 64 (w 1), w 2 % 256, w 3 % 2 ^ 24, BitVec.ofNat 64 (w 4), w 5 % 2 ^ 52⟩
  let rec' : SaveRec := { slot := i, order := i, faulted := m.readLE 20 4 % 2 = 1, kernel := kernel, gen := gen, queued := [] }
  s.setVd v { s.vd v with saves := (s.vd v).saves ++ [rec'], nextSave := i + 1 }

/-- R353: the contents of an extent taken from the image, below CHTOP (R184, log 93). -/
def State.placeExtent (s : State) (x : Extent) (img : Memory) (off : Nat) : State :=
  (s.extentPieces x).foldl
    (fun s p =>
      let n := match placeOf p.2.1 with
        | .near ch o => min p.2.2 (s.fld .chtop ch 31 0 - o)
        | _ => p.2.2
      { s with dev := s.dev.splice p.2.1 n img (off + p.1), devPoison := s.devPoison.splice (p.2.1 / 64) (n / 64) .empty 0 }.bumpVersions p.2.1 n)
    s

/-- R353: an open image loaded, once its shape has been found to fit. -/
def State.loadImage (s : State) (v fn : Nat) (img : Memory) (objs : List ObjRec) (saves exts : Nat) : State :=
  let x := s.vd v
  let s := s.setVd v { x with gen := x.gen + 1, frozen := true, saves := [], nextSave := 0, target := none }
  let s := objs.foldl (fun s r => s.placeObj v fn r) s
  let base := 64 + 16 * exts + 64 * objs.length
  let s := (upFrom 0 saves).foldl (fun s i => s.placeSave v i (Memory.zero.splice 0 recordBytes img (base + recordBytes * i))) s
  (x.extents.foldl (fun (r : State × Nat) e => (r.1.placeExtent e img r.2, r.2 + r.1.extentBytes e)) (s, base + recordBytes * saves)).1

/-- R353 VD_RESTORE. -/
def execVdRestore (q : Qn) (image : HostAns) (s : State) : Out :=
  objectCmd q 0x54 true (byteMask [(8, 2), (16, 16)])
    (fun s o c =>
      let v := cmdField c.raw 8 1
      let f := cmdField c.raw 9 1
      let fn := 64 * (o.fn / 64) + f
      let x := s.vd v
      let load (s : State) (img : Memory) (len : Nat) : Option State :=
        let objs := img.readLE 16 4
        let saves := img.readLE 20 4
        let exts := img.readLE 24 4
        let recs := (upFrom 0 objs).map (fun i => objRecOf (img.readN (64 + 16 * exts + 64 * i) 64))
        let shape := (upFrom 0 exts).map (fun i =>
          let b := img.readN (64 + 16 * i) 16
          (Config.extentRecordKind b, Config.extentRecordLen b))
        let need := 64 + 16 * exts + 64 * objs + recordBytes * saves + x.extents.foldl (fun n e => n + s.extentBytes e) 0
        if img.readLE 0 2 ≠ 1 || img.readLE 3 1 ≠ (if s.confidential v then 1 else 0) || shape ≠ x.extents.map (fun e => (e.kind, s.extentBytes e))
            || ! recs.all s.slotFree || decide ((recs.map (fun r => (handleType r.handle, handleIndex r.handle))).eraseDups.length ≠ objs) || decide (x.slots < saves)
            || (saves ≠ 0 && (s.saveCarve v).isNone) || len ≠ need then none
        else some (s.loadImage v fn img recs saves exts)
      if s.vdResetting v then (s, .hold)
      else if ! s.vdActive v then s.fail stVdid
      else if decide (63 < f) || ! s.fnExists fn then s.fail stOperand
      else if ! s.mayTouchAll true (s.imagePlaces v) then (s.rouseAll (s.imagePlaces v), .hold)
      else match image with
        | .busError => s.fail stBus
        | .data bytes =>
          if bytes.length ≠ c.word 24 then s.fail stOperand
          else
            let m := Memory.zero.writeN 0 bytes
            if ! s.confidential v then
              match load s m bytes.length with
              | some t => t.okay
              | none => s.fail stBusy
            else bySecurity s (fun s =>
              let ct := m.readN 0 1568
              let ss := (upFrom 0 32).map (Config.kemSecretByte (x.ek.getD 0) ct)
              match openImage (imageKey ss x.report) (Memory.zero.splice 0 (bytes.length - 1568) m 1568) (bytes.length - 1568) with
              | none => ((s.bump .scauth 0).setVd v { x with frozen := true }).fail stAuth
              | some (img, len) =>
                match load s img len with
                | some t => (t.setVd v { t.vd v with isSealed := true, migrated := true, sessions := .empty }).okay
                | none => s.fail stBusy))
    s

end Sys2Proof.Machine
end

