-- ==== Sys2Proof/Machine/Flash.lean ====
section
/-! DEFINITION. The boot flash (chapters 17, 19, 20): certificates and their chain, the flash directory, firmware slots and Litutar images, with
the checks that make them valid. -/

namespace Sys2Proof.Machine

/-! ## Regions (R464) -/

/-- Bytes of the flash. -/
def State.flashBytes (s : State) (a n : Nat) : List Byte := s.fw.flash.readN a n

/-- A field of a list of bytes. -/
def fieldOf (b : List Byte) (off n : Nat) : Nat := natLE ((b.drop off).take n)

/-- A part of a list of bytes. -/
def partOf (b : List Byte) (off n : Nat) : List Byte := (b.drop off).take n

/-- Where a directory copy, an image copy and a firmware slot lie, A 0 and B 1. -/
def dirBase (k : Nat) : Nat := 0x1000 * k
def imageBase (k : Nat) : Nat := 0x40000 + 0x40000 * k
def slotBase (k : Nat) : Nat := 0x100000 + 0xF00000 * k
def imageRegion : Nat := 0x40000
def slotRegion : Nat := 0xF00000

/-! ## Certificates (R413, R414) -/

def certKind (c : List Byte) : Nat := fieldOf c 2 1
def certSigner (c : List Byte) : Nat := fieldOf c 3 1
def certStates (c : List Byte) : Nat := fieldOf c 4 1
def certSerial (c : List Byte) : Nat := fieldOf c 8 8
/-- ISSUER, or CHALLENGE of a debug certificate. -/
def certIssuer (c : List Byte) : List Byte := partOf c 16 32
def certRights (c : List Byte) : Nat := fieldOf c 48 8
def certKey (c : List Byte) : List Byte := partOf c 64 1793

/-- Does the SIG of a certificate verify under a key? -/
def certSigned (c key : List Byte) : Bool := Config.falconVerify key (c.take 1920) (partOf c 1920 1280)

/-- R414: does a certificate verify under its issuer's? -/
def certVerifies (c issuer : List Byte) : Bool := certSigned c (certKey issuer) && certIssuer c = digest (certKey issuer)

/-- The certificates of the store: WHICH 1, 2, 3 and 5, at 4 KiB strides. -/
def State.storeCert (s : State) (which : Nat) : List Byte := s.flashBytes (0x10000 + 0x1000 * (if which = 5 then 3 else which - 1)) 3200

/-- R414: do the root and the manufacturing certificate of the store verify? -/
def State.chainOk (s : State) : Bool :=
  let root := s.storeCert 1
  certVerifies root root && digest (certKey root) = Config.rootDigest && certVerifies (s.storeCert 2) root

/-- SHAKE256-256 of the manufacturing key. -/
def State.makerDigest (s : State) : List Byte := digest (certKey (s.storeCert 2))

/-- OWNERD is zero (R428). -/
def State.ownerless (s : State) : Bool := s.sec.ownerd.all (fun b => b = 0)

/-! ## The directory (R478) -/

/-- A directory: FWACT, IMGACT, DIRSEQ. -/
structure Dir where
  fwact : Nat
  imgact : Nat
  seq : W64
deriving DecidableEq, Repr

/-- The bytes of a directory copy before its CRC. -/
def dirBody (d : Dir) : List Byte :=
  bytesLE 4 0x5A474452 ++ bytesLE 2 1 ++ bytesLE 1 d.fwact ++ bytesLE 1 d.imgact ++ bytesLE 8 d.seq.toNat ++ List.replicate 4076 0

/-- A copy, where it is valid. -/
def State.dirAt (s : State) (k : Nat) : Option Dir :=
  let b := s.flashBytes (dirBase k) 4096
  if fieldOf b 0 4 = 0x5A474452 && fieldOf b 4 2 = 1 && fieldOf b 4092 4 = crc32c (b.take 4092) then
    some ⟨fieldOf b 6 1 % 2, fieldOf b 7 1 % 2, BitVec.ofNat 64 (fieldOf b 8 8)⟩
  else none

/-- The copy that governs, and what it says. -/
def State.directory (s : State) : Option Nat × Dir :=
  match s.dirAt 0, s.dirAt 1 with
  | some a, some b => if seqAfter b.seq a.seq then (some 1, b) else (some 0, a)
  | some a, none => (some 0, a)
  | none, some b => (some 1, b)
  | none, none => (none, ⟨0, 0, 0⟩)

/-- FWSLOT shows what the directory marks active (R489). -/
def State.showDir (s : State) : State :=
  let d := s.directory.2
  (s.setFld .fwslot 0 0 0 d.fwact).setFld .fwslot 0 2 2 d.imgact

/-- A directory written: the copy that does not govern, DIRSEQ one later; copy A where neither is valid. -/
def State.writeDir (s : State) (fwact imgact : Nat) : State :=
  let (k, d) := s.directory
  let n := match k with | some 0 => 1 | _ => 0
  let b := dirBody ⟨fwact, imgact, d.seq + 1⟩
  { s with fw := { s.fw with flash := s.fw.flash.writeN (dirBase n) (b ++ bytesLE 4 (crc32c b)) } }.showDir

/-! ## Firmware slots (R479, R480) -/

/-- The largest images, in slot order (R477). -/
def imageLimits : List Nat := [0x40000, 0x40000, 0x200000, 0x100000]

/-- The four images of a slot: slot offset, length, digest. -/
def State.slotEntries (s : State) (k : Nat) : List (Nat × Nat × List Byte) :=
  (upFrom 0 4).map (fun i =>
    let b := s.flashBytes (slotBase k + 32 + 48 * i) 48
    (fieldOf b 0 4, fieldOf b 4 4, partOf b 16 32))

/-- R434: is a debug right in force? -/
def State.right (s : State) (k : Nat) : Bool := s.bit .dbgrights 0 k

/-- R428, R480: may firmware of a signer run in the current state? -/
def State.fwSignerOk (s : State) (signer : Nat) : Bool :=
  let st := s.lcState
  match signer with
  | 1 => decide (st ≤ 4)
  | 3 => st = 1 || (st = 4 && s.right 7)
  | _ => false

/-- R480: is a slot valid? 0, or the status that its check ends with (R486): LIFECYCLE where the state does not permit it, AUTH otherwise. -/
def State.slotCheck (s : State) (k : Nat) : Nat :=
  let h := s.flashBytes (slotBase k) 3360
  let signer := fieldOf h 6 1
  let zero (off n : Nat) : Bool := (partOf h off n).all (fun b => b = 0)
  let ent := s.slotEntries k
  let key := partOf h 224 1793
  if fieldOf h 0 4 ≠ 0x5A474657 || fieldOf h 4 2 ≠ 1 || ! zero 19 13 || ! zero 2017 63 || ! (upFrom 0 4).all (fun i => zero (40 + 48 * i) 8) then stAuth
  else if ! (ent.zip imageLimits).all (fun e => decide (0x1000 ≤ e.1.1) && decide (e.1.1 + e.1.2.1 ≤ slotRegion) && decide (e.1.2.1 ≤ e.2)) then stAuth
  else if ! Config.falconVerify key (h.take 2080) (partOf h 2080 1280) then stAuth
  else if (signer = 1 && ! (s.chainOk && digest key = s.makerDigest)) || (signer = 3 && digest key ≠ Config.devDigest) then stAuth
  else if ! s.fwSignerOk signer || ! (fieldOf h 18 1).testBit s.lcState then stLifecycle
  else if fieldOf h 7 1 < s.sec.svn then stAuth
  else if ! ent.all (fun e => digest (s.flashBytes (slotBase k + e.1) e.2.1) = e.2.2) then stAuth
  else 0

/-- The header fields that the running set keeps: SVN, SLOTSEQ, IFACE, signer. -/
def State.slotHead (s : State) (k : Nat) : Nat × W64 × Nat × Nat :=
  let h := s.flashBytes (slotBase k) 32
  (fieldOf h 7 1, BitVec.ofNat 64 (fieldOf h 8 8), fieldOf h 16 2, fieldOf h 6 1)

/-- R411, R415: the attestation key derived again from the digests and the state in force. -/
def State.deriveAk (s : State) : State :=
  let seed := digest (Config.dus ++ [0x02] ++ s.sec.digests.flatten ++ s.sec.imgDigest ++ bytesLE 1 s.lcState)
  { s with sec := { s.sec with akSeed := seed } }

/-- R481, R485: the images of a slot become the running set. -/
def State.runSlot (s : State) (k : Nat) : State :=
  let (_, seq, iface, _) := s.slotHead k
  let d := (s.slotEntries k).map (fun (e : Nat × Nat × List Byte) => e.2.2)
  let s := { s with sec := { s.sec with digests := d } }
  let s := { s with fw := { s.fw with slotSeq := seq, iface := iface } }
  (s.setFld .fwslot 0 1 1 k).deriveAk

/-! ## Litutar images (R465 to R468) -/

/-- A record of an image (R467). -/
structure Rec where
  kind : Nat
  flags : Nat
  arg : Nat
  off : Nat
  value : W64
deriving DecidableEq, Repr

def Rec.dyn (r : Rec) : Bool := r.flags.testBit 0
def Rec.w4 (r : Rec) : Bool := r.flags.testBit 1

/-- NREC of a copy, and its bytes. -/
def State.imageRecs (s : State) (k : Nat) : Nat := fieldOf (s.flashBytes (imageBase k) 8) 6 2
def State.imageBytes (s : State) (k : Nat) : List Byte := s.flashBytes (imageBase k) (3200 + 16 * s.imageRecs k)

/-- The records of an image. -/
def recsOf (b : List Byte) : List Rec :=
  (upFrom 0 (fieldOf b 6 2)).map (fun i =>
    let o := 64 + 16 * i
    ⟨fieldOf b o 1, fieldOf b (o + 1) 1, fieldOf b (o + 2) 2, fieldOf b (o + 4) 4, BitVec.ofNat 64 (fieldOf b (o + 8) 8)⟩)

/-- R468: the registers that bind commands set. -/
def bindSet (r : RegName) : Bool :=
  match r with
  | .nvdcfg => true
  | .cnvdt => true
  | .cnvdc => true
  | .iset => true
  | .isetm => true
  | .nbar => true
  | .fscfg => true
  | _ => false

/-- R468: has a register an image-settable field? -/
def imageSettable (r : RegName) : Bool := ! bindSet r && r.mask .rw ≠ 0

/-- The registers that a REG record names; the function blocks, one a function, are no single place and cannot be named (log 97). -/
def Rec.regs (r : Rec) : List (RegName × Nat × Nat) :=
  if r.off < 0x1000 then [] else
    (bar0Regs (r.off / 8 * 8)).filter (fun x => ! r.w4 || x.2.2 = 8 * (r.off % 8) || (x.2.2 = 0 && x.1 ≠ .cngrt && x.1 ≠ .cnmbt))

/-- R467, R468: does a record meet its rules? -/
def Rec.ok (r : Rec) : Bool :=
  decide (r.flags < 4) && (match r.kind with
    | 1 => r.off % (if r.w4 then 4 else 8) = 0 && r.regs ≠ [] && r.regs.all (fun x => imageSettable x.1 && ! (r.dyn && neverDynamic x.1))
    | 2 => decide (r.arg < 16)
    | 3 => decide (r.arg < 2) && decide (r.value.get 11 8 ≤ 12) && r.value.get 7 6 = 0 && r.value.get 15 12 = 0 && r.value.get 63 17 = 0
    | 4 => r.value.get 7 5 = 0 && r.value.get 15 13 = 0 && r.value.get 63 17 = 0
    | _ => false)

/-- R428: may a Litutar image of a signer be loaded in the current state? -/
def State.imgSignerOk (s : State) (signer : Nat) : Bool :=
  match s.lcState with
  | 1 => signer = 1
  | 2 => if s.ownerless then signer = 1 else signer = 2
  | 3 => if s.ownerless then signer = 1 else signer = 2
  | 4 => signer = 1
  | _ => false

/-- R465, R475: why an image is not valid: 0, or the code of IMGERR. -/
def State.imageCheck (s : State) (k : Nat) : Nat :=
  let b := s.imageBytes k
  let n := s.imageRecs k
  let key := partOf b (64 + 16 * n) 1793
  let signer := fieldOf b 25 1
  let serial := fieldOf b 16 8
  if fieldOf b 0 4 ≠ 0x4C495455 || fieldOf b 4 2 ≠ 1 || n = 0 || decide (8192 < n) || decide (imageRegion < 3200 + 16 * n) then 2
  else if ! Config.falconVerify key (b.take (1920 + 16 * n)) (partOf b (1920 + 16 * n) 1280) then 3
  else if ! s.imgSignerOk signer || (signer = 1 && ! (s.chainOk && digest key = s.makerDigest)) || (signer = 2 && digest key ≠ s.sec.ownerd) then 4
  else if (serial ≠ 0 && serial ≠ s.sec.serial.toNat) || ! (fieldOf b 24 1).testBit s.lcState then 5
  else if ! (recsOf b).all Rec.ok then 6
  else 0

/-- R467: one record applied. -/
def State.applyRec (s : State) (r : Rec) : State :=
  match r.kind with
  | 1 =>
    let sh := if r.w4 then 8 * (r.off % 8) else 0
    let v := r.value <<< sh
    let mask : W64 := if r.w4 then (0xFFFFFFFF : W64) <<< sh else BitVec.allOnes 64
    let s := r.regs.foldl
      (fun (s : State) x =>
        let m := mask >>> x.2.2
        let w := v >>> x.2.2
        if x.1 = .chcfg then s.writeReg .chcfg x.2.1 w (m &&& 3) else s.writeReg x.1 x.2.1 w m)
      s
    if r.dyn then { s with fw := { s.fw with dyn := s.fw.dyn ++ [r.off / 8 * 8] } } else s
  -- R360: a descriptor that breaks its rules is loaded with VALID 0
  | 2 => s.setTrans { s.trans with pdesc := s.trans.pdesc.set r.arg (if parOk r.value then r.value else r.value.put 49 49 0) }
  | 3 => { s with fw := { s.fw with hostCfg := s.fw.hostCfg.set r.arg (r.value.get 5 0, r.value.get 11 8, r.value.getLsbD 16) } }
  | _ => s

/-- The value of an image's last BRINGUP record, 0 where it has none. -/
def bringupOf (l : List Rec) : W64 := l.foldl (fun (v : W64) r => if r.kind = 4 then r.value else v) 0

end Sys2Proof.Machine
end

