-- ==== Sys2Proof/Machine/Restart.lean ====
section
/-! DEFINITION. Start-up (chapter 19), the life-cycle fuses and erasures (R430 to R432, R436), and the tower, warm and cold resets (R496). -/

namespace Sys2Proof.Machine

/-! ## Fuses (R430, R431) -/

/-- Blown copies of logical fuse `k`. -/
def fuseCopies (f : BitVec 24) (k : Nat) : Nat := ((upFrom (3 * k) 3).filter (fun i => f.getLsbD i)).length

/-- The logical fuses, by majority. -/
def logicalFuses (f : BitVec 24) : Nat := (upFrom 0 8).foldl (fun n k => if 2 ≤ fuseCopies f k then n + 2 ^ k else n) 0

/-- Every copy of logical fuse `k` blown. -/
def blowFuse (f : BitVec 24) (k : Nat) : BitVec 24 := f ||| BitVec.ofNat 24 (7 * 2 ^ (3 * k))

/-- Does a logical fuse read blown with one copy that is not? -/
def fusesUneven (f : BitVec 24) : Bool := (upFrom 0 8).any (fun k => fuseCopies f k = 2)

/-- R431: the third copies of such fuses blown. -/
def mendFuses (f : BitVec 24) : BitVec 24 := (upFrom 0 8).foldl (fun f k => if fuseCopies f k = 2 then blowFuse f k else f) f

/-- The intent and the confirm fuse of transition Tk. -/
def intentFuse (k : Nat) : Nat := 2 * k - 2
def confirmFuse (k : Nat) : Nat := 2 * k - 1

/-- R430: the state that logical fuses show, and the transition to resume, 0 for none. Where T4 is resumed the table gives no state: it ends in
SCRAPPED. -/
def decodeFuses (l : Nat) : Nat × Nat :=
  if l.testBit 6 then (5, if l.testBit 7 then 0 else 4)
  else match l with
    | 0x00 => (1, 0)
    | 0x03 => (2, 0)
    | 0x0F => (3, 0)
    | 0x3F => (4, 0)
    | 0x01 => (1, 1)
    | 0x07 => (2, 2)
    | 0x1F => (3, 3)
    | _ => (5, 4)

/-- The security core's fuses changed. -/
def State.setSec (s : State) (x : Sec) : State := { s with sec := x }

/-- R437, R489: the registers that show fuses. -/
def State.showFuses (s : State) : State :=
  let l := logicalFuses s.sec.fuses
  let s := (s.setReg .lcfuse 0 (BitVec.ofNat 64 l)).setFld .lcstat 0 2 0 (decodeFuses l).1
  let w (i : Nat) : W64 := BitVec.ofNat 64 (fieldOf s.sec.ownerd (8 * i) 8)
  let s := [RegName.ownerd0, .ownerd1, .ownerd2, .ownerd3].zipIdx.foldl (fun (s : State) (r : RegName × Nat) => s.setReg r.1 0 (w r.2)) s
  (s.setReg .serial 0 s.sec.serial).setFld .fwslot 0 8 3 s.sec.svn

/-! ## Erasure (R432) -/

/-- R432 T1: the maker test areas of the flash. -/
def State.eraseMaker (s : State) : State :=
  s.setFw { s.fw with flash := ⟨s.fw.flash.cells.filter (fun (c : Nat × Byte) => ! (decide (0x1F00000 ≤ c.1) && Config.makerTest c.1))⟩ }

/-- R432 T2, T3: keys, SRAM, memory, ledgers, and the flash outside the firmware images, the Litutar images and the certificate store. -/
def State.eraseData (s : State) : State :=
  let s := s.setSec { s.sec with keys := .empty }
  let bare (x : VdState) : VdState := { x with ek := none, sessions := .empty, poolKey := none }
  let s := { s with vds := ⟨s.vds.cells.map (fun (c : Nat × VdState) => (c.1, bare c.2))⟩ }
  let s := { s with spires := ⟨s.spires.cells.map (fun (c : Nat × Spire) => (c.1, c.2.zeroed c.1))⟩ }
  let s := s.basins.keys.foldl State.dropBasin s
  let s := { s with engines := ⟨s.engines.cells.map (fun (c : Nat × Engine) => (c.1, { c.2 with ledger := [] }))⟩ }
  let s := s.setReg .plstat 0 ((s.reg .plstat 0).put 15 0 0)
  let s := s.setTrans { s.trans with leaves := [], branches := [] }
  let s := { s with dev := .zero, devPoison := .empty }
  let fl := ((s.fw.flash.clear 0 0x10000).clear 0xC0000 0x100000).clear 0x1F00000 (2 ^ 32)
  s.setFw { s.fw with flash := fl, log := .empty, rings := .empty }

/-- R432, R436 T4: as T2, then the meter island's SRAM, the secrets and trims, and the whole flash. -/
def State.eraseScrap (s : State) : State :=
  let s := s.eraseData.setMeter .reset
  let s := [RegName.mtrstat, .mtrseq, .mtrack, .mtrmod, .mtridle].foldl (fun (s : State) r => s.setReg r 0 0) s
  let s := s.setSec { s.sec with erased := true, ownerd := List.replicate 32 0, cal := List.replicate 7 0, akSeed := [] }
  s.setFw { s.fw with flash := .zero }

/-- The erasure of transition Tk. -/
def State.erase (s : State) (k : Nat) : State :=
  match k with | 1 => s.eraseMaker | 4 => s.eraseScrap | _ => s.eraseData

/-- A logical fuse blown. -/
def State.blow (s : State) (k : Nat) : State := s.setSec { s.sec with fuses := blowFuse s.sec.fuses k }

/-! ## Cold reset (R447, R460, R475, R489, R496, R512) -/

/-- The registers that a cold reset leaves: BTIME, the meter's and BSPARE (R158). -/
def coldKept : List RegName := [.btime, .bspare, .mtrstat, .mtrseq, .mtrack, .mtrboot, .mtrmod, .mtridle, .mtrcal]

/-- R391, R452, R455: every open job closed with flags of its record. -/
def State.closeJobs (s : State) (flags : Nat) : State :=
  s.setMeter { s.meter with jobs := s.meter.jobs.map (fun j => if j.closed.isNone then { j with closed := some (1 + flags) } else j) }

/-- R496 code 6: what a cold reset does before start-up: fuses, flash, the meter island, BTIME and the lines of the connectors stay, and what
the model keeps for itself; memory keeps its contents until it is filled (R499). -/
def State.coldReset (s : State) : State :=
  let s := s.closeJobs 2
  let kept := s.regs.cells.filter (fun (c : Nat × W64) => coldKept.any (fun r => r.code = c.1 / 2 ^ 20))
  let sec : Sec := { Sec.reset with
    fuses := s.sec.fuses, svn := s.sec.svn, serial := s.sec.serial, ownerd := s.sec.ownerd, cal := s.sec.cal, erased := s.sec.erased }
  let pw : Power := { Power.reset with
    life := .held, modRst := s.power.modRst, low := s.power.low, flToJ12 := s.power.flToJ12, perst := s.power.perst, cables := s.power.cables, therm := s.power.therm,
    addr := s.power.addr }
  let fw : Fw := { Fw.reset with flash := s.fw.flash }
  let t : State := { State.reset with
    pending := s.pending, ctr := s.ctr, nextId := s.nextId, regs := ⟨kept⟩, dev := s.dev, devPoison := s.devPoison, hostMem := s.hostMem,
    msix := s.msix, shown := s.shown, ep := s.ep, meter := s.meter, sec := sec, power := pw, fw := fw }
  t.showFuses

/-- Power states changed. -/
def State.setPower (s : State) (p : Power) : State := { s with power := p }
def State.setLife (s : State) (l : Life) : State := s.setPower { s.power with life := l }

/-- PWRGD is high from step 9 until a cold reset or undervoltage (R521). -/
def State.running (s : State) : Bool := s.power.life = .running

/-- R493, R503: what a running module does as a cold reset takes it: samples, and the RESET event. -/
def State.coldEntry (s : State) : State :=
  if s.running then (s.samples 6 (upFrom 0 256)).postReset 6 0 0x3F 0 else s

/-! ## Training and bring-up tests (R470, R471) -/

/-- R470: an event of this start, owed to each PF until its status ring is enabled. -/
def State.owe (s : State) (e : Event) : State :=
  { s with owed := (s.owed.set 0 (s.owed.get [] 0 ++ [e])).set 64 (s.owed.get [] 64 ++ [e]) }

/-- R470, R509: a memory port that start-up retires. -/
def State.retireAtStart (s : State) (u : Nat) : State :=
  ((s.retireUnit u).bump .sufail 0).owe
    { code := 0x0104, vdid := 0x3F, arg0 := if u < 256 then 1 else 2, arg1 := if u < 256 then u else u - 256, arg2 := 0 }

/-- R509: a spire that fails the self-test of step 6: a spare of its tower takes its place, or its number reads as retired. -/
def State.spireFailsTest (s : State) (n : Nat) : State :=
  match s.freeSpare n with
  | some k => (s.setSpire n { s.spire n with spare := some k }).owe { code := 0x0105, vdid := 0x3F, arg0 := n, arg1 := k, arg2 := 0 }
  | none => (s.setSpire n { s.spire n with retired := true }).owe { code := 0x0104, vdid := 0x3F, arg0 := 0, arg1 := n, arg2 := 0 }

/-- R221, R470: the crossings of the lock that have trained; five out of service are a failed lock. -/
def State.trainLock (s : State) (failed : List Nat) : State :=
  let out := (upFrom 0 16).filter (fun x => failed.contains x)
  let map := (upFrom 0 16).foldl (fun m x => if out.contains x then m else m + 2 ^ x) 0
  let down : Nat := if 5 ≤ out.length then 1 else 0
  (upFrom 0 2).foldl (fun (s : State) t => (s.setFld .lkstat t 15 0 map).setFld .lkstat t 16 16 down) s

/-- R470 step 6. -/
def State.train (s : State) (b : BringUp) : State :=
  let spares := (upFrom 256 8).filter (fun k => b.failedSpires.contains k)
  let s := spares.foldl (fun (s : State) k => s.setSpire k { s.spire k with retired := true }) s
  let s := ((upFrom 0 256).filter (fun n => b.failedSpires.contains n)).foldl State.spireFailsTest s
  let s := ((upFrom 0 264).filter (fun u => b.failedPorts.contains u)).foldl State.retireAtStart s
  s.trainLock b.failedCrossings

/-- R471: the bring-up tests of a port: the last pattern's settings stand in its generator; what it counted is the cells' own. -/
def State.testPort (s : State) (u pats : Nat) (failed : Bool) : State :=
  let k := s.ctr
  let f (i : Nat) : Nat := Config.free (k + i)
  let s := { s with ctr := k + 5 }
  let l := (upFrom 0 5).filter pats.testBit
  let last := l.foldl (fun _ p => p) 0
  let s := (s.setFld .tgctl u 4 2 last).setFld .tgctl u 6 5 2
  let s := ((s.setReg .tgseed u (BitVec.ofNat 64 (f 0))).setReg .tglen u (BitVec.ofNat 64 (portBytes u))).setFld .tgstat u 1 1 1
  let s := (s.bump .tgbytes u (l.length * portBytes u)).bump .tgce u (f 1)
  if ! failed then s
  else (((s.setFld .tgstat u 2 2 1).bump .tgerr u (1 + f 2)).setFld .tgfaddr u 35 0 (f 3)).setReg .tgfxor u (BitVec.ofNat 64 (f 4))

/-- The populated units of a port: the channel, or the segments of a controller as they fill. -/
def unitsOfPort (u : Nat) : List Nat := if u < 256 then [u] else (segmentsOf (u - 256)).map (256 + ·)

/-- R471 step 8: every port that the image's BRINGUP record names is tested, filled, and retired or reported where it failed. -/
def State.bringUpTests (s : State) (rec' : W64) (failed : List Nat) : State :=
  let pats (u : Nat) : Nat := if u < 256 then rec'.get 4 0 else rec'.get 12 8
  let l := (upFrom 0 264).filter (fun u => pats u ≠ 0 && ! s.unitRetired u)
  l.foldl
    (fun (s : State) u =>
      let bad := failed.contains u
      let s := ((unitsOfPort u).foldl State.zeroUnit (s.testPort u (pats u) bad)).bump .chscrn u
      if ! bad then s else if rec'.getLsbD 16 then s.retireAtStart u else s.bump .sufail 0)
    s

/-! ## Start-up (R462) -/

/-- The processor identifiers of R477. -/
def procIds : List Nat := upFrom 0 4 ++ upFrom 16 16

/-- Every processor runs (R481, R482). -/
def State.procsRun (s : State) : State := procIds.foldl (fun (s : State) p => s.setFld .fwproc p 1 0 1) s

/-- A step of R462 completed (R475). -/
def State.stepDone (s : State) (n : Nat) : State := s.setFld .sustat 0 3 0 n

/-- R473: the recovery state. -/
def State.recovery (s : State) (why : Nat) : State :=
  let s := s.setFw { s.fw with hostCfg := [(0, 0, false), (0, 0, false)] }
  (s.setFld .sustat 0 7 5 why).setFld .sustat 0 8 8 1

/-- R465: an image copy that is valid: D_IMG, IMGSEL and IMGSEQ. -/
def State.takeImage (s : State) (k why : Nat) : State :=
  let b := s.imageBytes k
  let s := s.setSec { s.sec with imgDigest := digest b }
  ((s.setFld .sustat 0 4 4 k).setFld .sustat 0 7 5 why).setReg .suimgseq 0 (BitVec.ofNat 64 (fieldOf b 8 8))

/-- R465, R473, R475 step 3: the records of the image that governs. Where both copies fail, IMGERR tells why the active one did (log 99). -/
def State.readImages (s : State) (ok : Bool) : List Rec × State :=
  if ! ok then ([], s.recovery 1)
  else
    let a := s.fld .fwslot 0 2 2
    let e := s.imageCheck a
    let e' := s.imageCheck (1 - a)
    if e = 0 then (recsOf (s.imageBytes a), s.takeImage a 0)
    else if e' = 0 then (recsOf (s.imageBytes (1 - a)), s.takeImage (1 - a) e)
    else ([], s.recovery e)

/-- R481: the firmware slot that runs: the active one where it is valid, else the other. -/
def State.bootSlot (s : State) : Option Nat :=
  let a := s.fld .fwslot 0 0 0
  if s.slotCheck a = 0 then some a else if s.slotCheck (1 - a) = 0 then some (1 - a) else none

/-- R436: T4 completed: its confirm fuse is blown, and the module never leaves reset again. -/
def State.scrap (s : State) : State :=
  let s := ((s.eraseScrap.blow (confirmFuse 4)).coldReset.showFuses).setMeter .reset
  s.setLife .scrapped

/-- R431 step 7: a transition that is resumed: its erasure, its confirm fuse, and the state it leads to. -/
def State.resume (s : State) (k : Nat) : State :=
  if k = 0 then s
  else (((s.erase k).blow (confirmFuse k)).showFuses.setFld .sustat 0 9 9 1).deriveAk

/-- R329, R462 step 9: charge granted to the south scheduler core with epoch 1. -/
def State.firstCharge (s : State) : State :=
  let split := s.fld .lkstat 0 16 16
  (((s.setFld .chg 0 0 0 1).setFld .chg 0 1 1 split).showStandby).setReg .chgepoch 0 1

/-- R475: SUTIME, and BTIME at step 9. In a start of the kind that the table of R462 times, step 9 ends by 460 ms. -/
def State.startTime (s : State) (plain : Bool) : State :=
  let (x, s) := s.free
  let (y, s) := s.free
  let ms := if plain then x % 461 else x % 2 ^ 32
  (s.setFld .sutime 0 31 0 ms).setReg .btime 0 (s.reg .btime 0 + BitVec.ofNat 64 (tickMs * ms + y % tickMs))

/-- R499: the fills that run from step 9: every unit in service that bring-up has not filled. -/
def State.backgroundFills (s : State) (filled : Nat → Bool) : State :=
  let l := (upFrom 0 320).filter (fun u => ! filled (portOfUnit u) && ! s.unitRetired (portOfUnit u))
  l.foldl (fun (s : State) u => s.addFill u false) s

/-- Steps 5 to 10 of R462, once a firmware slot runs: records applied, memory trained, a transition resumed, tests run, charge granted. -/
def State.raise (s : State) (b : BringUp) (k : Nat) (recs : List Rec) : State :=
  let s := (recs.foldl State.applyRec s).stepDone 5
  let s := (s.train b).stepDone 6
  let s := (s.resume k).stepDone 7
  let bring := bringupOf recs
  let s := (s.bringUpTests bring b.failedTests).stepDone 8
  let tests : Bool := bring.get 4 0 ≠ 0 || bring.get 12 8 ≠ 0
  let plain := b.firstTry && b.failedPorts.isEmpty && b.failedCrossings.isEmpty && k = 0 && ! tests
  let s := ((s.startTime plain).firstCharge).stepDone 9
  let filled (u : Nat) : Bool := decide (2 ≤ k) || (if u < 256 then bring.get 4 0 ≠ 0 else bring.get 12 8 ≠ 0)
  let s := s.backgroundFills filled
  ((upFrom 0 24).foldl State.retrainCanal (s.stepDone 10)).setLife .running

/-- R462: start-up from step 2. It is held while MOD_RST_L is low, V54 is out of range, or the flash bus is switched to J12 (R526, R527, R529). -/
def State.startUp (s : State) (b : BringUp) : State :=
  if s.power.modRst || s.power.low || s.power.flToJ12 then s.showFuses.setLife .held
  else
    let uneven := fusesUneven s.sec.fuses
    let s := (s.setSec { s.sec with fuses := mendFuses s.sec.fuses }).showFuses
    let s := (if uneven then s.setFld .lcstat 0 7 7 1 else s).stepDone 2
    let (st, k) := decodeFuses (logicalFuses s.sec.fuses)
    if k = 4 then s.scrap
    else if st = 5 then s.setLife .scrapped
    else
      let (recs, s) := (if b.flashOk then s.showDir else s).readImages b.flashOk
      let s := s.stepDone 3
      match if b.flashOk then s.bootSlot else none with
      | none => s.setLife .held
      | some slot => ((s.runSlot slot).procsRun.stepDone 4).raise b k recs

/-- Is the module powered: neither without 54 V, nor off after a trip or overcurrent, nor scrapped (R436, R452, R526)? -/
def State.powered (s : State) : Bool := s.power.life = .running || s.power.life = .held

/-- R496 COLD_DEVICE_RESET: a cold device reset, then start-up from step 2. -/
def State.coldRestart (s : State) (b : BringUp) : State := if s.powered then (s.coldEntry.coldReset).startUp b else s

/-! ## Warm reset (R470, R482, R496) -/

/-- R482: every processor restarts from the running set, or, while FWDEV is in force, from the flash; with no valid slot the module is held
(R474). -/
def State.restartProcs (s : State) : State :=
  if ! s.right 7 then s.procsRun
  else match s.showDir.bootSlot with
    | none => s.setLife .held
    | some k => (s.showDir.runSlot k).procsRun

/-- R332, R470: the lock's crossings retrained: split mode ends when every one trains. -/
def State.retrainLock (s : State) (failed : List Nat) : State :=
  let t := s.trainLock failed
  if t.fld .lkstat 0 15 0 = 0xFFFF then t.setFld .chg 0 1 1 0
  else if t.bit .lkstat 0 16 then t.splitLock
  else (upFrom 0 2).foldl (fun (t : State) k => t.setFld .lkstat k 16 16 (s.fld .lkstat k 16 16)) t

/-- R496 code 5. -/
def State.warmReset (s : State) (b : BringUp) : State :=
  let s := s.activeVds.foldl (fun (s : State) v => s.vdReset v 5) s
  let s := s.postReset 5 0 0x3F 0
  let s := (s.setPower { s.power with linkUp := [false, false], railOff := [false, false] }).resetPf 0
  let s := (s.resetPf 1).restartProcs
  let s := (s.retrainLock b.failedCrossings).showStandby
  (upFrom 0 24).foldl State.retrainCanal s

/-! ## Tower reset (R496, R501) -/

/-- The scheduler core of a tower: processor 2 is north, 3 south; CHG names the holder 0 north, 1 south. Charge moves in split mode too: the
arbiter reaches both cores (R16). -/
def State.yieldCharge (s : State) (t : Nat) : State :=
  if s.fld .chg 0 0 0 = t && s.procState (3 - t) = 1 then s.grantCharge (1 - t) else s

/-- R387: the barge channels of a tower's engines stop, and their BRUNs retire with ABORTED. -/
def State.stopTowerBarges (s : State) (t : Nat) : State :=
  (s.barges.cells.filter (fun (k : Nat × BargeRun) => bargeTower k.1 = t && ! k.2.stopping)).foldl
    (fun (s : State) k =>
      (s.finishCmd k.2.queue k.2.cseq ⟨stAborted, 0, BitVec.ofNat 64 k.2.recorded, s.errStatus kindReset 0⟩).haltBarge k.1)
    s

/-- R496: walkers and caches of a tower. -/
def State.dropTowerCaches (s : State) (t : Nat) : State :=
  let here (c : Nat) : Bool :=
    if c < 16 then c / 8 = t else if c < 80 then towerOfEngine (c - 16) = t else c % 2 = t
  let walks : Tab Walk := ⟨s.trans.walks.cells.filter (fun (c : Nat × Walk) => c.2.tower ≠ t)⟩
  s.setTrans { s.trans with
    leaves := s.trans.leaves.filter (fun l => ! here l.cache), branches := s.trans.branches.filter (fun l => l.tower ≠ t), walks := walks }

/-- R496 code 4. -/
def State.towerReset (s : State) (t : Nat) : State :=
  let s := s.yieldCharge t
  let held := s.activeVds.filter (fun v => s.vdInTower v t)
  let s := held.foldl (fun (s : State) v => s.vdReset v 4) s
  let side (e : Evac) : Bool := e.dst.any (fun d => (if e.far then towerOfFar (d / 8) else towerOfChannel d) = t)
  let s := s.evacsAbort side
  let rest := (upFrom (128 * t) 128).filter (fun n => (s.spire n).vdid = 0x3F)
  let s := rest.foldl State.zeroSpire s
  let s := (upFrom (8 * t) 8).foldl State.clusterParts s
  let s := (s.stopTowerBarges t).dropTowerCaches t
  s.postReset 4 t 0x3F 0

/-- R496 TOWER_RESET. -/
def execTowerReset (t : Tower) (s : State) : Out := .next (s.towerReset t.val)

/-- R470, R482, R496 WARM_DEVICE_RESET. -/
def execWarmDeviceReset (b : BringUp) (s : State) : Out := .next (if s.running then s.warmReset b else s)

/-- R462, R482, R496 COLD_DEVICE_RESET. -/
def execColdDeviceReset (b : BringUp) (s : State) : Out := .next (s.coldRestart b)

end Sys2Proof.Machine
end

