-- ==== Sys2Proof/Machine/Pins.lean ====
section
/-! DEFINITION. 54 V, the module reset line, PERST_L, cables (chapters 19, 22). -/

namespace Sys2Proof.Machine

/-! ## 54 V (R462, R526) -/

/-- R158, R447, R457, R526: what stands when 54 V is gone: fuses, flash, BSPARE, which is never reset (log 184), the levels of the lines outside,
and what the model keeps for itself. -/
def State.powerLost (s : State) (l : Life) : State :=
  let sec : Sec := { Sec.reset with
    fuses := s.sec.fuses, svn := s.sec.svn, serial := s.sec.serial, ownerd := s.sec.ownerd, cal := s.sec.cal, erased := s.sec.erased }
  let pw : Power := { Power.reset with life := l, modRst := s.power.modRst, perst := s.power.perst, cables := s.power.cables }
  let fw : Fw := { Fw.reset with flash := s.fw.flash }
  let spares := s.regs.cells.filter (fun (c : Nat × W64) => c.1 / 2 ^ 20 = RegName.bspare.code)
  { State.reset with
    pending := s.pending, ctr := s.ctr, nextId := s.nextId, regs := ⟨spares⟩, hostMem := s.hostMem, msix := s.msix, shown := s.shown, ep := s.ep, sec := sec, power := pw,
    fw := fw }

/-- R529: FL_HOLD_L sampled. -/
def State.sampleHold (s : State) (b : BringUp) : State := s.setPower { s.power with flToJ12 := b.flHoldLow }

/-- R437, R457, R458, R460: the meter at power-up: MTRBOOT drawn, RECSEQ at 1, MTRCAL from its fuses. -/
def State.startMeter (s : State) (b : BringUp) : State :=
  let s := s.setReg .mtrboot 0 (b.boot.zeroExtend 64)
  s.sec.cal.zipIdx.foldl (fun (s : State) (c : Nat × Nat) => s.setReg .mtrcal c.2 (BitVec.ofNat 64 c.1)) s

/-- R525: step 1 of start-up reads the address straps. -/
def State.readStraps (s : State) (b : BringUp) : State := s.setPower { s.power with addr := b.addr }

/-- R525: the 7-bit SMBus address at which the BMC port answers: 0x40 + 2 × ADDR1 + ADDR0. -/
def State.bmcAddress (s : State) : Nat := 0x40 + s.power.addr.toNat

/-- R525: the 7-bit SMBus address at which the meter port answers. -/
def meterAddress : Nat := 0x4D

/-- R462 POWER_UP: 54 V is applied to a module that is without it, or stands as after reset; not to one that runs, has tripped or whose switch
is open. -/
def execPowerUp (b : BringUp) (s : State) : Out :=
  .next (
    if s.power.life = .off || s.power.life = .held then ((((s.powerLost .held).startMeter b).readStraps b).sampleHold b).startUp b
    else s)

/-- R526: a cold device reset that is held while V54 is out of range: VBELL, BTIME and the meter stay. -/
def State.brownOut (s : State) : State :=
  let s := if s.powered then s.coldReset else s
  s.setPower { s.power with low := true }

/-- R526 UNDERVOLTAGE: V54 below 44 V for 100 µs. -/
def execUndervoltage (s : State) : Out := .next s.brownOut

/-- R526 OVERVOLTAGE: above 60 V as below 44 V; above 65 V the spec gives nothing but that damage may result. -/
def execOvervoltage (mV : Nat) (s : State) : Out :=
  if 65000 < mV then .fault .absoluteMaximum else .next (if 60000 < mV then s.brownOut else s)

/-- R526 V54_RESTORED: V54 is in range again: start-up resumes, unless the module has tripped. -/
def execV54Restored (b : BringUp) (s : State) : Out :=
  .next (
    if ! s.power.low then s
    else
      let s := (s.setPower { s.power with low := false }).sampleHold b
      if s.powered then s.startUp b else s)

/-- R447, R452, R457, R526 V54_REMOVED: V54 below 38 V. -/
def execV54Removed (s : State) : Out := .next (s.powerLost .off)

/-- R526 OVERCURRENT: the input switch opens. -/
def execOvercurrent (s : State) : Out := .next (if s.power.life = .off then s else s.powerLost .opened)

/-- R452 THERMAL_TRIP: rails off, jobs closed with TRIP, THERM_L low, until 54 V is removed. -/
def execThermalTrip (s : State) : Out :=
  .next (
    if ! s.powered then s
    else
      let t := (s.closeJobs 4).coldReset
      t.setPower { t.power with life := .tripped, therm := true })

/-! ## The module reset line (R521, R527) -/

/-- R496, R527 MOD_RST_ASSERT: a cold device reset starts, and is held. -/
def execModRstAssert (s : State) : Out :=
  let s := s.setPower { s.power with modRst := true }
  .next (if s.powered then s.coldEntry.coldReset else s)

/-- R527, R529, R531 MOD_RST_RELEASE: start-up from step 2; a module that has tripped stays off. -/
def execModRstRelease (b : BringUp) (s : State) : Out :=
  .next (
    if ! s.power.modRst then s
    else
      let s := (s.setPower { s.power with modRst := false }).sampleHold b
      if s.powered then s.startUp b else s)

/-! ## Host ports (R463, R527) -/

/-- R523, R527 PERST_ASSERT: a running module sees a link-down of the port (R312). -/
def execPerstAssert (port : Port) (s : State) : Out :=
  let p := port.val
  let s := s.setPower { s.power with perst := s.power.perst.set p false, linkUp := s.power.linkUp.set p false }
  .next (if s.running then s.resetPf p else s)

/-- R463 PERST_RELEASE: the port may train, once start-up has come to step 9. -/
def execPerstRelease (port : Port) (s : State) : Out :=
  .next (s.setPower { s.power with perst := s.power.perst.set port.val true })

/-- R463, R467, R470 HOST_LINK_UP: the link of a port that may train is up. -/
def execHostLinkUp (port : Port) (s : State) : Out :=
  let p := port.val
  .next (
    if s.running && s.power.perst.getD p false && ! (s.fw.hostCfg.getD p (63, 0, false)).2.2 then
      s.setPower { s.power with linkUp := s.power.linkUp.set p true }
    else s)

/-! ## Cables (R520) -/

/-- R520 CABLE_SEATED: the canal may leave DOWN. -/
def execCableSeated (c : Canal) (s : State) : Out :=
  .next ((s.setPower { s.power with cables := s.power.cables ||| (1#24 <<< c.val) }).trainCanal c.val)

/-- R257, R520, R531 CABLE_REMOVED: the canal goes DOWN. -/
def execCableRemoved (c : Canal) (s : State) : Out :=
  .next ((s.setPower { s.power with cables := s.power.cables &&& ~~~(1#24 <<< c.val) }).canalDown c.val)

end Sys2Proof.Machine
end

