-- ==== Sys2Proof/Machine/PowerCore.lean ====
section
/-! DEFINITION. Frequency, capping, thermal limits and regulators (R439 to R451, R510), the module's sleep (R449), the baseboard interface (R459)
and the meter inspection port (R458). -/

namespace Sys2Proof.Machine

/-! ## The 100 µs tick (R441, R443, R451) -/

/-- R440: the budgets of the rails, in W. -/
def railBudgets : List Nat := [520, 520, 450, 70, 200, 155, 35]

/-- R443, R510: is a rail over its budget, or counted so for a warning? -/
def railOver (t : Telemetry) : Bool :=
  railBudgets.zipIdx.any (fun (b : Nat × Nat) => decide (b.1 < t.railW.getD b.2 0) || t.warn.getD b.2 false)

/-- R443: the frequency that follows: down as far as the measurement calls for, at most one step up where the power lies 3 % below the cap. How
far is free (log 103). -/
def nextFreq (f : Nat) (broken room : Bool) (x : Nat) : Nat :=
  if broken then f - 25 * min ((f - 700) / 25) (1 + x % 42)
  else if room && decide (f < 1750) then f + 25 * (x % 2)
  else f

/-- R441, R459: the telemetry shown. -/
def State.showTelemetry (s : State) (t : Telemetry) : State :=
  let s := s.setPower { s.power with vin := t.vin, iin := t.iin, statusWord := t.statusWord, ein := s.power.ein + 100 * t.inputW }
  let b (x : Int) : Nat := (x % 256).toNat
  (((s.setFld .pwstat 0 28 13 t.inputW).setFld .thstat 0 7 0 (b t.die)).setFld .thstat 0 15 8 (b t.hbm)).setFld .thstat 0 23 16 (b t.car)

/-- R443, R451, R460: the frequency chosen, and the bits that say why. -/
def State.chooseFreq (s : State) (t : Telemetry) : State :=
  let (x, s) := s.free
  let (n, s) := s.free
  let cap := s.fld .pwcap 0 11 0
  let lim : Int := s.fld .thlim 0 7 0
  let dieHot := decide (lim < t.die) || (s.power.dieHot && decide (lim - 3 < t.die))
  let stackHot := decide (105 < t.hbm) || (s.power.stackHot && decide (102 ≤ t.hbm))
  let overCap := decide (cap < t.inputW)
  let room := decide (100 * t.inputW ≤ 97 * cap)
  let f := nextFreq (s.fld .pwstat 0 10 0) (overCap || railOver t || dieHot) room x
  let capped := overCap || (decide (f < 1750) && ! room)
  let therm := dieHot || stackHot || s.hot
  let bit (c : Bool) : Nat := if c then 1 else 0
  let s := s.setPower { s.power with dieHot := dieHot, stackHot := stackHot }
  let s := ((s.setFld .pwstat 0 10 0 f).setFld .pwstat 0 11 11 (bit capped)).setFld .pwstat 0 12 12 (bit therm)
  let s := s.setFld .thstat 0 24 24 (bit therm)
  let s := if decide (f < 1750) && (capped || railOver t) then s.bump .pwthr 0 (n % 175001) else s
  if dieHot || s.hot then s.bump .pwtthr 0 (n % 175001) else s

/-- R451: the die at 110 °C: every running kernel is saved; below 100 °C the kernels resume. -/
def State.dieLimit (s : State) (t : Telemetry) : State :=
  if ! s.hot && decide (110 ≤ t.die) then
    let s := (upFrom 0 256).foldl State.preempt { s with hot := true }
    let (e, s) := s.openEvent 0x0203 0x3F none
    s.postPFs e
  else if s.hot && decide (t.die < 100) then s.activeVds.foldl State.fill { s with hot := false }
  else s

/-- R493: a regulator event. -/
def State.postRegulator (s : State) (r : Nat) (t : Telemetry) (action : Nat) : State :=
  s.postPFs { code := 0x010A, vdid := 0x3F, arg0 := r, arg1 := t.statusWord.toNat, arg2 := action }

/-- R510: warnings, each reported as it appears. -/
def State.railWarnings (s : State) (t : Telemetry) : State :=
  let new := (upFrom 0 7).filter (fun r => t.warn.getD r false && ! s.power.warned.getD r false)
  let s := new.foldl (fun (s : State) r => s.postRegulator r t 0) s
  s.setPower { s.power with warned := (upFrom 0 7).map (fun r => t.warn.getD r false) }

/-- R332, R510: a core rail is off: its tower is held in tower reset, the lock is declared failed, split mode follows. -/
def State.coreRailOff (s : State) (t : Telemetry) (tower : Nat) : State :=
  let s := s.postRegulator tower t 1
  let s := (s.towerReset tower).setPower { s.power with railOff := s.power.railOff.set tower true }
  ((s.setFld .lkstat 0 16 16 1).setFld .lkstat 1 16 16 1).splitLock

/-- R510: rails that are off. -/
def State.railsOff (s : State) (t : Telemetry) (b : BringUp) : State :=
  let off (r : Nat) : Bool := t.railOff.getD r false
  let cores := (upFrom 0 2).filter (fun r => off r && ! s.power.railOff.getD r false)
  let s := cores.foldl (fun (s : State) r => s.coreRailOff t r) s
  match (upFrom 2 4).find? off with
  | some r => (s.postRegulator r t 2).coldRestart b
  | none => s

/-- R443, R451, R510 POWER_CONTROL_TICK. While the power core is away or failed nothing is done (R483, R484). -/
def execPowerControlTick (t : Telemetry) (b : BringUp) (s : State) : Out :=
  .next (
    if 2 ≤ s.procState 1 then s
    else (((((s.showTelemetry t).chooseFreq t).dieLimit t).railWarnings t).railsOff t b))

/-- R444 DROOP_STRETCH: a tower's clock is stretched for some cycles, until the supply recovers. -/
def execDroopStretch (t : Tower) (cycles : Nat) (s : State) : Out :=
  .next ((s.setPower { s.power with stretch := s.power.stretch.set t.val true }).bump .pwdroop 0 cycles)

/-- R444 DROOP_RECOVER. -/
def execDroopRecover (t : Tower) (s : State) : Out := .next (s.setPower { s.power with stretch := s.power.stretch.set t.val false })

/-- R445 HINT_EXPIRY. -/
def execHintExpiry (sp : Sp) (s : State) : Out := .next (s.dropHint sp.val)

/-! ## Sleep (R449) -/

/-- R449: is every unit in service moored, no command left to fetch, no barge channel running? -/
def State.allMoored (s : State) : Bool :=
  (upFrom 0 256).all (fun n => (s.spire n).moored || (s.spire n).retired)
    && (upFrom 0 256).all (fun c => (s.basin c).moored || s.unitRetired c)
    && (upFrom 0 264).all (fun u => (s.port u).moored || s.unitRetired u)
    && s.objs.queues.live.keys.all (fun q => s.reg .qcprod q = s.reg .qccons q)
    && s.barges.cells.isEmpty

/-- R449 MODULE_MOOR. -/
def execModuleMoor (s : State) : Out :=
  .next (if s.bit .pwmoor 0 32 && s.allMoored then s.setPower { s.power with moored := true } else s)

/-- R449 MODULE_WAKE, whatever the cause. -/
def execModuleWake (_cause : WakeCause) (s : State) : Out := .next (s.setPower { s.power with moored := false })

/-! ## The baseboard (R459, R523) -/

/-- The bytes of a value over PMBus. -/
def pmbus (code : Nat) (v : Int) : List Byte := (upFrom 0 (Config.pmbusLen code)).map (Config.pmbusByte code v)

/-- R523: a read by the baseboard: what it answers stands in `shown`, nothing where the address is not acknowledged. -/
def State.bmcRead (s : State) (code : Nat) (v : Int) : State := { s with shown := if s.running then pmbus code v else [] }

/-- Bits [7:0] of a byte read as a signed temperature. -/
def degrees (x : Nat) : Int := toSigned 8 x

/-- R459 STATUS_WORD: the PMBus status with CAPPED and THERM of PWSTAT above it. -/
def execStatusWord (s : State) : Out :=
  .next (s.bmcRead 0x79 (s.power.statusWord.toNat + 65536 * s.fld .pwstat 0 12 11 : Nat))

/-- R521: BMC_ALERT_L is low while STATUS_WORD has any bit set. -/
def State.alert (s : State) : Bool := s.running && (s.power.statusWord ≠ 0 || s.fld .pwstat 0 12 11 ≠ 0)

/-- R459 READ_EIN. -/
def execReadEin (s : State) : Out := .next (s.bmcRead 0x86 s.power.ein)
/-- R459 READ_VIN. -/
def execReadVin (s : State) : Out := .next (s.bmcRead 0x88 s.power.vin)
/-- R459 READ_IIN. -/
def execReadIin (s : State) : Out := .next (s.bmcRead 0x89 s.power.iin)
/-- R459 READ_PIN. -/
def execReadPin (s : State) : Out := .next (s.bmcRead 0x97 (s.fld .pwstat 0 28 13))
/-- R459 READ_TEMPERATURE_1: the highest die sensor. -/
def execReadTemperature1 (s : State) : Out := .next (s.bmcRead 0x8D (degrees (s.fld .thstat 0 7 0)))
/-- R459 READ_TEMPERATURE_2: the highest HBM sensor. -/
def execReadTemperature2 (s : State) : Out := .next (s.bmcRead 0x8E (degrees (s.fld .thstat 0 15 8)))
/-- R459 READ_TEMPERATURE_3: the carrier sensor. -/
def execReadTemperature3 (s : State) : Out := .next (s.bmcRead 0x8F (degrees (s.fld .thstat 0 23 16)))

/-- R459 MFR_POWER_CAP: a read of PWCAP, or a write under the rule of host writes, refused where PWCAP is not dynamic; a write that is acknowledged
shows one byte. -/
def execMfrPowerCap (w : Option Nat) (s : State) : Out :=
  .next (
    match w with
    | none => s.bmcRead 0xD0 (s.fld .pwcap 0 11 0)
    | some x =>
      if s.running && s.dynamic 0x1000000 .pwcap then
        { s.writeReg .pwcap 0 (BitVec.ofNat 64 x) (BitVec.allOnes 64) with shown := [0] }
      else { s with shown := [] })

/-! ## The meter inspection port (R458) -/

/-- VBELL is up, and the module is not scrapped: the inspection port answers (R523). -/
def State.meterUp (s : State) : Bool := s.power.life = .running || s.power.life = .held || s.power.life = .tripped

/-- The meter's registers in the order of R460. -/
def meterRegs : List (RegName × Nat) :=
  [RegName.mtrstat, .mtrseq, .mtrack, .mtrboot, .mtrmod, .mtridle].map (fun r => (r, 0)) ++ (upFrom 0 7).map (fun i => (.mtrcal, i))

/-- The byte that an offset of the inspection port reads. -/
def State.inspect (s : State) (off : Nat) : Byte :=
  let i := Config.inspectIndex off
  let k := Config.inspectByte off
  match Config.inspectKind off % 3 with
  | 0 => ((s.meter.ring.find? (fun r => r.seq.toNat = i)).map MRec.bytes).getD [] |>.getD k 0
  | 1 => match meterRegs[i % 13]? with | some (r, j) => (bytesLE 8 (s.reg r j).toNat).getD (k % 8) 0 | none => 0
  | _ => (s.storeCert 5).getD k 0

/-- R458 METER_INSPECT_READ. -/
def execMeterInspectRead (off n : Nat) (s : State) : Out :=
  .next { s with shown := if s.meterUp then (upFrom off n).map s.inspect else [] }

/-- R428, R458 METER_CALIBRATION_WRITE: the calibration fuses of a rail, in MAKER and INTEGRATOR. -/
def execMeterCalibrationWrite (rail : Fin 7) (v : BitVec 32) (s : State) : Out :=
  .next (
    if s.meterUp && (s.lcState = 1 || s.lcState = 2) then
      (s.setSec { s.sec with cal := s.sec.cal.set rail.val v.toNat }).setReg .mtrcal rail.val (v.zeroExtend 64)
    else s)

/-! ## Background (R508) -/

/-- R508 SENSOR_CALIBRATION: sensors and droop detectors against the belfry's reference: no state that anything reads changes (log 104). -/
def execSensorCalibration (s : State) : Out := .next s

/-- R508 WEAR_LEVELLING: log blocks of the flash move; where a block lies is the belfry's own (log 104). -/
def execWearLevelling (s : State) : Out := .next s

end Sys2Proof.Machine
end

