-- ==== Sys2Proof/Machine/Processors.lean ====
section
/-! DEFINITION. Firmware processors (chapter 20): rings and their requests (R486), restart alone, watchdogs, live update, log ring; the flash
programmer (R529) and the debug TAP (R528, R434). -/

namespace Sys2Proof.Machine

/-! ## Rings (R325, R486) -/

/-- The oldest request of a port's ring that has not been taken. -/
def State.fwRequest (s : State) (p : Nat) : Option (List Byte) :=
  let n := s.fw.reqCons.getD p 0
  if n = s.fw.reqProd.getD p 0 then none
  else some ((s.fw.rings.get .zero p).readN (64 * (n.toNat % 256)) 64)

/-- Is there room in the response ring? -/
def State.fwRoom (s : State) (p : Nat) : Bool := decide ((s.fw.rspProd.getD p 0 - s.fw.rspCons.getD p 0).toNat < 256)

/-- What a request comes to: status, VALUE; or it waits its turn. -/
inductive FwEnd where
  | status (st : Nat) (v : W64)
  | hold

/-- A response written, and its request taken (R486). -/
def State.fwRespond (s : State) (p : Nat) (req : List Byte) (st : Nat) (v : W64) : State :=
  let n := s.fw.rspProd.getD p 0
  let b := req.take 8 ++ bytesLE 1 st ++ List.replicate 7 0 ++ bytesLE 8 v.toNat ++ List.replicate 40 0
  let m := (s.fw.rings.get .zero p).writeN (0x4000 + 64 * (n.toNat % 256)) b
  s.setFw { s.fw with
    rings := s.fw.rings.set p m, rspProd := s.fw.rspProd.set p (n + 1), reqCons := s.fw.reqCons.set p (s.fw.reqCons.getD p 0 + 1) }

/-- R4, R486: are reserved bytes of a request nonzero, `n` bytes of its body being in use? -/
def fwStray (req : List Byte) (n : Nat) : Bool := (partOf req 9 7 ++ req.drop (16 + n)).any (fun b => b ≠ 0)

/-- R486: the request at the head of a port's ring, when `mine` takes its OP; `n` bytes of its body are in use. Without room for the response it
waits. -/
def fwRequestOf (port : Port) (mine : Nat → Bool) (n : Nat) (work : State → Nat → List Byte → State × FwEnd) (s : State) : Out :=
  let p := port.val
  .next (
    match s.fwRequest p with
    | none => s
    | some req =>
      if ! mine (fieldOf req 8 1) || ! s.fwRoom p then s
      else if fwStray req n then s.fwRespond p req stReserved 0
      else match work s p req with
        | (_, .hold) => s
        | (t, .status st v) => t.fwRespond p req st v)

/-- A request that ends with a status and no other effect. -/
def State.fwFail (s : State) (st : Nat) : State × FwEnd := (s, .status st 0)

/-- R486 FW_INFO. An OP that is none of the table's is reserved. -/
def execFwInfo (port : Port) (s : State) : Out :=
  fwRequestOf port (fun op => op = 0 || op = 1 || decide (6 < op)) 8
    (fun s p req =>
      let bus := fieldOf req 16 8
      if fieldOf req 8 1 ≠ 1 then s.fwFail stReserved
      else if bus % 64 ≠ 0 then s.fwFail stOperand
      else
        let b := bytesLE 8 s.fw.slotSeq.toNat ++ bytesLE 8 (s.reg .fwinfo 0).toNat ++ bytesLE 1 (s.fld .fwslot 0 8 3) ++ List.replicate 15 0
          ++ (upFrom 0 32).flatMap (fun q => bytesLE 1 ((s.regView .fwproc q).get 7 0))
        (s.hostWrite p bus b, .status 0 s.fw.slotSeq))
    s

/-! ## Flash in service (R486) -/

/-- Does a range lie within a region? -/
def within (off len base size : Nat) : Bool := decide (base ≤ off) && decide (off + len ≤ base + size)

/-- R486: may a range be written in service? -/
def State.flashOpen (s : State) (off len : Nat) : Bool :=
  let fw := s.fld .fwslot 0 0 0
  let img := s.fld .fwslot 0 2 2
  within off len (slotBase (1 - fw)) slotRegion || within off len (imageBase (1 - img)) imageRegion
    || (s.bit .sustat 0 8 && within off len (imageBase img) imageRegion)

/-- Bytes that nothing determines (log 105). -/
def State.freeBytes (s : State) (n : Nat) : List Byte × State :=
  let k := s.ctr
  ((upFrom 0 n).map (fun i => BitVec.ofNat 8 (Config.free (k + i))), { s with ctr := k + n })

/-- R486 FLASH_WRITE: what was read from the host, and whether erase, write and read-back succeed; where they fail the range is left partial. -/
def execFlashWrite (port : Port) (host : HostAns) (good : Bool) (s : State) : Out :=
  fwRequestOf port (fun op => op = 2) 16
    (fun s _ req =>
      let off := fieldOf req 16 4
      let len := fieldOf req 20 4
      let put (s : State) (b : List Byte) : State := s.setFw { s.fw with flash := s.fw.flash.writeN off b }
      if off % 4096 ≠ 0 || len % 4096 ≠ 0 || decide (65536 < len) || ! s.flashOpen off len then s.fwFail stOperand
      else
        let bad (s : State) : State × FwEnd := let (b, s) := s.freeBytes len; (put s b, .status 0x20 0)
        match host with
        | .busError => bad s
        | .data b => if good then (put s (b.take len ++ List.replicate (len - b.length) 0), .status 0 0) else bad s)
    s

/-- R465, R486: the status with which a request ends that would activate an image copy: a failed check is a failed signature or digest, but for
a copy that the state does not permit (log 106). -/
def State.imageStatus (s : State) (k : Nat) : Nat :=
  match s.imageCheck k with
  | 0 => 0
  | 5 => if (fieldOf (s.imageBytes k) 24 1).testBit s.lcState then stAuth else stLifecycle
  | 4 => if s.imgSignerOk (fieldOf (s.imageBytes k) 25 1) then stAuth else stLifecycle
  | _ => stAuth

/-- R478, R480, R486 FLASH_ACTIVATE. -/
def execFlashActivate (port : Port) (s : State) : Out :=
  fwRequestOf port (fun op => op = 3) 1
    (fun s _ req =>
      let w := fieldOf req 16 1
      let fw := if w.testBit 0 then 1 - s.fld .fwslot 0 0 0 else s.fld .fwslot 0 0 0
      let img := if w.testBit 1 then 1 - s.fld .fwslot 0 2 2 else s.fld .fwslot 0 2 2
      let e := if w.testBit 0 || w.testBit 2 then s.slotCheck fw else 0
      let e' := if w.testBit 1 then s.imageStatus img else 0
      if 8 ≤ w then s.fwFail stReserved
      else if e ≠ 0 then s.fwFail e
      else if e' ≠ 0 then s.fwFail e'
      else
        let s := if w.testBit 0 || w.testBit 1 then s.writeDir fw img else s
        let s := if w.testBit 2 then
            let n := max s.sec.svn (s.slotHead fw).1
            (s.setSec { s.sec with svn := n }).setFld .fwslot 0 8 3 n
          else s
        (s, .status 0 0))
    s

/-! ## Log ring (R487, R488) -/

/-- The image of a processor, in bits 15:12 of its trace points (R487). -/
def imageOf (p : Nat) : Nat := if p = 0 then 0 else if p = 1 then 1 else if p < 4 then 2 else 3

/-- R488: firmware of a processor passes a trace point, or none: whether, which, its level and its arguments are firmware's own (log 107). -/
def State.tracePoint (s : State) (p : Nat) : State :=
  let k := s.ctr
  let w (i : Nat) : Nat := Config.free (k + i)
  let s := { s with ctr := k + 8 }
  let level := w 1 % 4
  let seq := s.reg .logprod 0
  let open' : Bool := level ≠ 3 || s.lcState ≠ 3 || s.right 0
  if w 0 % 2 = 0 || decide (s.fld .fwproc p 6 5 < level) || ! open' then s
  else
    let b := bytesLE 8 seq.toNat ++ bytesLE 8 (s.reg .btime 0).toNat ++ bytesLE 1 p ++ bytesLE 1 level
      ++ bytesLE 2 (imageOf p * 4096 + w 2 % 4096) ++ bytesLE 4 0 ++ (upFrom 3 5).flatMap (fun i => bytesLE 8 (w i))
    (s.setFw { s.fw with log := s.fw.log.set (seq.toNat % 16384) b }).setReg .logprod 0 (seq + 1)

/-- R486, R488 LOG_LEVEL. -/
def execLogLevel (port : Port) (s : State) : Out :=
  fwRequestOf port (fun op => op = 6) 2
    (fun s _ req =>
      let p := fieldOf req 16 1
      let l := fieldOf req 17 1
      let ids := if p = 0xFF then procIds else [p]
      if (p ≠ 0xFF && ! procIds.contains p) || decide (3 < l) then s.fwFail stOperand
      else (ids.foldl (fun (s : State) q => (s.setFld .fwproc q 6 5 l).tracePoint q) s, .status 0 0))
    s

/-! ## Restart alone (R483) -/

/-- R331, R483: a scheduler core in charge gives charge to the standby core before it stops. -/
def State.leaveCharge (s : State) (p : Nat) : State := if p = 2 || p = 3 then s.yieldCharge (p - 2) else s

/-- R483: a processor stops, to restart alone. -/
def State.stopProc (s : State) (p : Nat) : State :=
  (((s.leaveCharge p).setFld .fwproc p 1 0 2).bump .fwrest p).showStandby

/-- R483, R486 PROC_RESTART. What a request that names a failed processor ends with, the spec does not say: it is refused with BUSY or
OPERAND (log 108). -/
def execProcRestart (port : Port) (s : State) : Out :=
  fwRequestOf port (fun op => op = 5) 1
    (fun s _ req =>
      let p := fieldOf req 16 1
      if ! procIds.contains p then s.fwFail stOperand
      else if s.procState p = 3 then
        let (x, s) := s.free
        s.fwFail (if x % 2 = 0 then stBusy else stOperand)
      else (s.stopProc p, .status 0 0))
    s

/-- R483 RESTART_ALONE: a processor has read its shadow registers, and resumes. -/
def execRestartAlone (p : Fin 32) (s : State) : Out :=
  let n := p.val
  .next (
    if s.procState n ≠ 2 then s
    else
      let s := ((s.setFld .fwproc n 1 0 1).showStandby).tracePoint n
      if n < 16 then s else s.activeVds.foldl State.fill s)

/-! ## Watchdogs (R484, R510) -/

/-- R484 WATCHDOG_WRITE: the period starts again; that it passes unwritten is WATCHDOG_EXPIRY. -/
def execWatchdogWrite (_p : Fin 32) (s : State) : Out := .next s

/-- R484, R510: a processor has failed. -/
def State.procFails (s : State) (p : Nat) : State :=
  let s := ((s.leaveCharge p).setFld .fwproc p 1 0 3).showStandby
  let s := s.postPFs { code := 0x0109, vdid := 0x3F, arg0 := p, arg1 := (s.reg .fwrest p).toNat, arg2 := 0 }
  if p = 1 then s.setFld .pwstat 0 10 0 700
  else if 16 ≤ p then
    ((s.clusterReset (p - 16)).postReset 1 (p - 16) 0x3F 0).postPFs
      { code := 0x0104, vdid := 0x3F, arg0 := 4, arg1 := p - 16, arg2 := 0 }
  else s

/-- R484 WATCHDOG_EXPIRY: the processor restarts alone; at the third expiry within an hour it is marked failed. -/
def execWatchdogExpiry (p : Fin 32) (s : State) : Out :=
  let n := p.val
  .next (
    if s.procState n ≠ 1 then s
    else
      let now := s.reg .btime 0
      let l := ((s.fw.expiries.get [] n).filter (fun t => decide ((now - t).toNat < tickHour))) ++ [now]
      let s := s.setFw { s.fw with expiries := s.fw.expiries.set n l }
      if 3 ≤ l.length then s.procFails n else s.stopProc n)

/-! ## Live update (R485) -/

/-- Restarts alone counted for processors that a live update reaches; a failed one it does not reach (R484). -/
def State.updateRestarts (s : State) (l : List Nat) : State :=
  l.foldl (fun (s : State) p => if s.procState p = 3 then s else (s.bump .fwrest p).tracePoint p) s

/-- R478, R485, R486 FW_UPDATE, in one step. Without a core on standby charge cannot move: the processors restarted so far return to the old set, and
the request ends as CHARGE_MOVE does (log 109). -/
def execFwUpdate (port : Port) (s : State) : Out :=
  fwRequestOf port (fun op => op = 4) 0
    (fun s _ _ =>
      let k := 1 - s.fld .fwslot 0 0 0
      let e := s.slotCheck k
      let (_, _, iface, signer) := s.slotHead k
      let h := s.fld .chg 0 0 0
      let clusters := upFrom 16 16
      if s.bit .chg 0 1 then s.fwFail stSplit
      else if s.procState 0 = 2 then (s, .hold)
      else if s.procState 0 = 3 then s.fwFail stBusy
      else if e ≠ 0 then s.fwFail e
      else if signer = 3 then s.fwFail stAuth
      else if iface ≠ s.fw.iface then s.fwFail stOperand
      else if s.procState (3 - h) ≠ 1 then (((s.updateRestarts clusters).updateRestarts clusters.reverse), .status stBusy 0)
      else
        let s := (s.updateRestarts (clusters ++ [3 - h])).grantCharge (1 - h)
        let s := (s.updateRestarts [2 + h, 1, 0]).showStandby
        let s := (s.writeDir k (s.fld .fwslot 0 2 2)).setReg .fwinfo 0 (s.reg .fwinfo 0 + 1)
        (s.runSlot k, .status 0 0))
    s

/-! ## J12 (R529) -/

/-- R529: is the flash bus at J12? -/
def State.flashAtJ12 (s : State) : Bool := s.power.flToJ12 || s.power.life = .off || s.power.life = .opened

/-- R529 FLASH_PROGRAMMER_ACCESS. -/
def execFlashProgrammerAccess (op : FlashOp) (s : State) : Out :=
  .next (
    if ! s.flashAtJ12 then { s with shown := [] }
    else match op with
      | .read a n => { s with shown := s.flashBytes a n }
      | .write a d => s.setFw { s.fw with flash := s.fw.flash.writeN a d })

/-! ## J11 (R434, R528) -/

/-- R428, R434, R528: does the TAP reach what a right grants? In MAKER every right, in SCRAPPED none. -/
def State.tapRight (s : State) (k : Nat) : Bool := s.powered && s.lcState ≠ 5 && (s.lcState = 1 || s.right k)

/-- R423, R435: no right reaches a live confidential virtual device: a spire of one, or memory of one. -/
def State.tapSpire (s : State) (n : Nat) : Bool := ! s.confidential (s.spire n).vdid
def State.tapMemory (s : State) (a n : Nat) : Bool := (granules a n).all (fun (g : Nat × Nat) => ! s.confidential (s.ownerAt g.1))

/-- R178: does every granule of a range lie in plaintext, or under a key slot that holds its key? -/
def State.keysHeld (s : State) (a n : Nat) : Bool := (granules a n).all (fun (g : Nat × Nat) => ! s.keyLost g.1)

/-- The registers of R437, in order. -/
def securityRegs : List RegName :=
  [.lcstat, .lcfuse, .serial, .ownerd0, .ownerd1, .ownerd2, .ownerd3, .dbgrights, .keyuse0, .keyuse1, .scauth, .scinteg]

/-- The fuses that FUSEREAD shows: all but the secrets (R434). -/
def State.fuseBytes (s : State) : List Byte :=
  bytesLE 3 s.sec.fuses.toNat ++ bytesLE 1 s.sec.svn ++ bytesLE 8 s.sec.serial.toNat ++ s.sec.ownerd ++ s.sec.cal.flatMap (bytesLE 4)

/-- R434: a spire halted, resumed or let issue one instruction. -/
def State.debugSpire (s : State) (n : Nat) (f : Spire → Spire) : State :=
  if s.tapRight 4 && s.tapSpire n then s.setSpire n (f (s.spire n)) else s

/-- What a read through the TAP shows: nothing without its right. -/
def State.tapRead (s : State) (ok : Bool) (b : List Byte) : State := { s with shown := if ok then b else [] }

/-- R434, R528 DEBUG_TAP_ACCESS. -/
def execDebugTapAccess (op : TapOp) (s : State) : Out :=
  .next (
    match op with
    | .halt n => s.debugSpire n.val (fun x => if x.run = .running then { x with run := .debug } else x)
    | .resume n => s.debugSpire n.val (fun x => if x.run = .debug then { x with run := .running, step := false } else x)
    | .step n => s.debugSpire n.val (fun x => if x.run = .debug then { x with step := true } else x)
    | .readReg n r => s.tapRead (s.tapRight 4 && s.tapSpire n.val) (bytesLE 8 ((s.spire n.val).regs.get 0 r.val).toNat)
    | .readMem a n => 
      if s.tapRight 5 && s.tapMemory a n && s.keysHeld a n then s.touching false [(a, n)] (fun s => s.tapRead true (s.dev.readN a n)) else s.tapRead false []
    | .writeMem a d => if s.tapRight 6 && s.tapMemory a d.length then s.touching true [(a, d.length)] (fun s => (s.devWrite a d).1) else s
    | .readSpad n off k => s.tapRead (s.tapRight 5 && s.tapSpire n.val) ((s.spire n.val).spad.readN off k)
    | .writeSpad n off d => if s.tapRight 6 && s.tapSpire n.val then s.setSpire n.val ((s.spire n.val).put off d).1 else s
    | .readPlace off =>
      s.tapRead (s.tapRight 1) (bytesLE 8 (match towAt (off / 8 * 8) with | some (r, i) => s.regView r i | none => s.bar0Word 0 (off / 8 * 8)).toNat)
    | .readSecurity k => s.tapRead (s.tapRight 1) (match securityRegs[k.val]? with | some r => bytesLE 8 (s.regView r 0).toNat | none => [])
    | .readFuses => s.tapRead (s.tapRight 2) s.fuseBytes)

end Sys2Proof.Machine
end

