-- ==== Sys2Proof/Machine/Security.lean ====
section
/-! DEFINITION. Security commands (R413 to R426, R429, R433 to R438): certificates, attestation, sessions and bounce records, migration targets,
debug certificates, and the life cycle. -/

namespace Sys2Proof.Machine

/-- What a read of host memory returned, as `n` bytes; none on a bus error. -/
def hostBytes (ans : HostAns) (n : Nat) : Option (List Byte) :=
  match ans with
  | .busError => none
  | .data b => some (b.take n ++ List.replicate (n - b.length) 0)

/-- A command whose body the host's memory holds: BUS where it cannot be read. -/
def State.withHost (s : State) (ans : HostAns) (n : Nat) (work : List Byte → State × Fate) : State × Fate :=
  match hostBytes ans n with
  | none => s.fail stBus
  | some b => work b

/-- AUTH, counted in SCAUTH (R418, R437). -/
def State.failAuth (s : State) : State × Fate := (s.bump .scauth 0).fail stAuth

/-! ## Certificates (R411, R413, R414, R417) -/

/-- R411: the seed of the identity key. -/
def dikSeed : List Byte := digest (Config.dus ++ [0x01])

/-- R413, R414: the certificate of AK. -/
def State.akCert (s : State) : List Byte :=
  let body := bytesLE 2 1 ++ [4] ++ List.replicate 5 0 ++ bytesLE 8 s.sec.serial.toNat ++ digest (falconKey dikSeed) ++ List.replicate 16 0
    ++ falconKey s.sec.akSeed ++ List.replicate 63 0
  body ++ falconSign dikSeed body

/-- R417 CERT_READ. -/
def execCertRead (q : Qn) (s : State) : Out :=
  objectCmd q 0x60 false (byteMask [(8, 1), (16, 8)])
    (fun s o c =>
      let which := cmdField c.raw 8 1
      let bus := c.word 16
      bySecurity s (fun s =>
        if which = 0 || decide (5 < which) || bus % 64 ≠ 0 then s.fail stOperand
        else (s.hostWrite o.port bus (if which = 4 then s.akCert else s.storeCert which)).okay))
    s

/-! ## Attestation (R415, R416) -/

/-- The slices of a virtual device in slice-number order. -/
def VdState.sortedSlices (x : VdState) : List Slice := x.slices.mergeSort (fun a b => decide (a.num ≤ b.num))

/-- R416: the 32-byte bitmap of a slice's spires. -/
def Slice.bitmap (sl : Slice) : List Byte := bytesLE 32 (sl.spires.foldl (fun m n => m + 2 ^ n) 0)

/-- R416: D_VD. -/
def State.vdDigest (s : State) (v : Nat) : List Byte :=
  let x := s.vd v
  digest (bytesLE 8 (s.reg .vdcfg v).toNat ++ bytesLE 8 (s.reg .vdsave v).toNat ++ bytesLE 8 (s.reg .nvdcfg v).toNat
    ++ x.extents.flatMap s.extentRecord ++ x.sortedSlices.flatMap Slice.bitmap)

/-- R416: FLAGS of a report. -/
def State.reportFlags (s : State) (v : Option Nat) : Nat :=
  let b (x : Bool) (k : Nat) : Nat := if x then 2 ^ k else 0
  let vd : VdState := match v with | some v => s.vd v | none => .reset
  b v.isSome 0 + b vd.isSealed 1 + b (s.bit .lcstat 0 8) 2 + b (s.bit .lcstat 0 9) 3 + b vd.integrity 4 + b vd.migrated 5

/-- R416: bytes 0 to 5,055 of a report. -/
def State.reportBody (s : State) (v : Option Nat) (nonce : List Byte) : List Byte :=
  let conf : Bool := match v with | some v => s.confidential v | none => false
  bytesLE 2 1 ++ bytesLE 1 s.lcState ++ bytesLE 1 (s.reportFlags v) ++ bytesLE 2 (s.reg .cnnode 0).toNat ++ bytesLE 1 (v.getD 0x3F)
    ++ bytesLE 1 (if conf then 1 else 0) ++ bytesLE 8 s.sec.serial.toNat ++ bytesLE 8 (match v with | some v => (s.vd v).gen.toNat | none => 0)
    ++ bytesLE 8 (s.reg .fwinfo 0).toNat ++ nonce ++ s.sec.digests.flatten ++ s.sec.imgDigest
    ++ (match v with | some v => s.vdDigest v | none => List.replicate 32 0) ++ s.sec.dbgDigest
    ++ (match v.bind (fun v => (s.vd v).ek) with | some n => (upFrom 0 1568).map (Config.kemKeyByte n) | none => List.replicate 1568 0)
    ++ s.akCert

/-- R416: a report, signed by AK. -/
def State.report (s : State) (v : Option Nat) (nonce : List Byte) : List Byte :=
  let b := s.reportBody v nonce
  b ++ falconSign s.sec.akSeed b

/-- R415, R417 ATTEST. -/
def execAttest (q : Qn) (s : State) : Out :=
  objectCmd q 0x61 false (byteMask [(8, 1), (16, 8), (24, 32)])
    (fun s o c =>
      let v := cmdField c.raw 8 1
      let bus := c.word 16
      let nonce := bytesLE 32 (cmdField c.raw 24 32)
      let bare : Bool := v = 0x3F
      if ! bare && s.vdResetting v then (s, .hold)
      else if ! bare && ! s.vdActive v then s.fail stVdid
      else if ! bare && ! s.granted' o.fn v then s.fail stGrant
      else bySecurity s (fun s =>
        if bus % 64 ≠ 0 then s.fail stOperand
        else if bare then (s.hostWrite o.port bus (s.report none nonce)).okay
        else
          let r := s.report (some v) nonce
          ((s.setVd v { s.vd v with report := r }).hostWrite o.port bus r).okay))
    s

/-! ## Sessions (R419, R420) -/

/-- R419: the keys of a session from its ciphertext. -/
def State.sessionKeys (s : State) (v slot : Nat) (ct : List Byte) : Session :=
  let ss := (upFrom 0 32).map (Config.kemSecretByte ((s.vd v).ek.getD 0) ct)
  let k := shake256 (ss ++ digest ct ++ bytesLE 1 v ++ bytesLE 1 slot) 96
  { keyIn := partOf k 0 32, keyOut := partOf k 32 32, confirm := partOf k 64 32, lastIn := 0, nextOut := 1 }

/-- The memory units of a virtual device's carve-outs. -/
def State.carveUnits (s : State) (v : Nat) : List Nat :=
  (s.vd v).extents.flatMap (fun x => match x with | .segment e => [256 + e] | x => s.extentChannels x)

/-- R420: the virtual device is reset, every carve-out of it takes a new key, and every extent is filled again. -/
def State.sealVd (s : State) (v : Nat) : State :=
  let s := s.resetVd v
  let s := (s.vd v).carves.cells.foldl
    (fun (s : State) (k : Nat × Carve) =>
      if k.2.key = 0 then s
      else
        let (n, s) := s.free
        s.setSec { s.sec with keys := s.sec.keys.set k.2.key n })
    s
  (s.carveUnits v).foldl (fun (s : State) u => (s.zeroUnit u).addFill u true) s

/-- Is the first session of a virtual device still being opened (R420)? -/
def State.sealing (s : State) (v : Nat) : Bool := s.joins.any (fun j => match j.opens with | some (u, _, _) => u = v | none => false)

/-- R417, R419, R420 SESSION_OPEN. -/
def execSessionOpen (q : Qn) (host : HostAns) (s : State) : Out :=
  objectCmd q 0x62 false (byteMask [(8, 4), (12, 1), (16, 8)])
    (fun s o c =>
      let slot := cmdField c.raw 12 1
      match s.ctxNamed o (c.handle 8) with
      | none => s.fail stHandle
      | some x =>
        let v := s.vdOfCtx x
        if s.vdResetting v then (s, .hold)
        else if ! s.confidential v then s.fail stKind
        else if 3 < slot then s.fail stOperand
        else if ((s.vd v).sessions.find? slot).isSome then s.fail stBusy
        else if s.sealing v then (s, .hold)
        else bySecurity s (fun s => s.withHost host 1568 (fun ct =>
          let k := s.sessionKeys v slot ct
          if (s.vd v).isSealed then
            (s.openSession v slot k).okay (BitVec.ofNat 64 (natLE (k.confirm.take 8)))
          else
            let s := s.sealVd v
            let j : Join := { queue := q.val, cseq := c.seq, units := s.carveUnits v, opens := some (v, slot, k) }
            if j.units = [] then (s.joinEnds j, .running) else ({ s with joins := s.joins ++ [j] }, .running))))
    s

/-- R417 SESSION_CLOSE: the keys of the slot are destroyed (R411). -/
def execSessionClose (q : Qn) (s : State) : Out :=
  objectCmd q 0x63 false (byteMask [(8, 4), (12, 1)])
    (fun s o c =>
      let slot := cmdField c.raw 12 1
      match s.ctxNamed o (c.handle 8) with
      | none => s.fail stHandle
      | some x =>
        let v := s.vdOfCtx x
        if s.vdResetting v then (s, .hold)
        else bySecurity s (fun s =>
          if decide (3 < slot) || ((s.vd v).sessions.find? slot).isNone then s.fail stOperand
          else (s.setVd v { s.vd v with sessions := (s.vd v).sessions.erase slot }).okay))
    s

/-! ## Bounce records (R421, R422) -/

/-- R421: the IV of a record: SLOT, DIR, two zero bytes, SEQ. -/
def bounceIv (slot dir : Nat) (seq : W64) : List Byte := bytesLE 1 slot ++ bytesLE 1 dir ++ [0, 0] ++ bytesLE 8 seq.toNat

/-- R421: the additional data: VDID, DIR, SLOT, a zero byte, LEN. -/
def bounceAad (v dir slot len : Nat) : List Byte := bytesLE 1 v ++ bytesLE 1 dir ++ bytesLE 1 slot ++ [0] ++ bytesLE 4 len

/-- The pages of `n` bytes at an address of a context. -/
def pagesOf (a n : Nat) : List Nat := upFrom (a / 4096) ((a + n - 1) / 4096 + 1 - a / 4096)

/-- R421: the record's pages through the owning context's translation: the places found by page, none while one is still wanted; false with a
place that failed. -/
def State.bouncePages (s : State) (q fn ctx a n : Nat) (write : Bool) : Option (Tab Nat × Bool) × State :=
  let l := pagesOf a n
  let s := l.foldl (fun (s : State) p => s.want (.ring q) (ringCache fn) (fn / 64) ctx p write) s
  let got := l.map (fun p => (p, (s.wantOf (.ring q) p write).bind (·.found)))
  if got.any (fun g => g.2.isNone) then (none, s)
  else
    let t := got.foldl (fun (t : Tab Nat × Bool) g => match g.2 with | some (.page k) => (t.1.set g.1 k, t.2) | _ => (t.1, false)) (.empty, true)
    (some t, s.unwant (.ring q))

/-- Bytes written to a virtual device's range, granule by granule. -/
def State.putRange (s : State) (v a : Nat) (d : List Byte) : State :=
  (granules a d.length).foldl
    (fun (s : State) (g : Nat × Nat) => match s.rangeCheck v g.1 true with | .at p => (s.devWrite p ((d.drop (g.1 - a)).take g.2)).1 | _ => s) s

/-- Bytes written to host memory through pages found. -/
def State.putPages (s : State) (port : Nat) (t : Tab Nat) (a : Nat) (d : List Byte) : State :=
  (cutFrom 4096 (d.length / 4096 + 2) a d.length).foldl
    (fun (s : State) (g : Nat × Nat) => s.hostWrite port (t.get 0 (g.1 / 4096) * 4096 + g.1 % 4096) ((d.drop (g.1 - a)).take g.2)) s

/-- R421, R422: what both bounce commands check: the object, its virtual device, the slot, and the place of the record. -/
def State.bounceCheck (s : State) (o : QueueObj) (c : Cmd) (work : Nat → Nat → Nat → Session → State × Fate) : State × Fate :=
  let slot := cmdField c.raw 12 1
  let off := c.word 16
  let len := cmdField c.raw 32 4
  match (s.objNamed o tyMem (c.handle 8)).bind s.mem? with
  | none => s.fail stHandle
  | some m =>
    let v := s.vdOfCtx m.head.owner
    if m.kind ≠ 1 then s.fail stOperand
    else if ! s.confidential v then s.fail stKind
    else if s.vdResetting v then (s, .hold)
    else if s.procState 0 = 3 then s.fail stBusy
    else match (s.vd v).sessions.find? slot with
      | none => s.fail stOperand
      | some x =>
        if off % 64 ≠ 0 || len % 64 ≠ 0 || len = 0 || decide (2 ^ 24 < len) || decide (m.len < off + len + 16) then s.fail stOperand
        else work v m.head.owner (m.base + off) x

/-- R422: does a range lie in one encrypted carve-out of a virtual device that is not sealed? -/
def State.inEncrypted (s : State) (v a n : Nat) : Bool :=
  (s.vd v).carves.cells.any (fun (k : Nat × Carve) => k.2.enc && ! k.2.sealed && s.inCarve v k.2 (k.2.extents.length + 1) a n)

/-- R417, R422 BOUNCE_IN: `host` is the record read through the pages found. -/
def execBounceIn (q : Qn) (host : HostAns) (s : State) : Out :=
  objectCmd q 0x64 false (byteMask [(8, 4), (12, 1), (16, 16), (32, 4), (40, 8)])
    (fun s o c => s.bounceCheck o c (fun v ctx a x =>
      let slot := cmdField c.raw 12 1
      let dst := c.word 24
      let len := cmdField c.raw 32 4
      let seq := BitVec.ofNat 64 (c.word 40)
      if ! seqAfter seq x.lastIn then s.fail stReplay
      else if ! s.inEncrypted v dst len then s.fail stRange
      else match s.bouncePages q.val o.fn ctx a (len + 16) false with
        | (none, s) => (s, .hold)
        | (some (_, good), s) =>
          let places := s.placesOf v dst len
          if ! s.mayTouchAll true places then (s.rouseAll places, .hold) else
          let zero := s.putRange v dst (List.replicate len 0)
          match (if good then hostBytes host (len + 16) else none) with
          | none => zero.fail stBus
          | some b =>
            let iv := bounceIv slot 1 seq
            let ct := b.take len
            if b.drop len ≠ gcmTag x.keyIn iv (bounceAad v 1 slot len) ct then zero.failAuth
            else
              let s := s.putRange v dst (gcmCrypt x.keyIn iv ct)
              (s.openSession v slot { x with lastIn := seq }).okay))
    s

/-- The length of a range before its first poisoned granule, where it has one. -/
def State.cleanPart (s : State) (v a n : Nat) : Option Nat :=
  ((granules a n).find? (fun (g : Nat × Nat) => match s.readAt v g.1 with | some p => (s.devPoison.find? (p / 64)).isSome | none => false)).map
    (fun g => g.1 - a)

/-- Bytes of a virtual device's range. -/
def State.getRange (s : State) (v a n : Nat) : List Byte :=
  (granules a n).flatMap (fun (g : Nat × Nat) => match s.readAt v g.1 with | some p => s.dev.readN p g.2 | none => List.replicate g.2 0)

/-- R417, R422 BOUNCE_OUT. -/
def execBounceOut (q : Qn) (s : State) : Out :=
  objectCmd q 0x65 false (byteMask [(8, 4), (12, 1), (16, 16), (32, 4)])
    (fun s o c => s.bounceCheck o c (fun v ctx a x =>
      let slot := cmdField c.raw 12 1
      let src := c.word 24
      let len := cmdField c.raw 32 4
      if (s.vd v).integrity then s.fail stAuth
      else if ! s.rangeIn v src len false then s.fail stRange
      else match s.bouncePages q.val o.fn ctx a (len + 16) true with
        | (none, s) => (s, .hold)
        | (some (t, good), s) =>
          let places := s.placesOf v src len
          if ! s.mayTouchAll false places then (s.rouseAll places, .hold) else
          let seq := x.nextOut
          let s := s.openSession v slot { x with nextOut := seq + 1 }
          if ! good then s.fail stBus
          else
            let iv := bounceIv slot 2 seq
            let ct := gcmCrypt x.keyOut iv (s.getRange v src len)
            match s.cleanPart v src len with
            | some n => ((s.putPages o.port t a (ct.take n)).putPages o.port t (a + len) (List.replicate 16 0)).fail stPoison
            | none =>
              let s := (s.putPages o.port t a ct).putPages o.port t (a + len) (gcmTag x.keyOut iv (bounceAad v 2 slot len) ct)
              s.okay seq))
    s

/-! ## Migration (R426) -/

/-- R426: does a destination's report pass? Its identity certificate is not part of it: how its chain is followed past AKCERT is open (log 110). -/
def State.reportOk (s : State) (v : Nat) (r auth : List Byte) : Bool :=
  let cert := partOf r 1856 3200
  let flags := fieldOf r 3 1
  Config.chainVerifies cert && certKind cert = 4 && Config.falconVerify (certKey cert) (r.take 5056) (partOf r 5056 1280)
    && fieldOf r 2 1 = 3 && fieldOf r 7 1 = 1 && ! flags.testBit 1 && ! flags.testBit 2 && partOf r 64 128 = s.sec.digests.flatten
    && (s.vd v).sessions.cells.any (fun (k : Nat × Session) => auth = digest (k.2.confirm ++ digest r))

/-- R417, R426 MIGRATE_TARGET. -/
def execMigrateTarget (q : Qn) (host : HostAns) (s : State) : Out :=
  objectCmd q 0x66 true (byteMask [(8, 1), (16, 8), (24, 32)])
    (fun s _ c =>
      let v := cmdField c.raw 8 1
      if s.vdResetting v then (s, .hold)
      else if ! s.vdActive v then s.fail stVdid
      else if ! s.confidential v then s.fail stKind
      else bySecurity s (fun s => s.withHost host 6336 (fun r =>
        if s.reportOk v r (bytesLE 32 (cmdField c.raw 24 32)) then (s.setVd v { s.vd v with target := some r }).okay
        else s.failAuth)))
    s

/-! ## Debug certificates (R433 to R435) -/

/-- R417, R433 DEBUG_CHALLENGE: 32 bytes from the entropy source (R412). -/
def execDebugChallenge (q : Qn) (s : State) : Out :=
  objectCmd q 0x67 true (byteMask [(16, 8)])
    (fun s o c => bySecurity s (fun s =>
      let (b, s) := s.freeBytes 32
      ((s.setSec { s.sec with challenge := some b }).hostWrite o.port (c.word 16) b).okay))
    s

/-- R428, R433: is the KEY of a certificate that of the signer it names: the manufacturing key of the store, or the owner's? -/
def State.signedBy (s : State) (cert : List Byte) : Bool :=
  let d := digest (certKey cert)
  match certSigner cert with
  | 1 => s.chainOk && d = s.makerDigest
  | 2 => ! s.ownerless && d = s.sec.ownerd
  | _ => false

/-- R434: the rights that a certificate may hold: bits 8 to 0 and 19 to 16. -/
def rightsMask : Nat := 0xF01FF

/-- R413, R433, R434: a debug certificate that meets all of R433 but the signer that R428 permits; what R413 reserves is zero. -/
def State.certMeets (s : State) (cert : List Byte) : Bool :=
  let zero (off n : Nat) : Bool := (partOf cert off n).all (fun b => b = 0)
  fieldOf cert 0 2 = 1 && certKind cert = 6 && zero 5 3 && zero 56 8 && zero 1857 63 && certSerial cert = s.sec.serial.toNat
    && s.sec.challenge = some (certIssuer cert) && (certStates cert).testBit s.lcState && s.signedBy cert && certSigned cert (certKey cert)
    && certRights cert &&& rightsMask = certRights cert

/-- R428: the signers that a state permits for debug: Henlis in every state but SCRAPPED, the owner in INTEGRATOR and FIELDED. -/
def State.debugSignerOk (s : State) (signer : Nat) : Bool :=
  let st := s.lcState
  match signer with
  | 1 => decide (1 ≤ st) && decide (st ≤ 4)
  | 2 => st = 2 || st = 3
  | _ => false

/-- Every fill that is due or running ends (R432, R435). -/
def State.endFills (s : State) : State := s.fills.foldl State.fillEnds { s with fills := [] }

/-- R435: contexts torn down, virtual devices reset and destroyed, and the erasure of T2 and T3, no fuse touched. -/
def State.eraseForDebug (s : State) : State :=
  let ctxs := (s.objs.ctxs.live.cells.filter (fun (k : Nat × Ctx) => ! k.2.head.freed)).map (·.1)
  let s := ctxs.foldl (fun (s : State) c => (s.teardown c s.abandoned none).endDrain c) s
  let s := s.activeVds.foldl (fun (s : State) v => (s.resetVd v).destroyVd v) s
  let s := s.endFills.eraseData
  s.setFld .lcstat 0 9 9 1

/-- R433 to R435: a debug certificate honoured; none where it fails. -/
def State.honour (s : State) (cert : List Byte) : Option State :=
  if ! s.certMeets cert || ! s.debugSignerOk (certSigner cert) then none
  else
    let r := certRights cert
    let s := s.setSec { s.sec with challenge := none }
    let s := if s.lcState = 3 && r &&& 0x1F8 ≠ 0 then s.eraseForDebug else s
    let s := s.setReg .dbgrights 0 (s.reg .dbgrights 0 ||| BitVec.ofNat 64 r)
    let s := s.setSec { s.sec with dbgDigest := digest cert }
    some (if r ≠ 0 then s.setFld .lcstat 0 8 8 1 else s)

/-- R417, R433, R435 DEBUG_OPEN. -/
def execDebugOpen (q : Qn) (host : HostAns) (s : State) : Out :=
  objectCmd q 0x68 true (byteMask [(16, 8)])
    (fun s _ _ => bySecurity s (fun s => s.withHost host 3200 (fun cert =>
      match s.honour cert with
      | none => s.failAuth
      | some t => t.okay (t.reg .dbgrights 0))))
    s

/-- R433, R528 DEBUG_MAILBOX: a certificate shifted in at J11 is checked in the same way; the rights in force show, nothing where it fails. -/
def execDebugMailbox (cert : List Byte) (s : State) : Out :=
  .next (
    if ! s.powered || s.lcState = 5 || decide (2 ≤ s.procState 0) then { s with shown := [] }
    else
      let cert := cert.take 3200 ++ List.replicate (3200 - cert.length) 0
      match s.honour cert with
      | none => { s.bump .scauth 0 with shown := [] }
      | some t => { t with shown := bytesLE 8 (t.reg .dbgrights 0).toNat })

/-! ## Life cycle (R428 to R431, R436) -/

/-- R428: is a state a next state of another? -/
def nextState (st target : Nat) : Bool := (decide (1 ≤ st) && decide (st ≤ 3) && target = st + 1) || (decide (1 ≤ st) && decide (st ≤ 4) && target = 5)

/-- R429: the transition that leads to a state. -/
def transitionTo (target : Nat) : Nat := if target = 5 then 4 else target - 1

/-- R429: may a certificate of a signer bring a transition about? -/
def State.advanceSignerOk (s : State) (k signer : Nat) : Bool :=
  match k with
  | 1 => signer = 1
  | 2 => signer = 2 || (signer = 1 && s.ownerless)
  | _ => signer = 1 || signer = 2

/-- The completions that a queue owes, posted in order. -/
def State.retireAll (s : State) (q : Nat) : State :=
  let n := match s.objs.queues.live.find? q with | some o => o.cmds.length | none => 0
  (upFrom 0 n).foldl (fun (s : State) _ => s.retireHead q false) s

/-- R429, R431: transition Tk: its intent fuse, its erasure, its confirm fuse. -/
def State.transit (s : State) (k : Nat) : State := (((s.blow (intentFuse k)).erase k).blow (confirmFuse k))

/-- R429 LC_ADVANCE; `b` is what start-up finds after it. -/
def execLcAdvance (q : Qn) (host : HostAns) (b : BringUp) (s : State) : Out :=
  objectCmd q 0x69 true (byteMask [(8, 1), (16, 8)])
    (fun s _ c =>
      let target := cmdField c.raw 8 1
      let k := transitionTo target
      bySecurity s (fun s =>
        if ! nextState s.lcState target then s.fail stLifecycle
        else if s.activeVds ≠ [] then s.fail stBusy
        else s.withHost host 3200 (fun cert =>
          if ! s.certMeets cert || ! (certRights cert).testBit (15 + k) || ! s.advanceSignerOk k (certSigner cert) then s.failAuth
          else if k = 4 then (((s.blow (intentFuse 4)).coldEntry).scrap, .hold)
          else
            let s := (s.transit k).finishCmd q.val c.seq Done.ok
            ((s.retireAll q.val).coldRestart b, .hold))))
    s

/-- R417, R428 OWNER_SET. -/
def execOwnerSet (q : Qn) (host : HostAns) (s : State) : Out :=
  objectCmd q 0x6A true (byteMask [(16, 8)])
    (fun s _ _ => bySecurity s (fun s =>
      if s.lcState ≠ 2 || ! s.ownerless then s.fail stLifecycle
      else s.withHost host 1793 (fun key => ((s.setSec { s.sec with ownerd := digest key }).showFuses).okay)))
    s

end Sys2Proof.Machine
end

