-- ==== Sys2Proof/Machine/Reliability.lean ====
section
/-! DEFINITION. SRAM and logic errors (R494, R495), the retirement of spires (R509), module resets on command (R500), monitor snapshots (R506). -/

namespace Sys2Proof.Machine

/-! ## Retirement of spires (R307, R509) -/

/-- Corrected SRAM errors, uncorrectable ones, and logic-check failures, in a spire's history. -/
def errCorrected : Nat := 0
def errUncorrectable : Nat := 1
def errLogic : Nat := 2

/-- R509: do the errors of a spire's history retire it now? -/
def errorsRetire (l : List (Nat × W64)) (now : W64) : Bool :=
  let count (k span : Nat) : Nat := (l.filter (fun e => e.1 = k && decide ((now - e.2).toNat < span))).length
  decide (2 ≤ count errUncorrectable tickDay) || decide (2 ≤ count errLogic tickDay) || decide (1024 ≤ count errCorrected tickHour)

/-- R307, R509: a spire is retired: a spare of its tower is held for it from now on (log 185), and takes its place once its kernel is saved; with
none left it leaves its virtual device unsaved, and its number reads as retired. A spare that is itself retired serves no more. -/
def State.retireSpire (s : State) (n : Nat) : State :=
  let x := s.spire n
  if x.retired then s
  else
    let s := match x.spare with | some k => s.setSpire k { s.spire k with retired := true } | none => s
    let next := s.freeSpare n
    let s := s.setSpire n { x with retired := true, spare := next }
    if next.isSome then (if x.kernel.isSome then s.preempt n else s.spireFreed n)
    else
      let s := (s.discardKernel n).zeroSpire n
      let s := if x.vdid < 63 then s.leaveSpire n else s
      s.postPFs { code := 0x0104, vdid := 0x3F, arg0 := 0, arg1 := n, arg2 := 0 }

/-- R509: an error of a spire noted. -/
def State.noteSpireError (s : State) (n kind : Nat) : State :=
  let now := s.reg .btime 0
  let x := s.spire n
  let l := (x.errors.filter (fun e => decide ((now - e.2).toNat < tickDay))) ++ [(kind, now)]
  let s := s.setSpire n { x with errors := l }
  if errorsRetire l now then s.retireSpire n else s

/-! ## SRAM (R191, R494) -/

/-- The code of an array (R494). -/
def arrayCode : SramArray → Nat
  | .scratchpad => 0 | .accumulator => 1 | .register => 2 | .dataCache => 3 | .translation => 4 | .basinRing => 5 | .landing => 6
  | .canalBuffer => 7 | .ledger => 8 | .firmware => 9 | .journal => 10

/-- Is an array part of a spire? -/
def inSpire (a : SramArray) : Bool := decide (arrayCode a ≤ 3)

/-- The element at a place of a list taken out. -/
def dropAt {α : Type} (l : List α) (i : Nat) : List α := l.take i ++ l.drop (i + 1)

/-- R494, code 1: the entry reads as poison. -/
def Accum.spoil (a : Accum) (i : Nat) : Accum := { a with poison := a.poison.set i () }

/-- R494: what an uncorrectable error does at a place of an array. `off` counts bytes of a scratchpad, and entries of any other array: of an
accumulator pair, of the lines that a cache holds, of a ring. -/
def State.sramLost (s : State) (a : SramArray) (u off : Nat) : State :=
  match a with
  | .scratchpad => let x := s.spire u; s.setSpire u { x with poison := x.poison.set (off / 64) () }
  | .accumulator => let x := s.spire u; s.setSpire u (x.setAcc (off / 1024) ((x.acc (off / 1024)).spoil (off % 1024)))
  | .register => (s.resetSpires 0 [u]).postReset 0 u 0x3F 0
  | .dataCache =>
    let x := s.spire u
    match x.cache.keys[off]? with
    | some line => s.setSpire u { x with cache := x.cache.erase line }
    | none => s
  | .translation =>
    let mine := s.trans.leaves.filter (fun l => l.cache = u)
    let rest := s.trans.leaves.filter (fun l => l.cache ≠ u)
    s.setTrans { s.trans with leaves := rest ++ dropAt mine off }
  | .basinRing =>
    let b := s.basin u
    s.setBasin u { b with ring := b.ring.zipIdx.map (fun (h : BCmd × Nat) => if h.2 = off then { h.1 with poisoned := true } else h.1) }
  | .landing =>
    let b := s.basin u
    match b.land[off]? with
    | some r => (s.setBasin u { b with land := dropAt b.land off }.urge).answer r.id r.agent .bus
    | none => s
  | .canalBuffer => if s.canalUsable u then (s.bump .cnfecu u).askReplay u (s.link u).rxNum else s
  | .ledger => match (s.engine u).ledger[off]? with | some l => s.declareLost u l | none => s
  | .firmware => if procIds.contains u && s.procState u = 1 then s.stopProc u else s
  | .journal => s

/-- The number of units that have an array. -/
def arrayUnits : SramArray → Nat
  | .translation => 84 | .canalBuffer => 24 | .ledger => 2 | .firmware => 32 | .journal => 1 | _ => 256

/-- R191, R494 SRAM_SCRUB: an access or the scrubber finds an error, or none. -/
def execSramScrub (array : SramArray) (unit : Nat) (off : Nat) (ecc : Ecc) (s : State) : Out :=
  .next (
    if arrayUnits array ≤ unit then s
    else match ecc with
      | .corrected =>
        let s := s.bump .rlsce 0
        if inSpire array then s.noteSpireError unit errCorrected else s
      | .uncorrectable =>
        if array = .dataCache then (s.bump .rldce 0).sramLost array unit off
        else
          let s := (s.bump .rlsue 0).sramLost array unit off
          let s := s.postPFs { code := 0x0108, vdid := 0x3F, arg0 := arrayCode array, arg1 := unit, arg2 := off }
          if inSpire array then s.noteSpireError unit errUncorrectable else s
      | _ => s)

/-! ## Logic checks (R495) -/

/-- R495 LOGIC_CHECK_FAIL: the unit's domain is reset. -/
def execLogicCheckFail (u : LogicUnit) (b : BringUp) (s : State) : Out :=
  .next (
    match u with
    | .spire n => ((s.resetSpires 0 [n.val]).postReset 0 n.val 0x3F 0).noteSpireError n.val errLogic
    | .cluster k => (s.clusterReset k.val).postReset 1 k.val 0x3F 0
    | .basin c => (s.activeVds.filter (fun v => s.holdsBasin v c.val)).foldl (fun (s : State) v => s.resetVd v) s
    | .tower t => s.towerReset t.val
    | .belfry good => if good && s.bit .rlcfg 0 1 then (if s.running then s.warmReset b else s) else s.coldRestart b)

/-! ## RESET (R500) -/

/-- The slice of a number, whichever virtual device holds it (R285). -/
def State.sliceOwner (s : State) (n : Nat) : Option Nat :=
  (s.vds.cells.find? (fun (k : Nat × VdState) => k.2.slices.any (fun sl => sl.num = n))).map (·.1)

/-- R500 RESET. -/
def execResetCommand (q : Qn) (b : BringUp) (s : State) : Out :=
  bindCmd q 0x23 (byteMask [(8, 2)])
    (fun s _ c =>
      let domain := cmdField c.raw 8 1
      let t := cmdField c.raw 9 1
      let posted (s : State) : State := (s.finishCmd q.val c.seq Done.ok).retireAll q.val
      match domain with
      | 0 => ((s.resetSpires 0 [t]).postReset 0 t 0x3F 0).okay
      | 1 => if 16 ≤ t then s.fail stOperand else ((s.clusterReset t).postReset 1 t 0x3F 0).okay
      | 2 => match s.sliceOwner t with
        | none => s.fail stOperand
        | some v => (s.sliceReset v t).okay
      | 3 => if ! s.vdActive t then s.fail stVdid else (s.resetVd t, .running)
      | 4 => if 2 ≤ t then s.fail stOperand else (s.towerReset t).okay
      | 5 => if t ≠ 0 then s.fail stOperand else ((posted s).warmReset b, .hold)
      | 6 => if t ≠ 0 then s.fail stOperand else ((posted s).coldRestart b, .hold)
      | _ => s.fail stOperand)
    s

/-! ## Monitors (R506) -/

/-- R506 MONITOR_SNAP: a write of 1 to SNAP of a monitor of a tower. -/
def execMonitorSnap (t : Tower) (m : Fin 64) (clr : Bool) (s : State) : Out := .next (s.monSnap (64 * t.val + m.val) clr)

end Sys2Proof.Machine
end

