-- ==== Sys2Proof/Machine/Scalar.lean ====
section
/-! DEFINITION. Scalar arithmetic, predicate and floating-point instructions (R98, R100 to R102). -/

namespace Sys2Proof.Machine

/-- The fields that rd ← s1 op op2 uses. -/
def usesAlu : Uses := { rd := true, rs1 := true, rs2 := true, im := true }

/-- rd ← g s1 op2. -/
def alu (s : State) (sp : Sp) (f : FmtS) (g : W64 → W64 → W64) : Out :=
  issueS s sp.val usesAlu f false (fun x => s.advance sp.val (x.setS f.rd (g (x.getS f.rs1) (x.op2 f))))

/-- R100: only bits 5:0 of a shift amount count. -/
def shamt (b : W64) : Nat := b.get 5 0

/-- R98 ADD. -/
def execAdd (sp : Sp) (f : FmtS) (s : State) : Out := alu s sp f (fun a b => a + b)
/-- R98 SUB. -/
def execSub (sp : Sp) (f : FmtS) (s : State) : Out := alu s sp f (fun a b => a - b)
/-- R98 AND. -/
def execAnd (sp : Sp) (f : FmtS) (s : State) : Out := alu s sp f (fun a b => a &&& b)
/-- R98 OR. -/
def execOr (sp : Sp) (f : FmtS) (s : State) : Out := alu s sp f (fun a b => a ||| b)
/-- R98 XOR. -/
def execXor (sp : Sp) (f : FmtS) (s : State) : Out := alu s sp f (fun a b => a ^^^ b)
/-- R98 SLL. -/
def execSll (sp : Sp) (f : FmtS) (s : State) : Out := alu s sp f (fun a b => a <<< shamt b)
/-- R98 SRL. -/
def execSrl (sp : Sp) (f : FmtS) (s : State) : Out := alu s sp f (fun a b => a >>> shamt b)
/-- R98 SRA. -/
def execSra (sp : Sp) (f : FmtS) (s : State) : Out := alu s sp f (fun a b => a.sshiftRight (shamt b))
/-- R98 MIN. -/
def execMin (sp : Sp) (f : FmtS) (s : State) : Out := alu s sp f (fun a b => if a.slt b then a else b)
/-- R98 MAX. -/
def execMax (sp : Sp) (f : FmtS) (s : State) : Out := alu s sp f (fun a b => if a.slt b then b else a)
/-- R98 MINU. -/
def execMinu (sp : Sp) (f : FmtS) (s : State) : Out := alu s sp f (fun a b => if a.ult b then a else b)
/-- R98 MAXU. -/
def execMaxu (sp : Sp) (f : FmtS) (s : State) : Out := alu s sp f (fun a b => if a.ult b then b else a)
/-- R98 MUL. -/
def execMul (sp : Sp) (f : FmtS) (s : State) : Out := alu s sp f (fun a b => a * b)
/-- R98 MULH. -/
def execMulh (sp : Sp) (f : FmtS) (s : State) : Out := alu s sp f (fun a b => BitVec.ofInt 64 (a.toInt * b.toInt / 2 ^ 64))
/-- R98 MULHU. -/
def execMulhu (sp : Sp) (f : FmtS) (s : State) : Out := alu s sp f (fun a b => BitVec.ofNat 64 (a.toNat * b.toNat / 2 ^ 64))

/-- R100: a zero divisor gives −1. -/
def execDiv (sp : Sp) (f : FmtS) (s : State) : Out :=
  alu s sp f (fun a b => if b = 0 then BitVec.allOnes 64 else BitVec.ofInt 64 (a.toInt.tdiv b.toInt))
/-- R100: a zero divisor gives all ones. -/
def execDivu (sp : Sp) (f : FmtS) (s : State) : Out :=
  alu s sp f (fun a b => if b = 0 then BitVec.allOnes 64 else BitVec.ofNat 64 (a.toNat / b.toNat))
/-- R100: a zero divisor gives the dividend; the remainder takes the dividend's sign. -/
def execRem (sp : Sp) (f : FmtS) (s : State) : Out :=
  alu s sp f (fun a b => if b = 0 then a else BitVec.ofInt 64 (a.toInt.tmod b.toInt))
/-- R100: a zero divisor gives the dividend. -/
def execRemu (sp : Sp) (f : FmtS) (s : State) : Out :=
  alu s sp f (fun a b => if b = 0 then a else BitVec.ofNat 64 (a.toNat % b.toNat))

/-- R98 SEL: rd ← p[PD] ? s1 : op2. -/
def execSel (sp : Sp) (f : FmtS) (s : State) : Out :=
  issueS s sp.val { usesAlu with pd := true } f false
    (fun x => s.advance sp.val (x.setS f.rd (if x.getP f.pd then x.getS f.rs1 else x.op2 f)))

/-- The comparisons of R101, R118: EQ NE LT GE LTU GEU. -/
def compare (code : Nat) (a b : W64) : Bool :=
  match code with
  | 0 => a = b
  | 1 => a ≠ b
  | 2 => a.slt b
  | 3 => ! a.slt b
  | 4 => a.ult b
  | _ => ! a.ult b

/-- R101 CMP. -/
def execCmp (sp : Sp) (f : FmtS) (s : State) : Out :=
  issueS s sp.val { rs1 := true, rs2 := true, im := true, pd := true, aux := 7 } f (decide (5 < f.aux.toNat))
    (fun x => s.advance sp.val (x.setP f.pd (compare f.aux.toNat (x.getS f.rs1) (x.op2 f))))

/-- R101 PLOG: the logic of two predicates. -/
def predLogic (code : Nat) (a b : Bool) : Bool :=
  match code with
  | 0 => a && b
  | 1 => a || b
  | 2 => a != b
  | _ => a && ! b

/-- The predicate that the low bits of a register field name (R101). -/
def predOf (r : BitVec 5) : BitVec 3 := r.extractLsb' 0 3

/-- R101 PLOG: bits 4:3 of RS1 and RS2 are zero. -/
def execPlog (sp : Sp) (f : FmtS) (s : State) : Out :=
  issue s sp.val 16
    (illegalS { rs1 := true, rs2 := true, pd := true, aux := 3 } f || decide (7 < f.rs1.toNat) || decide (7 < f.rs2.toNat))
    f.gp f.gn (fun _ => false)
    (fun x => s.advance sp.val (x.setP f.pd (predLogic f.aux.toNat (x.getP (predOf f.rs1)) (x.getP (predOf f.rs2)))))

/-- R101 PMOV. -/
def execPmov (sp : Sp) (f : FmtS) (s : State) : Out :=
  if f.aux = 0 then
    issue s sp.val 16 (illegalS { rd := true, rs1 := true, aux := 1 } f || decide (7 < f.rs1.toNat)) f.gp f.gn
      (fun x => x.busy f.rd || x.vexprHolds f.rd)
      (fun x => s.advance sp.val (x.setS f.rd (if x.getP (predOf f.rs1) then 1 else 0)))
  else
    issueS s sp.val { rs1 := true, pd := true, aux := 1 } f false
      (fun x => s.advance sp.val (x.setP f.pd (decide (x.getS f.rs1 ≠ 0))))

/-! ## Floating point (R102) -/

/-- FP64 with X, FP32 without. -/
def fpFmt (x : BitVec 1) : Fmt := if x = 1 then .fp64 else .fp32

/-- The value an s register holds in the format that X selects; FP32 ignores bits 63:32. -/
def Spire.fpArg (sp : Spire) (x : BitVec 1) (r : BitVec 5) : Val :=
  unpack (fpFmt x) 0 ((sp.getS r).toNat % 2 ^ (fpFmt x).bits)

/-- R69, R102: RM = SR and the reserved codes are ILLEGAL in a scalar instruction. -/
def rmIllegal (f : FmtS) : Bool := decide (5 ≤ f.rm.toNat)

/-- The rounding mode of a scalar instruction. -/
def scalarRM (f : FmtS) : RM := (RM.ofCode f.rm.toNat).getD .rne

/-- rd ← the value rounded to the format of X, with its flags (R67, R102). -/
def fpResult (s : State) (sp : Sp) (f : FmtS) (x : Spire) (rm : RM) (v : Val × Flags) : State :=
  let (p, fl) := convert (fpFmt f.x) 0 rm 0 v.1
  s.advance sp.val ((x.setS f.rd (BitVec.ofNat 64 p)).flag (v.2 ||| fl))

/-- A rounded operation on s1 and s2. -/
def fp2 (s : State) (sp : Sp) (f : FmtS) (g : RM → Val → Val → Val × Flags) : Out :=
  issueS s sp.val { rd := true, rs1 := true, rs2 := true, rm := true, x := true } f (rmIllegal f)
    (fun x => fpResult s sp f x (scalarRM f) (g (scalarRM f) (x.fpArg f.x f.rs1) (x.fpArg f.x f.rs2)))

/-- R102 FADD. -/
def execFadd (sp : Sp) (f : FmtS) (s : State) : Out := fp2 s sp f vadd
/-- R102 FSUB. -/
def execFsub (sp : Sp) (f : FmtS) (s : State) : Out := fp2 s sp f (fun rm a b => vadd rm a (vneg b))
/-- R102 FMUL. -/
def execFmul (sp : Sp) (f : FmtS) (s : State) : Out := fp2 s sp f (fun _ a b => vmul a b)

/-- R98, R102 FFMA: one rounding. -/
def execFfma (sp : Sp) (f : FmtS) (s : State) : Out :=
  issueS s sp.val { rd := true, rs1 := true, rs2 := true, rs3 := true, rm := true, x := true } f (rmIllegal f)
    (fun x => fpResult s sp f x (scalarRM f)
      (vfma (scalarRM f) (x.fpArg f.x f.rs1) (x.fpArg f.x f.rs2) (x.fpArg f.x f.rs3)))

/-- An exact operation on s1 and s2; RM is zero. -/
def fpExact (s : State) (sp : Sp) (f : FmtS) (g : Val → Val → Val × Flags) : Out :=
  issueS s sp.val { rd := true, rs1 := true, rs2 := true, x := true } f false
    (fun x => fpResult s sp f x .rne (g (x.fpArg f.x f.rs1) (x.fpArg f.x f.rs2)))

/-- R65, R102 FMIN. -/
def execFmin (sp : Sp) (f : FmtS) (s : State) : Out := fpExact s sp f vmin
/-- R65, R102 FMAX. -/
def execFmax (sp : Sp) (f : FmtS) (s : State) : Out := fpExact s sp f vmax

/-- R102: EQ, LT, LE; false with a NaN. -/
def fpCompare (code : Nat) (a b : Val) : Bool :=
  match vcmp a b with
  | none => false
  | some c => match code with
    | 0 => c = 0
    | 1 => c < 0
    | _ => c ≤ 0

/-- R102 FCMP; a signalling NaN sets NV (R65). -/
def execFcmp (sp : Sp) (f : FmtS) (s : State) : Out :=
  issueS s sp.val { rs1 := true, rs2 := true, pd := true, x := true, aux := 3 } f (decide (2 < f.aux.toNat))
    (fun x =>
      let a := x.fpArg f.x f.rs1
      let b := x.fpArg f.x f.rs2
      s.advance sp.val ((x.setP f.pd (fpCompare f.aux.toNat a b)).flag (Flags.cond (a.snan || b.snan) Flags.nv)))

/-- A value rounded to a 64-bit integer (R73, R102): it saturates with SAT and NX, an infinity with SAT, a NaN gives 0 with
NV. -/
def toInt64 (signed : Bool) (rm : RM) (v : Val) : W64 × Flags :=
  let lo : Int := if signed then -(2 ^ 63) else 0
  let hi : Int := if signed then 2 ^ 63 - 1 else 2 ^ 64 - 1
  match v with
  | .nan _ => (0, Flags.nv)
  | .inf neg => (BitVec.ofInt 64 (if neg then lo else hi), Flags.sat)
  | .fin neg m e => let (x, fl) := roundInt rm 0 neg m e lo hi; (BitVec.ofInt 64 x, fl)

/-- R102 FCVT. -/
def execFcvt (sp : Sp) (f : FmtS) (s : State) : Out :=
  issueS s sp.val { rd := true, rs1 := true, rm := true, x := true, aux := 7 } f (rmIllegal f || decide (4 < f.aux.toNat))
    (fun x =>
      let rm := scalarRM f
      match f.aux.toNat with
      | 0 => fpResult s sp f x rm (x.fpArg (~~~f.x) f.rs1, Flags.none)
      | 1 => fpResult s sp f x rm (Val.ofInt (x.getS f.rs1).toInt, Flags.none)
      | 2 => fpResult s sp f x rm (Val.ofInt (x.getS f.rs1).toNat, Flags.none)
      | k =>
        let (v, fl) := toInt64 (k = 3) rm (x.fpArg f.x f.rs1)
        s.advance sp.val ((x.setS f.rd v).flag fl))

end Sys2Proof.Machine
end

