-- ==== Sys2Proof/Machine/Dispatch.lean ====
section
/-! DEFINITION. Dispatch: one arm per command. -/

namespace Sys2Proof.Machine

/-- The meaning of every command, on everything but the queue. -/
def exec (i : Instr) (s : State) : Host.Outcome State Fault Refusal :=
  match i with
  | .add sp f => Sys2Proof.Machine.execAdd sp f s
  | .sub sp f => Sys2Proof.Machine.execSub sp f s
  | .andS sp f => Sys2Proof.Machine.execAnd sp f s
  | .orS sp f => Sys2Proof.Machine.execOr sp f s
  | .xor sp f => Sys2Proof.Machine.execXor sp f s
  | .sll sp f => Sys2Proof.Machine.execSll sp f s
  | .srl sp f => Sys2Proof.Machine.execSrl sp f s
  | .sra sp f => Sys2Proof.Machine.execSra sp f s
  | .minS sp f => Sys2Proof.Machine.execMin sp f s
  | .maxS sp f => Sys2Proof.Machine.execMax sp f s
  | .minu sp f => Sys2Proof.Machine.execMinu sp f s
  | .maxu sp f => Sys2Proof.Machine.execMaxu sp f s
  | .mul sp f => Sys2Proof.Machine.execMul sp f s
  | .mulh sp f => Sys2Proof.Machine.execMulh sp f s
  | .mulhu sp f => Sys2Proof.Machine.execMulhu sp f s
  | .sel sp f => Sys2Proof.Machine.execSel sp f s
  | .div sp f => Sys2Proof.Machine.execDiv sp f s
  | .divu sp f => Sys2Proof.Machine.execDivu sp f s
  | .rem sp f => Sys2Proof.Machine.execRem sp f s
  | .remu sp f => Sys2Proof.Machine.execRemu sp f s
  | .cmp sp f => Sys2Proof.Machine.execCmp sp f s
  | .plog sp f => Sys2Proof.Machine.execPlog sp f s
  | .pmov sp f => Sys2Proof.Machine.execPmov sp f s
  | .fadd sp f => Sys2Proof.Machine.execFadd sp f s
  | .fsub sp f => Sys2Proof.Machine.execFsub sp f s
  | .fmul sp f => Sys2Proof.Machine.execFmul sp f s
  | .ffma sp f => Sys2Proof.Machine.execFfma sp f s
  | .fmin sp f => Sys2Proof.Machine.execFmin sp f s
  | .fmax sp f => Sys2Proof.Machine.execFmax sp f s
  | .fcmp sp f => Sys2Proof.Machine.execFcmp sp f s
  | .fcvt sp f => Sys2Proof.Machine.execFcvt sp f s
  | .ld sp f => Sys2Proof.Machine.execLd sp f s
  | .st sp f => Sys2Proof.Machine.execSt sp f s
  | .lda sp f => Sys2Proof.Machine.execLda sp f s
  | .cinv sp f => Sys2Proof.Machine.execCinv sp f s
  | .fset sp f => Sys2Proof.Machine.execFset sp f s
  | .br sp f => Sys2Proof.Machine.execBr sp f s
  | .jal sp f => Sys2Proof.Machine.execJal sp f s
  | .tdr sp f => Sys2Proof.Machine.execTdr sp f s
  | .tdw sp f => Sys2Proof.Machine.execTdw sp f s
  | .csrr sp f => Sys2Proof.Machine.execCsrr sp f s
  | .csrw sp f => Sys2Proof.Machine.execCsrw sp f s
  | .aget sp f => Sys2Proof.Machine.execAget sp f s
  | .aput sp f => Sys2Proof.Machine.execAput sp f s
  | .vexpr sp f => Sys2Proof.Machine.execVexpr sp f s
  | .mma sp f => Sys2Proof.Machine.execMma sp f s
  | .tmove sp f => Sys2Proof.Machine.execTmove sp f s
  | .vgather sp f => Sys2Proof.Machine.execVgather sp f s
  | .bcmd sp f => Sys2Proof.Machine.execBcmd sp f s
  | .twait sp f => Sys2Proof.Machine.execTwait sp f s
  | .waitf sp f => Sys2Proof.Machine.execWaitf sp f s
  | .fsignal sp f => Sys2Proof.Machine.execFsignal sp f s
  | .fwait sp f => Sys2Proof.Machine.execFwait sp f s
  | .bar sp f => Sys2Proof.Machine.execBar sp f s
  | .phase sp f => Sys2Proof.Machine.execPhase sp f s
  | .epoch sp f => Sys2Proof.Machine.execEpoch sp f s
  | .nop sp f => Sys2Proof.Machine.execNop sp f s
  | .eok sp f => Sys2Proof.Machine.execEok sp f s
  | .brk sp f => Sys2Proof.Machine.execBrk sp f s
  | .ext sp => Sys2Proof.Machine.execExt sp s
  | .tileStart sp q => Sys2Proof.Machine.execTileStart sp q s
  | .tileComplete sp q k host => Sys2Proof.Machine.execTileComplete sp q k host s
  | .loadDataReturn id => Sys2Proof.Machine.execLoadDataReturn id s
  | .writeAckArrival id => Sys2Proof.Machine.execWriteAckArrival id s
  | .waitfPoll sp => Sys2Proof.Machine.execWaitfPoll sp s
  | .waitfTimeout sp => Sys2Proof.Machine.execWaitfTimeout sp s
  | .fwaitComplete sp => Sys2Proof.Machine.execFwaitComplete sp s
  | .fwaitTimeout sp => Sys2Proof.Machine.execFwaitTimeout sp s
  | .spireHalt sp => Sys2Proof.Machine.execSpireHalt sp s
  | .spireSave sp => Sys2Proof.Machine.execSpireSave sp s
  | .spireMoor sp => Sys2Proof.Machine.execSpireMoor sp s
  | .unitWake u => Sys2Proof.Machine.execUnitWake u s
  | .basinAppend id => Sys2Proof.Machine.execBasinAppend id s
  | .basinNop c => Sys2Proof.Machine.execBasinNop c s
  | .basinFill c => Sys2Proof.Machine.execBasinFill c s
  | .basinCopy c => Sys2Proof.Machine.execBasinCopy c s
  | .convert c => Sys2Proof.Machine.execConvert c s
  | .checksum c => Sys2Proof.Machine.execChecksum c s
  | .gather c => Sys2Proof.Machine.execGather c s
  | .scatter c => Sys2Proof.Machine.execScatter c s
  | .opt c => Sys2Proof.Machine.execOpt c s
  | .opttab c => Sys2Proof.Machine.execOpttab c s
  | .wincfg c => Sys2Proof.Machine.execWincfg c s
  | .repair c bad => Sys2Proof.Machine.execRepair c bad s
  | .basinCommandComplete c => Sys2Proof.Machine.execBasinCommandComplete c s
  | .reducingWriteLand c => Sys2Proof.Machine.execReducingWriteLand c s
  | .basinMoor c => Sys2Proof.Machine.execBasinMoor c s
  | .replicaRepair c off spared => Sys2Proof.Machine.execReplicaRepair c off spared s
  | .memoryRead id ecc => Sys2Proof.Machine.execMemoryRead id ecc s
  | .memoryWrite id ecc => Sys2Proof.Machine.execMemoryWrite id ecc s
  | .mergeEntryClose port k => Sys2Proof.Machine.execMergeEntryClose port k s
  | .fillDone u => Sys2Proof.Machine.execFillDone u s
  | .refresh u => Sys2Proof.Machine.execRefresh u s
  | .refreshRateChange u temp => Sys2Proof.Machine.execRefreshRateChange u temp s
  | .refreshManagement u row => Sys2Proof.Machine.execRefreshManagement u row s
  | .retrainingWindow u => Sys2Proof.Machine.execRetrainingWindow u s
  | .retrainingEnd u converged => Sys2Proof.Machine.execRetrainingEnd u converged s
  | .dramScrub u ecc => Sys2Proof.Machine.execDramScrub u ecc s
  | .sramScrub array unit off ecc => Sys2Proof.Machine.execSramScrub array unit off ecc s
  | .scrubWake u => Sys2Proof.Machine.execScrubWake u s
  | .channelMoor u => Sys2Proof.Machine.execChannelMoor u s
  | .tgStart u => Sys2Proof.Machine.execTgStart u s
  | .tgStop u => Sys2Proof.Machine.execTgStop u s
  | .tgRunEnd u err => Sys2Proof.Machine.execTgRunEnd u err s
  | .scratchpadWriteArrival id => Sys2Proof.Machine.execScratchpadWriteArrival id s
  | .landingAdd id => Sys2Proof.Machine.execLandingAdd id s
  | .routerCombine a b router => Sys2Proof.Machine.execRouterCombine a b router s
  | .combineWaitExpiry id => Sys2Proof.Machine.execCombineWaitExpiry id s
  | .combinedAck id => Sys2Proof.Machine.execCombinedAck id s
  | .multicastDeliver sp off data => Sys2Proof.Machine.execMulticastDeliver sp off data s
  | .lockReplay toSouth x flits => Sys2Proof.Machine.execLockReplay toSouth x flits s
  | .lockCrossingOut x => Sys2Proof.Machine.execLockCrossingOut x s
  | .barrierArrival sp => Sys2Proof.Machine.execBarrierArrival sp s
  | .codewordReceive c cw => Sys2Proof.Machine.execCodewordReceive c cw s
  | .controlFlitSend c => Sys2Proof.Machine.execControlFlitSend c s
  | .controlFlitReceive c f => Sys2Proof.Machine.execControlFlitReceive c f s
  | .writePacket c p => Sys2Proof.Machine.execWritePacket c p s
  | .writeRedPacket c p => Sys2Proof.Machine.execWriteRedPacket c p s
  | .readPacket c p => Sys2Proof.Machine.execReadPacket c p s
  | .readRspPacket c p => Sys2Proof.Machine.execReadRspPacket c p s
  | .basinPacket c p => Sys2Proof.Machine.execBasinPacket c p s
  | .fencePacket c p => Sys2Proof.Machine.execFencePacket c p s
  | .ackPacket c p => Sys2Proof.Machine.execAckPacket c p s
  | .nakPacket c p => Sys2Proof.Machine.execNakPacket c p s
  | .resyncPacket c p => Sys2Proof.Machine.execResyncPacket c p s
  | .packetForward c typ p => Sys2Proof.Machine.execPacketForward c typ p s
  | .ackTimer node => Sys2Proof.Machine.execAckTimer node s
  | .retransmitTimeout node seq => Sys2Proof.Machine.execRetransmitTimeout node seq s
  | .holdTimeout node seq => Sys2Proof.Machine.execHoldTimeout node seq s
  | .recalibration c lane => Sys2Proof.Machine.execRecalibration c lane s
  | .recalDone c ok => Sys2Proof.Machine.execRecalDone c ok s
  | .canalTrainingRetry c => Sys2Proof.Machine.execCanalTrainingRetry c s
  | .cableRemoved c => Sys2Proof.Machine.execCableRemoved c s
  | .poolStage q => Sys2Proof.Machine.execPoolStage q s
  | .poolCommit q => Sys2Proof.Machine.execPoolCommit q s
  | .poolAbort q => Sys2Proof.Machine.execPoolAbort q s
  | .poolGet q => Sys2Proof.Machine.execPoolGet q s
  | .poolReturn q => Sys2Proof.Machine.execPoolReturn q s
  | .poolFree q => Sys2Proof.Machine.execPoolFree q s
  | .pdata c p => Sys2Proof.Machine.execPdata c p s
  | .paccept c p => Sys2Proof.Machine.execPaccept c p s
  | .prule c p => Sys2Proof.Machine.execPrule c p s
  | .pstatus c p => Sys2Proof.Machine.execPstatus c p s
  | .poolResponseTimeout e tag => Sys2Proof.Machine.execPoolResponseTimeout e tag s
  | .poolProbe e pool => Sys2Proof.Machine.execPoolProbe e pool s
  | .poolLoss e pool => Sys2Proof.Machine.execPoolLoss e pool s
  | .vdCreate q => Sys2Proof.Machine.execVdCreate q s
  | .vdSet q => Sys2Proof.Machine.execVdSet q s
  | .vdDestroy q => Sys2Proof.Machine.execVdDestroy q s
  | .sliceBind q => Sys2Proof.Machine.execSliceBind q s
  | .sliceUnbind q => Sys2Proof.Machine.execSliceUnbind q s
  | .carveBind q => Sys2Proof.Machine.execCarveBind q s
  | .carveSeal q => Sys2Proof.Machine.execCarveSeal q s
  | .evac q => Sys2Proof.Machine.execEvac q s
  | .evacAbort q => Sys2Proof.Machine.execEvacAbort q s
  | .vdPeer q => Sys2Proof.Machine.execVdPeer q s
  | .vdBarrier q => Sys2Proof.Machine.execVdBarrier q s
  | .graceExpiry v slice => Sys2Proof.Machine.execGraceExpiry v slice s
  | .evacChunkDone e chunk => Sys2Proof.Machine.execEvacChunkDone e chunk s
  | .evacSwitch e => Sys2Proof.Machine.execEvacSwitch e s
  | .doorbell fn q off width v => Sys2Proof.Machine.execDoorbell fn q off width v s
  | .commandFetch q ans => Sys2Proof.Machine.execCommandFetch q ans s
  | .commandRetire r => Sys2Proof.Machine.execCommandRetire r s
  | .completionConsumerWrite fn q width v => Sys2Proof.Machine.execCompletionConsumerWrite fn q width v s
  | .statusRingEnable fn off v => Sys2Proof.Machine.execStatusRingEnable fn off v s
  | .statusConsumerWrite fn v => Sys2Proof.Machine.execStatusConsumerWrite fn v s
  | .controlQueueCreate fn off v => Sys2Proof.Machine.execControlQueueCreate fn off v s
  | .fwRequestProducer fn v => Sys2Proof.Machine.execFwRequestProducer fn v s
  | .fwResponseConsumer fn v => Sys2Proof.Machine.execFwResponseConsumer fn v s
  | .bar0ReadLatch fn off width => Sys2Proof.Machine.execBar0ReadLatch fn off width s
  | .bar4Read fn off n => Sys2Proof.Machine.execBar4Read fn off n s
  | .bar4Write fn off data => Sys2Proof.Machine.execBar4Write fn off data s
  | .msixModerationExpiry q => Sys2Proof.Machine.execMsixModerationExpiry q s
  | .functionLevelReset fn => Sys2Proof.Machine.execFunctionLevelReset fn s
  | .linkDown port => Sys2Proof.Machine.execLinkDown port s
  | .regWrite q => Sys2Proof.Machine.execRegWrite q s
  | .peerReset q => Sys2Proof.Machine.execPeerReset q s
  | .chargeMove q => Sys2Proof.Machine.execChargeMove q s
  | .registerWrite who off v => Sys2Proof.Machine.execRegisterWrite who off v s
  | .ctxCreate q => Sys2Proof.Machine.execCtxCreate q s
  | .ctxDestroy q => Sys2Proof.Machine.execCtxDestroy q s
  | .teardownDrainExpiry ctx => Sys2Proof.Machine.execTeardownDrainExpiry ctx s
  | .qCreate q => Sys2Proof.Machine.execQCreate q s
  | .qStop q => Sys2Proof.Machine.execQStop q s
  | .qStart q => Sys2Proof.Machine.execQStart q s
  | .qReset q => Sys2Proof.Machine.execQReset q s
  | .memCreate q => Sys2Proof.Machine.execMemCreate q s
  | .memMap q => Sys2Proof.Machine.execMemMap q s
  | .memUnmap q => Sys2Proof.Machine.execMemUnmap q s
  | .fenceCreate q => Sys2Proof.Machine.execFenceCreate q s
  | .fenceLink q => Sys2Proof.Machine.execFenceLink q s
  | .fenceReset q => Sys2Proof.Machine.execFenceReset q s
  | .eventCreate q => Sys2Proof.Machine.execEventCreate q s
  | .fenceNotify q => Sys2Proof.Machine.execFenceNotify q s
  | .exportObj q => Sys2Proof.Machine.execExportObj q s
  | .importObj q => Sys2Proof.Machine.execImportObj q s
  | .releaseObj q => Sys2Proof.Machine.execReleaseObj q s
  | .vdGrant q => Sys2Proof.Machine.execVdGrant q s
  | .vdFreeze q => Sys2Proof.Machine.execVdFreeze q s
  | .vdSave q => Sys2Proof.Machine.execVdSave q s
  | .vdRestore q image => Sys2Proof.Machine.execVdRestore q image s
  | .vdThaw q => Sys2Proof.Machine.execVdThaw q s
  | .workNop q => Sys2Proof.Machine.execWorkNop q s
  | .fenceSignalApply id => Sys2Proof.Machine.execFenceSignalApply id s
  | .fenceAck id => Sys2Proof.Machine.execFenceAck id s
  | .inval q => Sys2Proof.Machine.execInval q s
  | .invalAbort k => Sys2Proof.Machine.execInvalAbort k s
  | .invalComplete k => Sys2Proof.Machine.execInvalComplete k s
  | .translationWalk t => Sys2Proof.Machine.execTranslationWalk t s
  | .walkReadReturn w ans => Sys2Proof.Machine.execWalkReadReturn w ans s
  | .hostReadTimeout w => Sys2Proof.Machine.execHostReadTimeout w s
  | .brun q => Sys2Proof.Machine.execBrun q s
  | .bargeChannelAssign q first => Sys2Proof.Machine.execBargeChannelAssign q first s
  | .bargeNop b host => Sys2Proof.Machine.execBargeNop b host s
  | .bargeCopy b host => Sys2Proof.Machine.execBargeCopy b host s
  | .bargeReduce b host => Sys2Proof.Machine.execBargeReduce b host s
  | .bargeBasin b host => Sys2Proof.Machine.execBargeBasin b host s
  | .descriptorRecord b => Sys2Proof.Machine.execDescriptorRecord b s
  | .dispatch q => Sys2Proof.Machine.execDispatch q s
  | .jobBegin q => Sys2Proof.Machine.execJobBegin q s
  | .jobEnd q => Sys2Proof.Machine.execJobEnd q s
  | .queueEpoch q => Sys2Proof.Machine.execQueueEpoch q s
  | .certRead q => Sys2Proof.Machine.execCertRead q s
  | .attest q => Sys2Proof.Machine.execAttest q s
  | .sessionOpen q host => Sys2Proof.Machine.execSessionOpen q host s
  | .sessionClose q => Sys2Proof.Machine.execSessionClose q s
  | .bounceIn q host => Sys2Proof.Machine.execBounceIn q host s
  | .bounceOut q => Sys2Proof.Machine.execBounceOut q s
  | .migrateTarget q host => Sys2Proof.Machine.execMigrateTarget q host s
  | .debugChallenge q => Sys2Proof.Machine.execDebugChallenge q s
  | .debugOpen q host => Sys2Proof.Machine.execDebugOpen q host s
  | .lcAdvance q host b => Sys2Proof.Machine.execLcAdvance q host b s
  | .ownerSet q host => Sys2Proof.Machine.execOwnerSet q host s
  | .debugMailbox cert => Sys2Proof.Machine.execDebugMailbox cert s
  | .powerControlTick t b => Sys2Proof.Machine.execPowerControlTick t b s
  | .droopStretch t cycles => Sys2Proof.Machine.execDroopStretch t cycles s
  | .hintExpiry sp => Sys2Proof.Machine.execHintExpiry sp s
  | .thermalTrip => Sys2Proof.Machine.execThermalTrip s
  | .meterInterval m => Sys2Proof.Machine.execMeterInterval m s
  | .meterInterim v => Sys2Proof.Machine.execMeterInterim v s
  | .meterSign => Sys2Proof.Machine.execMeterSign s
  | .meterRead q => Sys2Proof.Machine.execMeterRead q s
  | .meterAck q => Sys2Proof.Machine.execMeterAck q s
  | .meterInspectRead off n => Sys2Proof.Machine.execMeterInspectRead off n s
  | .meterCalibrationWrite rail v => Sys2Proof.Machine.execMeterCalibrationWrite rail v s
  | .moduleMoor => Sys2Proof.Machine.execModuleMoor s
  | .moduleWake cause => Sys2Proof.Machine.execModuleWake cause s
  | .statusWord => Sys2Proof.Machine.execStatusWord s
  | .readEin => Sys2Proof.Machine.execReadEin s
  | .readVin => Sys2Proof.Machine.execReadVin s
  | .readIin => Sys2Proof.Machine.execReadIin s
  | .readPin => Sys2Proof.Machine.execReadPin s
  | .readTemperature1 => Sys2Proof.Machine.execReadTemperature1 s
  | .readTemperature2 => Sys2Proof.Machine.execReadTemperature2 s
  | .readTemperature3 => Sys2Proof.Machine.execReadTemperature3 s
  | .mfrPowerCap w => Sys2Proof.Machine.execMfrPowerCap w s
  | .sensorCalibration => Sys2Proof.Machine.execSensorCalibration s
  | .wearLevelling => Sys2Proof.Machine.execWearLevelling s
  | .powerUp b => Sys2Proof.Machine.execPowerUp b s
  | .fwInfo port => Sys2Proof.Machine.execFwInfo port s
  | .flashWrite port host good => Sys2Proof.Machine.execFlashWrite port host good s
  | .flashActivate port => Sys2Proof.Machine.execFlashActivate port s
  | .fwUpdate port => Sys2Proof.Machine.execFwUpdate port s
  | .procRestart port => Sys2Proof.Machine.execProcRestart port s
  | .logLevel port => Sys2Proof.Machine.execLogLevel port s
  | .restartAlone p => Sys2Proof.Machine.execRestartAlone p s
  | .watchdogWrite p => Sys2Proof.Machine.execWatchdogWrite p s
  | .watchdogExpiry p => Sys2Proof.Machine.execWatchdogExpiry p s
  | .logicCheckFail u b => Sys2Proof.Machine.execLogicCheckFail u b s
  | .spireReset sp => Sys2Proof.Machine.execSpireReset sp s
  | .clusterReset k => Sys2Proof.Machine.execClusterReset k s
  | .sliceReset v slice => Sys2Proof.Machine.execSliceReset v slice s
  | .vdReset v => Sys2Proof.Machine.execVdReset v s
  | .sampleAbandon sp => Sys2Proof.Machine.execSampleAbandon sp s
  | .towerReset t => Sys2Proof.Machine.execTowerReset t s
  | .warmDeviceReset b => Sys2Proof.Machine.execWarmDeviceReset b s
  | .coldDeviceReset b => Sys2Proof.Machine.execColdDeviceReset b s
  | .resetCommand q b => Sys2Proof.Machine.execResetCommand q b s
  | .commandTimeout w => Sys2Proof.Machine.execCommandTimeout w s
  | .monitorSnap t m clr => Sys2Proof.Machine.execMonitorSnap t m clr s
  | .modRstAssert => Sys2Proof.Machine.execModRstAssert s
  | .modRstRelease b => Sys2Proof.Machine.execModRstRelease b s
  | .perstAssert port => Sys2Proof.Machine.execPerstAssert port s
  | .perstRelease port => Sys2Proof.Machine.execPerstRelease port s
  | .undervoltage => Sys2Proof.Machine.execUndervoltage s
  | .overvoltage mV => Sys2Proof.Machine.execOvervoltage mV s
  | .v54Removed => Sys2Proof.Machine.execV54Removed s
  | .overcurrent => Sys2Proof.Machine.execOvercurrent s
  | .cableSeated c => Sys2Proof.Machine.execCableSeated c s
  | .v54Restored b => Sys2Proof.Machine.execV54Restored b s
  | .droopRecover t => Sys2Proof.Machine.execDroopRecover t s
  | .hostLinkUp port => Sys2Proof.Machine.execHostLinkUp port s
  | .canalTrainingDone c lanes => Sys2Proof.Machine.execCanalTrainingDone c lanes s
  | .vfEnable port n => Sys2Proof.Machine.execVfEnable port n s
  | .flashProgrammerAccess op => Sys2Proof.Machine.execFlashProgrammerAccess op s
  | .debugTapAccess op => Sys2Proof.Machine.execDebugTapAccess op s

end Sys2Proof.Machine
end

