-- ==== Sys2Proof/Machine/Idle.lean ====
section
/-! DEFINITION. What passes while no command waits: the belfry clock ticks (R447), resets that run end (R497), and kernels that could not start before
start (R396). -/

namespace Sys2Proof.Machine

/-- Is VBELL up (R452, R526)? -/
def State.belfryUp (s : State) : Bool := s.power.life ≠ .off && s.power.life ≠ .opened

/-- R497, R500: the reset of a virtual device has ended: it is in STATE 1 again, and a RESET that asked for it completes. -/
def State.resetEnds (s : State) (v : Nat) : State :=
  let s := s.setFld .vdcfg v 1 0 1
  let asked (c : Cmd) : Bool := c.op = 0x23 && c.stage = .started && cmdField c.raw 8 1 = 3 && cmdField c.raw 9 1 = v
  (s.objs.queues.live.cells.flatMap (fun (k : Nat × QueueObj) => (k.2.cmds.filter asked).map (fun c => (k.1, c.seq)))).foldl
    (fun (s : State) k => s.finishCmd k.1 k.2 (Done.ok 0)) s

/-- One tick of the belfry clock (log 111): resets of virtual devices that run end (log 126), and kernels that waited for a memory port start. -/
def State.idle (s : State) : State :=
  if ! s.belfryUp then s
  else
    let s := s.setReg .btime 0 (s.reg .btime 0 + 1)
    let s := ((upFrom 0 63).filter (fun v => s.vdState v = 2)).foldl State.resetEnds s
    s.activeVds.foldl State.fill s

end Sys2Proof.Machine
end

