-- ==== Sys2Proof/Certificates/Slice0/Obligations.lean ====
section
/-! DEFINITION. Statements for the provers. A statement cites the rules of spec/ that it states; where it rests on a choice of the model it
names the log entry. -/

open Sys2Proof Sys2Proof.Machine

namespace Sys2Proof.Claims

/-! ## What the statements share -/

/-- The spire may issue the instruction at its PC (R24, R92): a kernel runs, nothing holds issue, the slots lie in the code region and
carry no poison, and the guard is true. -/
def Ready (x : Spire) (size : Nat) (gp : BitVec 3) (gn : BitVec 1) : Prop :=
  x.issuing = true ∧ x.fetchFault size = false ∧ anyPoison x.poison x.pc size = false ∧ x.guard gp gn = true

/-- Spire `n` has become `x`, moved past an instruction of `size` bytes (R91): PC, program order, performance counters and the single
step of a debugger aside, it is `x`; every other spire is as before; outside the spires nothing has changed but what the overflow event
of a performance counter writes (R505), and not that either while RLCFG.OVFEV is 0. -/
def Retires (s t : State) (n : Nat) (x : Spire) (size : Nat) : Prop :=
  (∃ v, t.spire n = { x with pc := (x.pc + size) % 2 ^ 64, seq := x.seq + 1, pcval := v, step := false })
    ∧ (∀ j, j ≠ n → t.spire j = s.spire j)
    ∧ t = { s with spires := t.spires, ctr := t.ctr, regs := t.regs, hostMem := t.hostMem, lost := t.lost, msix := t.msix }
    ∧ (s.bit .rlcfg 0 0 = false → t = { s with spires := t.spires })

/-- R98, R100: the integer instructions and their results. -/
def integerRows : List ((Sp → FmtS → Instr) × (W64 → W64 → W64)) :=
  [(.add, fun a b => a + b), (.sub, fun a b => a - b), (.andS, fun a b => a &&& b), (.orS, fun a b => a ||| b),
   (.xor, fun a b => a ^^^ b), (.sll, fun a b => a <<< (b.toNat % 64)), (.srl, fun a b => a >>> (b.toNat % 64)),
   (.sra, fun a b => a.sshiftRight (b.toNat % 64)),
   (.minS, fun a b => if a.toInt < b.toInt then a else b), (.maxS, fun a b => if a.toInt < b.toInt then b else a),
   (.minu, fun a b => if a.toNat < b.toNat then a else b), (.maxu, fun a b => if a.toNat < b.toNat then b else a),
   (.mul, fun a b => BitVec.ofNat 64 (a.toNat * b.toNat)),
   (.mulh, fun a b => BitVec.ofInt 64 (a.toInt * b.toInt / 2 ^ 64)),
   (.mulhu, fun a b => BitVec.ofNat 64 (a.toNat * b.toNat / 2 ^ 64)),
   (.div, fun a b => if b = 0 then BitVec.ofInt 64 (-1) else BitVec.ofInt 64 (a.toInt.tdiv b.toInt)),
   (.divu, fun a b => if b = 0 then BitVec.ofInt 64 (-1) else BitVec.ofNat 64 (a.toNat / b.toNat)),
   (.rem, fun a b => if b = 0 then a else BitVec.ofInt 64 (a.toInt - b.toInt * a.toInt.tdiv b.toInt)),
   (.remu, fun a b => if b = 0 then a else BitVec.ofNat 64 (a.toNat % b.toNat))]

end Sys2Proof.Claims

open Sys2Proof.Claims

/-- The queue's order: a step runs the command in front on the state with the queue's rest. -/
def Obligations.StepRunsTheFrontCommand : Prop :=
  ∀ (s : State) (c : Instr) (r : List Instr), s.pending = c :: r → step s = exec c { s with pending := r }

/-- R26: s0 reads as zero and takes no write; a write of another register is what it reads after it, and leaves every other; so with p0,
which reads as true. -/
def Sys2Proof.Claims.RegisterFile : Prop :=
  ∀ (x : Spire) (r q : BitVec 5) (v : W64) (p o : BitVec 3) (b : Bool),
    x.getS 0 = 0 ∧ x.setS 0 v = x ∧ (x.setS r v).getS q = (if q = r ∧ r ≠ 0 then v else x.getS q)
      ∧ x.getP 0 = true ∧ x.setP 0 b = x ∧ (x.setP p b).getP o = (if o = p ∧ p ≠ 0 then b else x.getP o)

/-- R98, R100: the integer instructions write their result to rd and change nothing else. The instruction issues when its encoding is legal (R93)
and no register it uses awaits a load or is held by a queued VEXPR (R27, R99). -/
def Obligations.IntegerInstructions : Prop :=
  ∀ (s : State) (sp : Sp) (f : FmtS), ∀ row ∈ integerRows,
    Ready (s.spire sp.val) 16 f.gp f.gn → illegalS usesAlu f = false → stallS usesAlu f (s.spire sp.val) = false →
    (s.spire sp.val).vexprHolds f.rd = false →
    ∃ t, exec (row.1 sp f) s = .next t
      ∧ Retires s t sp.val
          ((s.spire sp.val).setS f.rd (row.2 ((s.spire sp.val).getS f.rs1) (if f.im = 1 then f.imm else (s.spire sp.val).getS f.rs2))) 16

/-- R98, R101: SEL, CMP, PLOG and PMOV: the predicate and the register they write, and nothing else. -/
def Obligations.PredicateInstructions : Prop :=
  ∀ (s : State) (sp : Sp) (f : FmtS), Ready (s.spire sp.val) 16 f.gp f.gn →
    let x := s.spire sp.val
    let a := x.getS f.rs1
    let b := if f.im = 1 then f.imm else x.getS f.rs2
    (illegalS { usesAlu with pd := true } f = false → stallS { usesAlu with pd := true } f x = false → x.vexprHolds f.rd = false →
      ∃ t, exec (.sel sp f) s = .next t ∧ Retires s t sp.val (x.setS f.rd (if x.getP f.pd then a else b)) 16)
    ∧ (∀ cc : Nat, f.aux = BitVec.ofNat 6 cc → cc ≤ 5 →
        illegalS { rs1 := true, rs2 := true, im := true, pd := true, aux := 7 } f = false →
        stallS { rs1 := true, rs2 := true, im := true, pd := true, aux := 7 } f x = false →
        ∃ t, exec (.cmp sp f) s = .next t
          ∧ Retires s t sp.val
              (x.setP f.pd ([decide (a = b), decide (a ≠ b), decide (a.toInt < b.toInt), decide (b.toInt ≤ a.toInt),
                decide (a.toNat < b.toNat), decide (b.toNat ≤ a.toNat)].getD cc false)) 16)
    ∧ (∀ (op : Nat) (p q : BitVec 3), f.aux = BitVec.ofNat 6 op → op ≤ 3 → f.rs1.toNat = p.toNat → f.rs2.toNat = q.toNat →
        illegalS { rs1 := true, rs2 := true, pd := true, aux := 3 } f = false →
        ∃ t, exec (.plog sp f) s = .next t
          ∧ Retires s t sp.val
              (x.setP f.pd ([x.getP p && x.getP q, x.getP p || x.getP q, xor (x.getP p) (x.getP q), x.getP p && ! x.getP q].getD op false)) 16)
    ∧ (∀ p : BitVec 3, f.aux = 0 → f.rs1.toNat = p.toNat → illegalS { rd := true, rs1 := true, aux := 1 } f = false →
        x.busy f.rd = false → x.vexprHolds f.rd = false →
        ∃ t, exec (.pmov sp f) s = .next t ∧ Retires s t sp.val (x.setS f.rd (if x.getP p then 1 else 0)) 16)
    ∧ (f.aux = 1 → illegalS { rs1 := true, pd := true, aux := 1 } f = false → x.busy f.rs1 = false →
        ∃ t, exec (.pmov sp f) s = .next t ∧ Retires s t sp.val (x.setP f.pd (decide (a ≠ 0))) 16)

/-- A scalar floating-point instruction whose operands are `u`: its value rounded by RM (R67, R102) into rd, the flags of the operation and of
the rounding added to ASTATUS. -/
def Sys2Proof.Claims.FloatGives (s : State) (i : Instr) (sp : Sp) (f : FmtS) (rm : RM) (v : Val × Flags) : Prop :=
  ∃ t, exec i s = .next t
    ∧ Retires s t sp.val
        (((s.spire sp.val).setS f.rd (BitVec.ofNat 64 (convert (fpFmt f.x) 0 rm 0 v.1).1)).flag (v.2 ||| (convert (fpFmt f.x) 0 rm 0 v.1).2)) 16

/-- R98, R102: FADD, FSUB, FMUL, FFMA, FMIN, FMAX, FCMP and FCVT on FP32 or FP64 as X says. -/
def Obligations.FloatInstructions : Prop :=
  ∀ (s : State) (sp : Sp) (f : FmtS) (rm : RM), Ready (s.spire sp.val) 16 f.gp f.gn → RM.ofCode f.rm.toNat = some rm → f.rm.toNat < 5 →
    let x := s.spire sp.val
    let u (r : BitVec 5) : Val := unpack (fpFmt f.x) 0 ((x.getS r).toNat % 2 ^ (if f.x = 1 then 64 else 32))
    let two : Uses := { rd := true, rs1 := true, rs2 := true, rm := true, x := true }
    let exact : Uses := { rd := true, rs1 := true, rs2 := true, x := true }
    x.busy f.rd = false → x.vexprHolds f.rd = false → x.busy f.rs1 = false → x.busy f.rs2 = false → x.busy f.rs3 = false →
    (illegalS two f = false → FloatGives s (.fadd sp f) sp f rm (vadd rm (u f.rs1) (u f.rs2)))
    ∧ (illegalS two f = false → FloatGives s (.fsub sp f) sp f rm (vadd rm (u f.rs1) (vneg (u f.rs2))))
    ∧ (illegalS two f = false → FloatGives s (.fmul sp f) sp f rm (vmul (u f.rs1) (u f.rs2)))
    ∧ (illegalS { two with rs3 := true } f = false → FloatGives s (.ffma sp f) sp f rm (vfma rm (u f.rs1) (u f.rs2) (u f.rs3)))
    ∧ (illegalS exact f = false → FloatGives s (.fmin sp f) sp f .rne (vmin (u f.rs1) (u f.rs2)))
    ∧ (illegalS exact f = false → FloatGives s (.fmax sp f) sp f .rne (vmax (u f.rs1) (u f.rs2)))
    ∧ (illegalS { rs1 := true, rs2 := true, pd := true, x := true, aux := 3 } f = false → f.aux.toNat ≤ 2 →
        ∃ t, exec (.fcmp sp f) s = .next t
          ∧ Retires s t sp.val
              ((x.setP f.pd (match vcmp (u f.rs1) (u f.rs2) with
                | none => false
                | some c => if f.aux = 0 then decide (c = 0) else if f.aux = 1 then decide (c < 0) else decide (c ≤ 0))).flag
                (if (u f.rs1).snan || (u f.rs2).snan then Flags.nv else 0)) 16)
    ∧ (illegalS { rd := true, rs1 := true, rm := true, x := true, aux := 7 } f = false → f.aux.toNat ≤ 2 →
        FloatGives s (.fcvt sp f) sp f rm
          ((if f.aux = 0 then unpack (fpFmt (~~~f.x)) 0 ((x.getS f.rs1).toNat % 2 ^ (if f.x = 1 then 32 else 64))
            else if f.aux = 1 then Val.ofInt (x.getS f.rs1).toInt else Val.ofInt (x.getS f.rs1).toNat), 0))
    ∧ (illegalS { rd := true, rs1 := true, rm := true, x := true, aux := 7 } f = false → f.aux = 3 ∨ f.aux = 4 →
        ∃ t, exec (.fcvt sp f) s = .next t
          ∧ Retires s t sp.val
              ((x.setS f.rd (toInt64 (decide (f.aux = 3)) rm (u f.rs1)).1).flag (toInt64 (decide (f.aux = 3)) rm (u f.rs1)).2) 16)

/-- R103: LD and ST of the local scratchpad, and LDA of it: the bytes read, extended as X says, into rd; the bytes of s2 stored, and no other byte.
The address is a multiple of the size within the scratchpad; no tile instruction in flight writes near it (R36), and no granule is poisoned (R494). -/
def Obligations.ScratchpadAccess : Prop :=
  ∀ (s : State) (sp : Sp) (f : FmtS), Ready (s.spire sp.val) 16 f.gp f.gn → f.aux = 0 →
    let x := s.spire sp.val
    let k := 2 ^ f.sz.toNat
    let a := (x.getS f.rs1 + f.imm).toNat
    a % k = 0 → a + k ≤ 0x400000 → anyPoison x.poison a k = false →
    (illegalS { rd := true, rs1 := true, sz := true, x := true, aux := 1, imm := BitVec.allOnes 64 } f = false →
      x.busy f.rd = false → x.busy f.rs1 = false → x.vexprHolds f.rd = false → (∀ e ∈ x.vq ++ x.tq, e.started = false) →
      ∃ t, exec (.ld sp f) s = .next t
        ∧ Retires s t sp.val
            (x.setS f.rd (if f.x = 1 then BitVec.ofInt 64 (toSigned (8 * k) (natLE (x.spad.readN a k) % 2 ^ (8 * k)))
              else BitVec.ofNat 64 (natLE (x.spad.readN a k) % 2 ^ (8 * k)))) 16)
    ∧ (illegalS { rs1 := true, rs2 := true, sz := true, aux := 1, imm := BitVec.allOnes 64 } f = false →
      x.busy f.rs1 = false → x.busy f.rs2 = false → (a + k ≤ x.codeBase ∨ x.codeBase + x.codeLen ≤ a) →
      ∃ t, exec (.st sp f) s = .next t ∧ Retires s t sp.val (x.put a (bytesLE k (x.getS f.rs2).toNat)).1 16
        ∧ (∀ o, o < a ∨ a + k ≤ o → (t.spire sp.val).spad.read o = x.spad.read o)
        ∧ (∀ i, i < k → (t.spire sp.val).spad.read (a + i) = BitVec.ofNat 8 ((x.getS f.rs2).toNat / 256 ^ i)))

/-- R103, R119, R227: a store or a flag write to device memory that passes its checks is posted: the instruction retires, the store is the spire's until
it is acknowledged, and a request of the next number carries the low bytes of s2; device memory itself is unchanged. -/
def Sys2Proof.Claims.DeviceStoresArePosted : Prop :=
  ∀ (s : State) (sp : Sp) (f : FmtS) (p : Nat), Ready (s.spire sp.val) 16 f.gp f.gn →
    let x := s.spire sp.val
    let a := (x.getS f.rs1 + f.imm).toNat
    s.rangeCheck x.vdid a true = .at p → x.busy f.rs1 = false → x.busy f.rs2 = false →
    (∀ (i : Instr) (d : List Byte) (rel : Bool),
      (i = .st sp f ∧ f.aux = 1 ∧ rel = false ∧ a % 2 ^ f.sz.toNat = 0 ∧ d = bytesLE (2 ^ f.sz.toNat) (x.getS f.rs2).toNat
        ∧ illegalS { rs1 := true, rs2 := true, sz := true, aux := 1, imm := BitVec.allOnes 64 } f = false)
      ∨ (i = .fset sp f ∧ f.aux.getLsbD 0 = true ∧ rel = f.aux.getLsbD 1 ∧ a % 8 = 0 ∧ d = bytesLE 8 (x.getS f.rs2).toNat
        ∧ illegalS { rs1 := true, rs2 := true, aux := 3, imm := BitVec.allOnes 64 } f = false) →
      ∃ t, exec i s = .next t ∧ t.dev = s.dev ∧ t.nextId = s.nextId + 1
        ∧ (t.spire sp.val).pc = (x.pc + 16) % 2 ^ 64
        ∧ (t.spire sp.val).stores = x.stores ++ [⟨s.nextId, x.seq, x.pc, a, true⟩]
        ∧ (t.spire sp.val).regs = x.regs ∧ (t.spire sp.val).spad = x.spad
        ∧ (∀ j, j ≠ sp.val → t.spire j = s.spire j)
        ∧ (∃ r ∈ t.net.reqs, r.id = s.nextId ∧ r.agent = .spire sp.val ∧ r.target = .dev p ∧ r.kind = .write d
            ∧ r.deps = (if rel then x.stores.map (·.id) else []) ++ x.wordDeps a))

/-- R117: CINV invalidates its range and nothing else; a length of 0 names no range, and above 64 KiB the whole cache goes. LDA of device memory
invalidates its range and its own line and asks memory for its location. -/
def Sys2Proof.Claims.AcquireInstructions : Prop :=
  ∀ (s : State) (sp : Sp) (f : FmtS), Ready (s.spire sp.val) 16 f.gp f.gn →
    let x := s.spire sp.val
    let lo := (x.getS f.rs3).toNat
    let len := f.imm.toNat / 2 ^ 32
    x.busy f.rs3 = false →
    (illegalS { rs3 := true, imm := 0xFFFFFFFF00000000#64 } f = false →
      ∃ t, exec (.cinv sp f) s = .next t ∧ Retires s t sp.val (x.acquire lo len) 16
        ∧ (∀ line bs, (line, bs) ∈ (t.spire sp.val).cache.cells ↔ (line, bs) ∈ x.cache.cells
            ∧ ¬ (len ≠ 0 ∧ (0x10000 < len ∨ (lo / 64 ≤ line ∧ line ≤ (lo + len - 1) / 64)))))
    ∧ (∀ p, illegalS { rd := true, rs1 := true, rs3 := true, sz := true, x := true, aux := 1, imm := BitVec.allOnes 64 } f = false → f.aux = 1 →
        x.busy f.rd = false → x.busy f.rs1 = false → x.vexprHolds f.rd = false →
        (let a := (x.getS f.rs1 + (f.imm.extractLsb' 0 32).signExtend 64).toNat
         a % 2 ^ f.sz.toNat = 0 → s.rangeCheck x.vdid a false = .at p →
         ∃ t, exec (.lda sp f) s = .next t ∧ t.dev = s.dev ∧ (t.spire sp.val).pc = (x.pc + 16) % 2 ^ 64
           ∧ (t.spire sp.val).cache.find? (a / 64) = none
           ∧ (∃ l ∈ (t.spire sp.val).loads, l.id = s.nextId ∧ l.use = .acquire ∧ l.addr = a ∧ l.rd = f.rd ∧ l.size = 2 ^ f.sz.toNat)
           ∧ (∃ r ∈ t.net.reqs, r.id = s.nextId ∧ r.target = .dev p ∧ r.kind = .read (2 ^ f.sz.toNat))))

/-- Device stores and flags are posted; CINV and LDA of device memory acquire. -/
def Obligations.DeviceAccess : Prop := Claims.DeviceStoresArePosted ∧ Claims.AcquireInstructions

/-- R104, R125: BR and JAL move PC to an aligned target, JAL leaving PC + 16 in rd; NOP only moves on; a target that is not a multiple of 16, BRK, and
an EXT that issues raise their faults, with nothing else done. -/
def Sys2Proof.Claims.ControlFlow : Prop :=
  ∀ (s : State) (sp : Sp) (f : FmtS), Ready (s.spire sp.val) 16 f.gp f.gn →
    let x := s.spire sp.val
    let faults (i : Instr) (cause addr detail : Nat) : Prop :=
      exec i s = .next ((s.setSpire sp.val (x.issueFault cause addr detail)).stepped sp.val)
    let jumps (i : Instr) (y : Spire) (tgt : W64) : Prop :=
      (tgt.toNat % 16 = 0 → ∃ t, exec i s = .next t
          ∧ (∃ v, t.spire sp.val = { y with pc := tgt.toNat, seq := x.seq + 1, pcval := v, step := false })
          ∧ (∀ j, j ≠ sp.val → t.spire j = s.spire j) ∧ t.dev = s.dev ∧ t.net = s.net)
      ∧ (tgt.toNat % 16 ≠ 0 → faults i Cause.pcAlign tgt.toNat 0)
    (illegalS { imm := BitVec.allOnes 64 } f = false → jumps (.br sp f) x (BitVec.ofNat 64 x.pc + f.imm))
    ∧ (illegalS { rd := true, rs1 := true, imm := BitVec.allOnes 64 } f = false → x.busy f.rd = false → x.busy f.rs1 = false →
        x.vexprHolds f.rd = false → jumps (.jal sp f) (x.setS f.rd (BitVec.ofNat 64 (x.pc + 16))) (x.getS f.rs1 + f.imm))
    ∧ (illegalS {} f = false → ∃ t, exec (.nop sp f) s = .next t ∧ Retires s t sp.val x 16)
    ∧ (illegalS { imm := 0xFFFF } f = false → faults (.brk sp f) Cause.brk 0 (f.imm.toNat % 65536))
    ∧ (faults (.ext sp) Cause.illegal 0 0)

/-- R125, R25: EOK stops issue. While a queue holds an instruction the kernel has not ended: the spire is `ending`, and everything else of it stands. -/
def Sys2Proof.Claims.EndOfKernel : Prop :=
  ∀ (s : State) (sp : Sp) (f : FmtS), Ready (s.spire sp.val) 16 f.gp f.gn → illegalS {} f = false →
    let x := s.spire sp.val
    (x.mq ≠ [] ∨ x.vq ≠ [] ∨ x.tq ≠ [] →
      ∃ t, exec (.eok sp f) s = .next t
        ∧ (∃ v, t.spire sp.val = { x with run := .ending, seq := x.seq + 1, pcval := v, step := false })
        ∧ (∀ j, j ≠ sp.val → t.spire j = s.spire j) ∧ t.dev = s.dev ∧ t.net = s.net)
    ∧ (x.mq = [] → x.vq = [] → x.tq = [] → x.kernel.isSome = true → s.dispatches = [] → (s.vd x.vdid).saves = [] →
      ∃ t, exec (.eok sp f) s = .next t ∧ (t.spire sp.val).kernel = none ∧ (t.spire sp.val).run = .free
        ∧ (t.spire sp.val).cache.cells = [])

/-- BR, JAL, NOP, BRK, EXT and EOK. -/
def Obligations.ControlFlow : Prop := Claims.ControlFlow ∧ Claims.EndOfKernel

/-- R105, R106: CSRR, TDR and AGET read a register of the spire into rd; CSRW, TDW and APUT write one. -/
def Obligations.SpecialRegisters : Prop :=
  ∀ (s : State) (sp : Sp) (f : FmtS), Ready (s.spire sp.val) 16 f.gp f.gn →
    let x := s.spire sp.val
    x.busy f.rs1 = false → x.busy f.rs2 = false → x.busy f.rd = false → x.vexprHolds f.rd = false →
    (illegalS { rd := true, imm := 0xFFF } f = false → f.imm.toNat ≤ 0xC →
      ∃ t, exec (.csrr sp f) s = .next t ∧ Retires s t sp.val (x.setS f.rd (x.csr sp.val f.imm.toNat)) 16)
    ∧ (illegalS { rs1 := true, imm := 0xFFF } f = false → f.imm.toNat ≤ 0xC → f.imm ≠ 4 → f.imm ≠ 5 → x.vexprQueued = false →
      ∃ t, exec (.csrw sp f) s = .next t ∧ Retires s t sp.val (x.setCsr f.imm.toNat (x.getS f.rs1)) 16)
    ∧ (illegalS { rd := true, aux := 0x3F } f = false → f.aux.toNat < 48 →
      ∃ t, exec (.tdr sp f) s = .next t
        ∧ Retires s t sp.val
            (x.setS f.rd ([(x.td (f.aux.toNat % 16)).d0, (x.td (f.aux.toNat % 16)).d1, (x.td (f.aux.toNat % 16)).d2].getD (f.aux.toNat / 16) 0)) 16)
    ∧ (illegalS { rs1 := true, aux := 0x3F } f = false → f.aux.toNat < 48 → (∀ e ∈ x.tiles, e.op.names (f.aux.toNat % 16) = false) →
      ∃ t, exec (.tdw sp f) s = .next t ∧ (t.spire sp.val).regs = x.regs ∧ (t.spire sp.val).pc = (x.pc + 16) % 2 ^ 64
        ∧ (∀ n, n ≠ f.aux.toNat % 16 → (t.spire sp.val).td n = x.td n)
        ∧ (let d := (t.spire sp.val).td (f.aux.toNat % 16)
           let o := x.td (f.aux.toNat % 16)
           d.d0 = (if f.aux.toNat / 16 = 0 then x.getS f.rs1 else o.d0) ∧ d.d1 = (if f.aux.toNat / 16 = 1 then x.getS f.rs1 else o.d1)
             ∧ d.d2 = (if f.aux.toNat / 16 = 2 then x.getS f.rs1 else o.d2) &&& 0x7FFF))
    ∧ (illegalS { rd := true, rs1 := true, aux := 3 } f = false → (x.getS f.rs1).toNat < 1024 → (∀ e ∈ x.tiles, e.op.writesAcc (f.aux.toNat % 2) = false) →
      (x.acc (f.aux.toNat % 2)).poison.find? (x.getS f.rs1).toNat = none →
      ∃ t, exec (.aget sp f) s = .next t
        ∧ Retires s t sp.val
            (x.setS f.rd ((if (x.acc (f.aux.toNat % 2)).cls = .fp32 then (x.acc (f.aux.toNat % 2)).entries.get 0 (x.getS f.rs1).toNat &&& 0xFFFFFFFF#128
                else (x.acc (f.aux.toNat % 2)).entries.get 0 (x.getS f.rs1).toNat).extractLsb' (if f.aux.toNat / 2 = 1 then 64 else 0) 64)) 16)
    ∧ (illegalS { rs1 := true, rs2 := true, aux := 3 } f = false → (x.getS f.rs1).toNat < 1024 →
      (∀ e ∈ x.tiles, e.op.writesAcc (f.aux.toNat % 2) = false ∧ e.op.readsAcc (f.aux.toNat % 2) = false) →
      ∃ t, exec (.aput sp f) s = .next t ∧ (t.spire sp.val).regs = x.regs
        ∧ (let o := x.acc (f.aux.toNat % 2)
           let n := (t.spire sp.val).acc (f.aux.toNat % 2)
           let i := (x.getS f.rs1).toNat
           n.cls = o.cls ∧ n.frame = o.frame
             ∧ (n.entries.get 0 i).extractLsb' (if f.aux.toNat / 2 = 1 then 64 else 0) 64 = x.getS f.rs2
             ∧ (n.entries.get 0 i).extractLsb' (if f.aux.toNat / 2 = 1 then 0 else 64) 64 = (o.entries.get 0 i).extractLsb' (if f.aux.toNat / 2 = 1 then 0 else 64) 64
             ∧ (∀ j, j ≠ i → n.entries.get 0 j = o.entries.get 0 j)))

/-- R116: TWAIT retires once every queue it names holds at most k instructions and, with AUX[3], no store is unacknowledged; until then it leaves the
state as it is. -/
def Sys2Proof.Claims.TwaitHoldsIssue : Prop :=
  ∀ (s : State) (sp : Sp) (f : FmtS), Ready (s.spire sp.val) 16 f.gp f.gn → illegalS { aux := 0xF, imm := 0x1F } f = false → f.imm.toNat ≤ 16 →
    let x := s.spire sp.val
    let met : Prop := (f.aux.getLsbD 0 = true → x.mq.length ≤ f.imm.toNat) ∧ (f.aux.getLsbD 1 = true → x.vq.length ≤ f.imm.toNat)
      ∧ (f.aux.getLsbD 2 = true → x.tq.length ≤ f.imm.toNat) ∧ (f.aux.getLsbD 3 = true → x.stores = [])
    (met → ∃ t, exec (.twait sp f) s = .next t ∧ Retires s t sp.val x 16) ∧ (¬ met → exec (.twait sp f) s = .next s)

/-- R118, R121, R122: WAITF of a scratchpad word ends at once when its condition holds, p[PD] true and rd the word, its acquire range gone, and
otherwise waits; FWAIT of a valid handle waits, with the release it already has; BAR waits with its arrival on its way. -/
def Sys2Proof.Claims.WaitInstructions : Prop :=
  ∀ (s : State) (sp : Sp) (f : FmtS), Ready (s.spire sp.val) 16 f.gp f.gn →
    let x := s.spire sp.val
    x.busy f.rd = false → x.busy f.rs1 = false → x.busy f.rs2 = false → x.busy f.rs3 = false → x.vexprHolds f.rd = false →
    (∀ cc, (f.aux.toNat / 2) % 8 = cc → cc ≤ 5 → f.aux.getLsbD 0 = false →
      illegalS { rd := true, rs1 := true, rs2 := true, rs3 := f.aux.getLsbD 4, pd := true, aux := 0x1F,
                 imm := if f.aux.getLsbD 4 then BitVec.allOnes 64 else 0xFFFFFFFF } f = false →
      (x.getS f.rs1).toNat % 8 = 0 → (x.getS f.rs1).toNat + 8 ≤ 0x400000 → anyPoison x.poison (x.getS f.rs1).toNat 8 = false →
      (∀ e ∈ x.vq ++ x.tq, e.started = false) →
      let a := BitVec.ofNat 64 (natLE (x.spad.readN (x.getS f.rs1).toNat 8))
      let b := x.getS f.rs2
      let met : Bool := [decide (a = b), decide (a ≠ b), decide (a.toInt < b.toInt), decide (b.toInt ≤ a.toInt), decide (a.toNat < b.toNat),
        decide (b.toNat ≤ a.toNat)].getD cc false
      let y := if f.aux.getLsbD 4 then x.acquire (x.getS f.rs3).toNat (f.imm.toNat / 2 ^ 32) else x
      (met = true → ∃ t, exec (.waitf sp f) s = .next t ∧ Retires s t sp.val ((y.setS f.rd a).setP f.pd true) 16)
      ∧ (met = false → ∃ t, exec (.waitf sp f) s = .next t ∧ (t.spire sp.val).pc = x.pc ∧ (t.spire sp.val).wait ≠ .none
          ∧ (t.spire sp.val).regs = x.regs ∧ t.dev = s.dev))
    ∧ (∀ slot o, illegalS { rd := true, rs1 := true, rs2 := true, pd := true, imm := 0xFFFFFFFF } f = false →
        s.named tyFence ((x.getS f.rs1).extractLsb' 0 32) (fun c => c = x.ctx) = some slot → s.fence slot = some o →
        ∃ t early rel, exec (.fwait sp f) s = .next t
          ∧ (t.spire sp.val).wait = .fwait f slot o.head.gen (x.getS f.rs2) early rel
          ∧ (rel = none ↔ o.status = 0 ∧ o.value.toNat < (x.getS f.rs2).toNat)
          ∧ (o.status ≠ 0 → rel = some (o.status.zeroExtend 64)) ∧ (o.status = 0 → rel ≠ none → rel = some 0)
          ∧ (t.spire sp.val).cache.cells = [] ∧ (t.spire sp.val).pc = x.pc)
    ∧ (∀ e, illegalS { aux := 2, imm := 0xFF } f = false → s.barrierEntry x.vdid f.imm.toNat = some e → f.aux = 0 →
        ∃ t, exec (.bar sp f) s = .next t ∧ (t.spire sp.val).wait = .bar f.imm.toNat [] [] true none ∧ t.net.arrivals = s.net.arrivals ++ [sp.val]
          ∧ (t.spire sp.val).pc = x.pc ∧ t.dev = s.dev)

/-- TWAIT, WAITF, FWAIT and BAR. -/
def Obligations.WaitInstructions : Prop := Claims.TwaitHoldsIssue ∧ Claims.WaitInstructions

/-- R124, R445, R399: PHASE records its level, with a LEAD of at least 20 µs, or withdraws the spire's hint at level 0; EPOCH moves the kernel's epoch
to s1 when s1 is after it and never back. -/
def Obligations.HintInstructions : Prop :=
  ∀ (s : State) (sp : Sp) (f : FmtS), Ready (s.spire sp.val) 16 f.gp f.gn →
    let x := s.spire sp.val
    (illegalS { imm := 0xFFFF000F } f = false → s.fld .fwproc 1 1 0 < 2 →
      ∃ t, exec (.phase sp f) s = .next t ∧ (t.spire sp.val).pc = (x.pc + 16) % 2 ^ 64
        ∧ t.hints.find? sp.val = (if f.imm.toNat % 16 = 0 then none else some (f.imm.toNat % 16, max 20 (f.imm.toNat / 65536 % 65536)))
        ∧ (∀ j, j ≠ sp.val → t.hints.find? j = s.hints.find? j) ∧ t.dev = s.dev)
    ∧ (illegalS { rs1 := true } f = false → x.busy f.rs1 = false → ∀ k, x.kernel = some k →
      ∃ t, exec (.epoch sp f) s = .next t
        ∧ (t.spire sp.val).kernel = some { k with epoch :=
            if 1 ≤ (x.getS f.rs1 - k.epoch).toNat ∧ (x.getS f.rs1 - k.epoch).toNat < 2 ^ 63 then x.getS f.rs1 else k.epoch }
        ∧ (t.spire sp.val).pc = (x.pc + 16) % 2 ^ 64 ∧ (t.spire sp.val).regs = x.regs)

/-- R32, R33, R99: a tile instruction whose checks pass enters its queue with the descriptors and values it captured, and issue moves on; a full queue
holds it. -/
def Obligations.TileInstructionsEnterQueues : Prop :=
  ∀ (s : State) (sp : Sp),
    let x := s.spire sp.val
    let enters (i : Instr) (q : TileQ) (op : TileOp) (descs : List TDesc) (vals : List W64) (size : Nat) : Prop :=
      ((x.queue q).length < 16 → ∃ t, exec i s = .next t
        ∧ Retires s t sp.val (x.setQueue q (x.queue q ++ [x.entry op descs vals])) size)
      ∧ (16 ≤ (x.queue q).length → exec i s = .next s)
    (∀ f : FmtM, Ready x 16 f.gp f.gn → illegalM f = false → x.busy f.ks = false → firstFault (mmaChecks x f) = none →
      enters (.mma sp f) .mq (.mma f) ([x.td f.ta.toNat, x.td f.tb.toNat] ++ if f.init = 2 then [x.td f.tp.toNat] else [])
        [BitVec.ofNat 64 (if f.ks = 0 then f.ki.toNat else (x.getS f.ks).toNat % 65536)] 16)
    ∧ (∀ f : FmtV, Ready x 32 f.gp f.gn → illegalV f = false → (∀ r ∈ [f.sc0, f.sc1, f.sc2, f.sc3, f.str], x.busy r = false) →
        firstFault (vexprChecks x f) = none →
        enters (.vexpr sp f) .vq (.vexpr f)
          ([x.td f.td.toNat] ++ ([f.in0, f.in1, f.in2].filter (fun c => decide (c.toNat < 16))).map (fun c => x.td c.toNat)
            ++ if f.red = 0 then [] else [x.td f.tr.toNat]) [] 32)
    ∧ (∀ f : FmtX, Ready x 16 f.gp f.gn → guardReserved f.gp f.gn = false → f.rsv = 0 → f.ti = 0 → f.rb = 0 → f.sc = 0 →
        firstFault (tmoveChecks x f) = none → enters (.tmove sp f) .tq (.tmove f) [x.td f.ts.toNat, x.td f.td.toNat] [] 16)
    ∧ (∀ f : FmtX, Ready x 16 f.gp f.gn → guardReserved f.gp f.gn = false → f.rsv = 0 → f.ts = 0 → f.pan = 0 → f.fin = 0 → f.red = 0 →
        f.frame = 0 → f.grp = 0 → x.busy f.rb = false → firstFault (vgatherChecks x f) = none →
        enters (.vgather sp f) .tq (.vgather f) [x.td f.td.toNat, x.td f.ti.toNat] [x.getS f.rb] 16)
    ∧ (∀ f : FmtS, Ready x 16 f.gp f.gn → illegalS { rs1 := true, rs2 := true, imm := 0xF } f = false → x.busy f.rs1 = false → x.busy f.rs2 = false →
        (x.getS f.rs2).toNat % 64 = 0 → (x.getS f.rs2).toNat + 64 * (f.imm.toNat % 16 + 1) ≤ 0x400000 →
        enters (.bcmd sp f) .tq (.bcmd f) [] [x.getS f.rs1, x.getS f.rs2] 16)
    ∧ (∀ f : FmtS, Ready x 16 f.gp f.gn → illegalS { rs1 := true, rs2 := true } f = false → x.busy f.rs1 = false → x.busy f.rs2 = false →
        enters (.fsignal sp f) .tq (.fsignal f) [] [x.getS f.rs1, x.getS f.rs2] 16)

/-- R35, R43, R99, R107: the instruction that a queue starts next is the first not started that no earlier one holds back. As an MMA starts, its accumulator
takes the class and frame of its operands; as a VEXPR starts, it reads its scalar operands, STREAM, SEED and RIDENT; a local TMOVE takes the scratchpad
as it stands. -/
def Sys2Proof.Claims.TileStart : Prop :=
  ∀ (s : State) (sp : Sp) (q : TileQ) (e : QEntry),
    let x := s.spire sp.val
    let begun (late : List W64) (y : QEntry) : QEntry :=
      if y.seq = e.seq then { y with started := true, snap := x.spad, snapPoison := x.poison, late := late } else y
    (x.run = .running ∨ x.run = .ending) → x.waking = false → x.nextStart q = some e →
    e.started = false ∧ e ∈ x.queue q
    ∧ (∀ f, e.op = .mma f →
        ∃ t, exec (.tileStart sp q) s = .next t ∧ t = s.setSpire sp.val (t.spire sp.val)
          ∧ (t.spire sp.val).queue q = (x.queue q).map (fun y => if y.seq = e.seq then { y with started := true, snap := x.spad, snapPoison := x.poison } else y)
          ∧ (t.spire sp.val).acc f.acc.toNat = { x.acc f.acc.toNat with
              cls := classOf (e.descs.getD 0 default).fmt,
              frame := if (e.descs.getD 0 default).mx || (e.descs.getD 1 default).mx then f.frame.toInt
                else if classOf (e.descs.getD 0 default).fmt = .wide then 56 else 0 })
    ∧ (∀ f, e.op = .vexpr f →
        exec (.tileStart sp q) s = .next (s.setSpire sp.val (x.setQueue q ((x.queue q).map
          (begun [x.getS f.sc0, x.getS f.sc1, x.getS f.sc2, x.getS f.sc3, x.getS f.str, x.seed, BitVec.ofNat 64 x.rident])))))

/-- R34, R108: an MMA at the head of MQ that has started completes with the sums of its operands, as the scratchpad stood at its start, in its
accumulator, its flags added to ASTATUS. Here nothing met its reads since (R36), nothing is poisoned, and the spire runs on. -/
def Sys2Proof.Claims.MmaCompletes : Prop :=
  ∀ (s : State) (sp : Sp) (f : FmtM) (e : QEntry) (rest : List QEntry) (host : List HostAns) (da db : TDesc),
    let x := s.spire sp.val
    let wide : Bool := decide (classOf da.fmt = .wide)
    let acc := x.acc f.acc.toNat
    let k := (e.vals.getD 0 0).toNat
    x.mq = e :: rest → (∀ y ∈ rest, y.seq ≠ e.seq) → e.op = .mma f → e.started = true → e.waiting = [] → e.met = [] → e.done = none → x.run = .running →
    (∀ y ∈ x.vq ++ x.tq, y.started = false) → e.snapPoison.cells = [] → acc.poison.cells = [] → e.descs = [da, db] → da.mx = false → db.mx = false → f.init.toNat < 2 →
    ∃ t, exec (.tileComplete sp .mq 0 host) s = .next t
      ∧ (t.spire sp.val).mq = rest
      ∧ (let r := mmaResult wide (if wide then 56 else 0) da db none none k e.snap.read (fun i => (if f.init = 0 then (acc.entries.get 0 i).toNat else 0, 0))
         (t.spire sp.val).acc f.acc.toNat
           = { cls := acc.cls, frame := acc.frame, entries := ⟨(r.1.filter (fun c => decide (c.2 ≠ 0))).reverse⟩, poison := .empty }
         ∧ (t.spire sp.val).astatus = x.astatus ||| r.2)
      ∧ (t.spire sp.val).spad = x.spad ∧ (t.spire sp.val).regs = x.regs ∧ t.dev = s.dev

/-- What a tile instruction takes as it starts, and what an MMA gives as it completes. -/
def Obligations.TileWork : Prop := Claims.TileStart ∧ Claims.MmaCompletes

/-- R27, R103: the answer of an LD that missed writes rd, extended as X says, and the read is no longer in flight; of a read that failed, the spire takes
BUS, or POISON, as a completion fault of that instruction (R126). -/
def Sys2Proof.Claims.LoadDataReturns : Prop :=
  ∀ (s : State) (n id : Nat) (r : Resp) (l : Load),
    let x := s.spire n
    s.net.resps.find? (fun y => y.id = id) = some r → r.agent = .spire n → x.loads.find? (fun y => y.id = id) = some l → l.use = .load →
    ∃ t, exec (.loadDataReturn id) s = .next t
      ∧ t.net.resps = s.net.resps.filter (fun y => y.id ≠ id)
      ∧ (∀ y ∈ (t.spire n).loads, y.id ≠ id)
      ∧ (r.status = .ok → (t.spire n).getS l.rd =
          (if l.rd = 0 then 0
           else if l.signed then BitVec.ofInt 64 (toSigned (8 * l.size) (natLE ((r.bytes.drop (l.addr % 64)).take l.size) % 2 ^ (8 * l.size)))
           else BitVec.ofNat 64 (natLE ((r.bytes.drop (l.addr % 64)).take l.size) % 2 ^ (8 * l.size)))
          ∧ (∀ q, q ≠ l.rd → (t.spire n).getS q = x.getS q) ∧ (t.spire n).fault = x.fault)
      ∧ (r.status ≠ .ok → x.fault = none → x.run ≠ .halted → (t.spire n).regs = x.regs
          ∧ (t.spire n).fault = some ⟨l.seq, if r.status = .poison then Cause.poison else Cause.bus, .completion, 0, 0, l.pc, l.addr, 0, 0⟩)

/-- R118, R121: a poll reads the word of a WAITF again; a timeout that is set ends a WAITF at its next look and an FWAIT at once, p[PD] false; a release
that has arrived ends an FWAIT, p[PD] true for the value reached and false with the error status in rd. -/
def Sys2Proof.Claims.WaitsEnd : Prop :=
  ∀ (s : State) (sp : Sp) (f : FmtS),
    let x := s.spire sp.val
    (∀ seq addr v lo len expired p, x.wait = .waitf f seq addr true v lo len false expired → s.rangeCheck x.vdid addr false = .at p →
      ∃ t, exec (.waitfPoll sp) s = .next t ∧ (t.spire sp.val).wait = .waitf f x.seq addr true v lo len true expired
        ∧ (∃ l ∈ (t.spire sp.val).loads, l.id = s.nextId ∧ l.use = .poll ∧ l.addr = addr)
        ∧ (∃ r ∈ t.net.reqs, r.id = s.nextId ∧ r.target = .dev p ∧ r.kind = .read 8) ∧ (t.spire sp.val).regs = x.regs)
    ∧ (∀ seq addr v lo len polling expired, x.wait = .waitf f seq addr true v lo len polling expired →
      (f.imm.toNat % 2 ^ 32 ≠ 0 →
        exec (.waitfTimeout sp) s = .next (s.setSpire sp.val { x with wait := .waitf f seq addr true v lo len polling true }))
      ∧ (f.imm.toNat % 2 ^ 32 = 0 → exec (.waitfTimeout sp) s = .next s))
    ∧ (∀ seq off v lo len polling expired, x.wait = .waitf f seq off false v lo len polling expired → f.imm.toNat % 2 ^ 32 ≠ 0 →
      anyPoison x.poison off 8 = false → (∀ e ∈ x.vq ++ x.tq, e.started = false) → f.aux.toNat / 2 % 8 = 0 → f.aux.getLsbD 4 = false →
      ∃ t w, exec (.waitfTimeout sp) s = .next t
        ∧ t.spire sp.val = { (x.setS f.rd (BitVec.ofNat 64 (natLE (x.spad.readN off 8)))).setP f.pd
              (decide (BitVec.ofNat 64 (natLE (x.spad.readN off 8)) = v)) with
            wait := .none, pc := (x.pc + 16) % 2 ^ 64, seq := x.seq + 1, pcval := w })
    ∧ (∀ slot g v early st, x.wait = .fwait f slot g v early (some st) →
      ∃ t w, exec (.fwaitComplete sp) s = .next t
        ∧ t.spire sp.val = { (x.setS f.rd st).setP f.pd (decide (st = 0)) with
            wait := .none, pc := (x.pc + 16) % 2 ^ 64, seq := x.seq + 1, pcval := w })
    ∧ (∀ slot g v rel, x.wait = .fwait f slot g v false rel → f.imm.toNat % 2 ^ 32 ≠ 0 →
      ∃ t w, exec (.fwaitTimeout sp) s = .next t
        ∧ t.spire sp.val = { (x.setS f.rd (BitVec.allOnes 64)).setP f.pd false with
            wait := .none, pc := (x.pc + 16) % 2 ^ 64, seq := x.seq + 1, pcval := w })

/-- A load’s data arrives; WAITF and FWAIT end. -/
def Obligations.LoadsAndWaitsEnd : Prop := Claims.LoadDataReturns ∧ Claims.WaitsEnd

/-- R129, R448: a spire that stopped on a fault halts once everything started has completed, and its DISPATCH learns of it; until then it goes on draining.
A spire with no kernel moors while PWMOOR.EN is set. -/
def Sys2Proof.Claims.SpireHaltsAndMoors : Prop :=
  ∀ (s : State) (sp : Sp),
    let x := s.spire sp.val
    (∀ k f, x.run = .draining → x.kernel = some k → x.fault = some f →
      (x.drained = true → ∃ t, exec (.spireHalt sp) s = .next t ∧ (t.spire sp.val).run = .halted ∧ (t.spire sp.val).fault = some f
        ∧ (t.spire sp.val).spad = x.spad ∧ (t.spire sp.val).stores = [] ∧ t.dev = s.dev)
      ∧ (x.drained = false → exec (.spireHalt sp) s = .next s))
    ∧ (x.run = .free → x.waking = false →
      (s.bit .pwmoor 0 32 = true → exec (.spireMoor sp) s = .next (s.setSpire sp.val { x with moored := true }))
      ∧ (s.bit .pwmoor 0 32 = false → exec (.spireMoor sp) s = .next s))
    ∧ (x.moored = true ∨ x.waking = true → exec (.unitWake (.spire sp)) s = .next (s.setSpire sp.val { x with moored := false, waking := false }))

/-- R56, R57: a pre-empted spire whose work has drained is saved in the virtual device's lowest free slot, with the instance's generation and no faulted
flag, and stands zeroed and free in the same virtual device. The memory ports of the save area are open (R188). No hint, privileged context or reclaim is in play here, and nothing waits to be started. -/
def Sys2Proof.Claims.SpireIsSaved : Prop :=
  ∀ (s : State) (sp : Sp) (k : Kernel) (slot : Nat),
    let x := s.spire sp.val
    let d := s.vd x.vdid
    x.run = .preempted → x.kernel = some k → d.freeSlot = some slot → x.drained = true → x.stores = [] → x.loads = [] → x.fault = none →
    s.leavingSpire sp.val = false → x.retired = false → d.frozen = true →
    s.mayTouchAll true (s.placesOf x.vdid ((s.reg .vdsave x.vdid).get 51 0 + slotBytes * slot) recordBytes) = true →
    ∃ t, exec (.spireSave sp) s = .next t
      ∧ t.spire sp.val = x.zeroed sp.val
      ∧ (t.vd x.vdid).saves = d.saves ++ [{ slot := slot, order := d.nextSave, faulted := false, kernel := k, gen := d.gen, queued := x.queuedSides }]
      ∧ (∀ j, j ≠ sp.val → t.spire j = s.spire j)

/-- A faulted spire halts, an idle one moors, a pre-empted one is saved. -/
def Obligations.SpiresStop : Prop := Claims.SpireHaltsAndMoors ∧ Claims.SpireIsSaved

/-- R230, R535: the acknowledgement of a scalar store reaches its spire: the store is no longer outstanding, and a failed one is a BUS completion fault of
that store. -/
def Sys2Proof.Claims.WriteAcknowledged : Prop :=
  ∀ (s : State) (n id : Nat) (a : Ack) (y : Store),
    let x := s.spire n
    s.net.acks.find? (fun b => b.id = id) = some a → s.net.combined.any (fun c => decide (c.1 = id)) = false → a.agent = .spire n →
    x.stores.find? (fun b => b.id = id) = some y → (∀ r ∈ s.net.reqs, r.id ≠ id) →
    ∃ t, exec (.writeAckArrival id) s = .next t
      ∧ (∀ b ∈ t.net.acks, b.id ≠ id)
      ∧ (∀ b ∈ (t.spire n).stores, b.id ≠ id)
      ∧ (a.status = .ok → (t.spire n).fault = x.fault)
      ∧ (a.status ≠ .ok → x.fault = none → x.run ≠ .halted → (t.spire n).fault = 
          some ⟨y.seq, if a.status = .poison then Cause.poison else Cause.bus, .completion, 0, 0, y.pc, y.addr, 0, 0⟩)
      ∧ (t.spire n).spad = x.spad ∧ t.dev = s.dev

/-- R346, R534: a signal that waits for nothing reaches the bank and is applied to the fence its slot and generation name: a normal value above the
fence's becomes its value, a lower one is refused with FENCE_ORDER, an error value gives the fence its status, and a fence with a status keeps it. The
answer starts back. -/
def Sys2Proof.Claims.FenceSignalApplied : Prop :=
  ∀ (s : State) (id : Nat) (g : Signal) (o : FenceObj),
    s.net.signals.find? (fun y => y.id = id) = some g → g.deps = [] → s.fence g.slot = some o → o.head.gen = g.gen → o.head.freed = false → g.holds = false →
    let normal : Prop := g.value.toNat < 0xFFFFFFFF00000000
    let error : Prop := ¬ normal ∧ g.value.toNat % 256 ≠ 0
    ∃ t a, exec (.fenceSignalApply id) s = .next t ∧ a ∈ t.net.sigAcks ∧ a.id = id ∧ a.agent = g.agent
      ∧ (o.status ≠ 0 → a.result = 0 ∧ t.objs.fences.live.find? g.slot = some o)
      ∧ (o.status = 0 → normal → g.value.toNat < o.value.toNat → a.result = 2 ∧ t.objs.fences.live.find? g.slot = some o)
      ∧ (o.status = 0 → normal → o.value.toNat ≤ g.value.toNat → a.result = 0
          ∧ ((t.objs.fences.live.find? g.slot).map (·.value)) = some g.value ∧ ((t.objs.fences.live.find? g.slot).map (·.status)) = some 0)
      ∧ (o.status = 0 → error → a.result = 0
          ∧ ((t.objs.fences.live.find? g.slot).map (·.status)) = some (g.value.extractLsb' 0 32) ∧ ((t.objs.fences.live.find? g.slot).map (·.value)) = some o.value)
      ∧ (o.status = 0 → ¬ normal → ¬ error → a.result = 2 ∧ t.objs.fences.live.find? g.slot = some o)

/-- R120, R534: the bank's answer completes an FSIGNAL: applied, it leaves TQ; its fence freed, HANDLE, and a value refused, FENCE_ORDER with the fence's
status as the detail, are completion faults of it. -/
def Sys2Proof.Claims.FenceAnswerReachesSignaller : Prop :=
  ∀ (s : State) (n id : Nat) (a : SigAck) (e : QEntry),
    let x := s.spire n
    s.net.sigAcks.find? (fun y => y.id = id) = some a → a.agent = .spire n → x.tq.find? (fun y => y.waiting.contains id) = some e → x.run = .running →
    ∃ t, exec (.fenceAck id) s = .next t ∧ t.net.sigAcks = s.net.sigAcks.filter (fun y => y.id ≠ id)
      ∧ (∀ y ∈ (t.spire n).tq, y.seq ≠ e.seq)
      ∧ (a.result = 0 → (t.spire n).fault = x.fault)
      ∧ (a.result ≠ 0 → x.fault = none → (t.spire n).fault = 
          some ⟨e.seq, if a.result = 1 then Cause.handle else Cause.fenceOrder, .completion, 3, 0, e.pc, 0, 0, if a.result = 1 then 0 else a.status.toNat⟩)

/-- Acknowledged stores, fence signals and their answers. -/
def Obligations.AcksAndFences : Prop := Claims.WriteAcknowledged ∧ Claims.FenceSignalApplied ∧ Claims.FenceAnswerReachesSignaller

/-- R132, R175, R217: a read that reaches an open port, with none held before it and no merge entry to join, is answered with the bytes as they stand,
POISON if a granule of them is poisoned (the key slot of what it reads, if it has one, holds a key, R178); the answer stands in a merge entry of its own, which MERGE_ENTRY_CLOSE sends to everyone who joined it. Memory
is unchanged. -/
def Sys2Proof.Claims.MemoryRead : Prop :=
  (∀ (s : State) (id n u : Nat) (r : Req),
    s.net.reqs.find? (fun y => y.id = id) = some r → r.port = some u → r.stage = .net → s.closed u = false →
    (∀ y ∈ s.net.reqs, y.port = some u → y.before r = false) → r.kind = .read n → (∀ m ∈ s.net.merges, m.port ≠ u) →
    (∀ a, r.target = .dev a → s.keyLost a = false) →
    ∃ t bytes bad, exec (.memoryRead id .clean) s = .next t
      ∧ (match r.target with
         | .dev a => bytes = s.dev.readN a n ∧ bad = anyPoison s.devPoison a n
         | .spad k o => bytes = (s.spire k).spad.readN o n ∧ bad = anyPoison (s.spire k).poison o n
         | .host _ _ => False)
      ∧ (∃ m ∈ t.net.merges, m.port = u ∧ m.ids = [(id, r.agent)] ∧ m.bytes = bytes ∧ m.status = (if bad then .poison else .ok))
      ∧ (∀ y ∈ t.net.reqs, y.id ≠ id) ∧ t.dev = s.dev ∧ t.devPoison = s.devPoison ∧ t.spires = s.spires)
  ∧ (∀ (s : State) (port k : Nat) (m : Merge), (s.net.merges.filter (fun y => y.port = port))[k]? = some m →
    ∃ t, exec (.mergeEntryClose port k) s = .next t ∧ m ∉ t.net.merges
      ∧ (∀ i ∈ m.ids, (⟨i.1, i.2, m.bytes, m.status⟩ : Resp) ∈ t.net.resps) ∧ (∀ r ∈ s.net.resps, r ∈ t.net.resps) ∧ t.dev = s.dev)

/-- R132, R176, R177, R223: a plain write that reaches an open port and meets no poison stores its bytes and no other byte of device memory, and its
acknowledgement starts back. Its chunk is not being copied, no evacuation mirrors it (R303), and it lies in a plaintext carve-out (R183) that is not
read-only (R193). -/
def Sys2Proof.Claims.MemoryWrite : Prop :=
  ∀ (s : State) (id a u : Nat) (r : Req) (d : List Byte),
    s.net.reqs.find? (fun y => y.id = id) = some r → r.target = .dev a → r.kind = .write d → u = portOf a → r.stage = .net → s.closed u = false →
    (∀ y ∈ s.net.reqs, y.port = some u → y.before r = false) → s.evacs.cells = [] → s.keyOf a = 0 → s.readOnlyAt a = false →
    anyPoison s.devPoison a d.length = false →
    ∃ t, exec (.memoryWrite id .clean) s = .next t
      ∧ (∀ i, i < d.length → t.dev.read (a + i) = d.getD i 0)
      ∧ (∀ b, b < a ∨ a + d.length ≤ b → t.dev.read b = s.dev.read b)
      ∧ (∃ k ∈ t.net.acks, k = ⟨id, r.agent, .ok⟩) ∧ (∀ y ∈ t.net.reqs, y.id ≠ id)
      ∧ t.devPoison = s.devPoison ∧ t.spires = s.spires

/-- A read is answered and merged, a write stores its bytes and no others. -/
def Obligations.MemoryPorts : Prop := Claims.MemoryRead ∧ Claims.MemoryWrite

/-- R172, R182, R190: the fill of a channel ends: every byte of it reads zero with no granule poisoned, but that an initialising fill leaves the counter
areas above CHTOP as they stand (log 206), no other byte of device memory changes, an initialised
channel joins its carve-out (STATE 1), and a released one that is not marked for retirement is as after a cold reset. -/
def Sys2Proof.Claims.FillEnds : Prop :=
  ∀ (s : State) (c : Chan) (init : Bool),
    s.fills.find? (fun f => decide (portOfUnit f.unit = c.val)) = some ⟨c.val, init⟩ → s.unitPending c.val = false →
    ∃ t, exec (.fillDone (.channel c)) s = .next t
      ∧ (∀ f ∈ t.fills, f.unit ≠ c.val)
      ∧ (∀ o, o < 0x90000000 → (init = true → o < s.fld .chtop c.val 31 0) → t.dev.read (c.val * 2 ^ 32 + o) = 0)
      ∧ (∀ o, o < 0x90000000 → init = true → s.fld .chtop c.val 31 0 ≤ o → t.dev.read (c.val * 2 ^ 32 + o) = s.dev.read (c.val * 2 ^ 32 + o))
      ∧ (∀ a, a < c.val * 2 ^ 32 ∨ c.val * 2 ^ 32 + 0x90000000 ≤ a → t.dev.read a = s.dev.read a)
      ∧ (∀ g, c.val * 2 ^ 26 ≤ g → g < c.val * 2 ^ 26 + 0x2400000 → t.devPoison.find? g = none)
      ∧ (init = true → t.fld .chcfg c.val 1 0 = 1)
      ∧ (init = false → t.reg .chcfg c.val = rstAt .chcfg c.val ∧ t.reg .chtop c.val = rstAt .chtop c.val)

/-- R186, R187: a sensor reading chooses the refresh rate of the ports that share the sensor, falling only 3 °C below a threshold; the rate comes into force
at the port's next refresh; a refresh of a row's neighbours changes nothing that is read. -/
def Sys2Proof.Claims.RefreshRates : Prop :=
  ∀ (s : State) (u : PortUnit) (temp : Int) (row : Nat),
    exec (.refreshManagement u row) s = .next s
    ∧ (∃ t, exec (.refresh u) s = .next t ∧ t.fld .chtemp u.val 9 8 = (s.port u.val).rate % 4 ∧ t.ports = s.ports
        ∧ t.fld .chtemp u.val 7 0 = s.fld .chtemp u.val 7 0)
    ∧ (∃ t, exec (.refreshRateChange u temp) s = .next t
        ∧ (∀ p, (if u.val < 256 then p / 32 = u.val / 32 ∧ p < 256 else p = u.val) →
            let old := (s.port p).rate
            let new := (t.port p).rate
            (95 < temp → new = 2) ∧ (92 < temp → temp ≤ 95 → new = if 2 ≤ old then 2 else 1)
              ∧ (85 < temp → temp ≤ 92 → new = 1) ∧ (82 < temp → temp ≤ 85 → new = if 1 ≤ old then 1 else 0) ∧ (temp ≤ 82 → new = 0)
              ∧ t.fld .chtemp p 7 0 = (temp % 256).toNat ∧ t.fld .chtemp p 10 10 = (if 105 < temp then 1 else 0)
              ∧ t.fld .chtemp p 9 8 = s.fld .chtemp p 9 8))

/-- R188, R189: a retraining window opens on a port that no test, fill or mooring holds, while no other port of its tier has one; it closes converged, with CHTRN
stepped and the failures in a row forgotten, or as one more failure; the fourth marks the port in CHTRS. -/
def Sys2Proof.Claims.Retraining : Prop :=
  ∀ (s : State) (u : PortUnit),
    let n := u.val
    ((∀ c ∈ s.ports.cells, c.2.window = true → (c.1 < 256 ↔ ¬ n < 256)) → s.inTest n = false → s.portFilling n = false → (s.port n).moored = false →
      (s.port n).waking = false → exec (.retrainingWindow u) s = .next (s.setPort n { s.port n with window := true }))
    ∧ ((s.port n).window = true →
      (∃ t, exec (.retrainingEnd u true) s = .next t ∧ (t.port n).window = false ∧ t.fld .chtrs n 2 0 = 0)
      ∧ (s.fld .chtrs n 2 0 < 3 → ∃ t, exec (.retrainingEnd u false) s = .next t ∧ (t.port n).window = false
          ∧ t.fld .chtrs n 2 0 = s.fld .chtrs n 2 0 + 1 ∧ t.dev = s.dev)
      ∧ (s.fld .chtrs n 2 0 = 3 → ∃ t, exec (.retrainingEnd u false) s = .next t ∧ (t.port n).window = false
          ∧ t.fld .chtrs n 3 3 = 1 ∧ t.fld .chtrs n 2 0 = 4))

/-- Fills, refresh rates and retraining of the memory ports. -/
def Obligations.FillsRefreshTraining : Prop := Claims.FillEnds ∧ Claims.RefreshRates ∧ Claims.Retraining

/-- R190, R192, R448: the scrubber of an open port moves on by one granule, and CHSCRP shows where it stands; a clean granule changes no byte. The hourly wake
wakes a moored port and keeps it awake until its pass ends; an idle port moors while PWMOOR.EN is set; a port that has woken is open. -/
def Sys2Proof.Claims.ScrubAndMooring : Prop :=
  ∀ (s : State) (u : PortUnit),
    let n := u.val
    let p := s.port n
    (s.portHeld n = false → s.portFilling n = false →
      ∃ t, exec (.dramScrub u .clean) s = .next t
        ∧ (t.port n).scrub = (if (if n < 256 then 0x90000000 else 2 ^ 36) ≤ p.scrub + 64 then 0 else p.scrub + 64)
        ∧ t.fld .chscrp n 31 6 = (t.port n).scrub / 64 % 2 ^ 26 ∧ t.dev = s.dev ∧ t.devPoison = s.devPoison)
    ∧ (p.moored = true → exec (.scrubWake u) s = .next (s.setPort n { p with moored := false, waking := true, catchUp := true }))
    ∧ (s.bit .pwmoor 0 32 = true → p.window = false → p.waking = false → p.catchUp = false → p.run = none → s.portFilling n = false →
        (∀ r ∈ s.net.reqs, ¬ r.port = some n) → exec (.channelMoor u) s = .next (s.setPort n { p with moored := true }))
    ∧ (exec (.unitWake (.port u)) s = .next (s.setPort n { p with moored := false, waking := false }))

/-- R195, R197: START on a generator that is idle, over a range out of service and well formed, begins a run with the fields of its registers; on a running one it
is refused with reason 3, on a range in service with 1, on a bad field with 2. STOP ends the run at a granule of its own choosing (log 65); a run that ends
is no longer running and is done. -/
def Sys2Proof.Claims.TrafficGenerator : Prop :=
  ∀ (s : State) (u : PortUnit),
    let n := u.val
    let base := s.fld .tgbase n 35 0
    let len := s.fld .tglen n 35 0
    let bad : Prop := 4 < (s.reg .tgctl n).get 4 2 ∨ base % 2048 ≠ 0 ∨ len = 0 ∨ len % 2048 ≠ 0 ∨ (if n < 256 then 0x90000000 else 2 ^ 36) < base + len
    (s.bit .tgstat n 0 = false → s.rangeInTest n base len = true → ¬ bad →
      ∃ t, exec (.tgStart u) s = .next t ∧ t.bit .tgstat n 0 = true ∧ t.fld .tgstat n 5 3 = s.fld .tgstat n 5 3 ∧ t.reg .tgfaddr n = 0 ∧ t.reg .tgfxor n = 0
        ∧ (t.port n).run = some ⟨base, len, s.reg .tgseed n, (s.reg .tgctl n).get 4 2, (s.reg .tgctl n).get 6 5,
            (s.reg .tgctl n).getLsbD 7, s.fld .tgiter n 31 0, none⟩ ∧ t.dev = s.dev)
    ∧ (∀ why, (s.bit .tgstat n 0 = true ∧ why = 3) ∨ (s.bit .tgstat n 0 = false ∧ s.rangeInTest n base len = false ∧ why = 1)
          ∨ (s.bit .tgstat n 0 = false ∧ s.rangeInTest n base len = true ∧ bad ∧ why = 2) →
        ∃ t, exec (.tgStart u) s = .next t ∧ t.fld .tgstat n 5 3 = why ∧ t.ports = s.ports)
    ∧ (∀ r, (s.port n).run = some r →
        (∃ t k, exec (.tgStop u) s = .next t ∧ (t.port n).run = some { r with stopAt := some k } ∧ t.regs = s.regs)
        ∧ (∀ err, ¬ (r.mode = 3 ∧ r.iter = 0 ∧ r.stopAt = none) →
            ∃ t, exec (.tgRunEnd u err) s = .next t ∧ (t.port n).run = none ∧ t.bit .tgstat n 0 = false ∧ t.bit .tgstat n 1 = true))

/-- Scrubbing, mooring and the traffic generator. -/
def Obligations.ScrubAndTest : Prop := Claims.ScrubAndMooring ∧ Claims.TrafficGenerator

/-- The command `h` at the head of basin `c`'s ring goes on to its work (R134, R135): nothing holds the basin, its handles are valid, its wait is
satisfied, and no bit outside the header and the body bytes `body` is set. `a` is the state with the head accepted. -/
def Sys2Proof.Claims.HeadGoes (s a : State) (c : Nat) (h : BCmd) (op : Nat) (body : List (Nat × Nat)) : Prop :=
  s.basinReady c = some h ∧ h.op = op ∧ h.poisoned = false ∧ s.checkHead c h = (true, a)
    ∧ a.headWait ((a.basin c).ring.headD h) = some false ∧ h.headerBad = false ∧ strayBits h.raw (byteMask [(0, 32)] ||| byteMask body) = false

/-- The basin's command runs with a status and no write outside the channel to wait for; no request has been made and no register table of another basin
touched. -/
def Sys2Proof.Claims.RunsIn (s t : State) (c status : Nat) : Prop :=
  (t.basin c).run = some ⟨status, []⟩ ∧ t.net = s.net ∧ (∀ k, k ≠ c → t.basin k = s.basin k) ∧ t.spires = s.spires

/-- R133, R134, R137: an append that finds room is placed whole in order, with the next acceptance numbers; one for a basin that its VD does not hold is
refused, one from before a reset is aborted, and one that finds no room waits. A command that has ended leaves the ring: BSEQR counts it, and a status without
a signal stands in BERR and BERRSEQ. -/
def Obligations.BasinRing : Prop :=
  (∀ (s : State) (id : Nat) (a : Append), s.net.appends.find? (fun y => y.id = id) = some a →
    let c := a.basin
    let b := s.basin c
    (s.holdsBasin a.vd c = false → ∃ t, exec (.basinAppend id) s = .next t ∧ ⟨id, a.agent, .range⟩ ∈ t.net.acks ∧ t.basins = s.basins)
    ∧ (s.holdsBasin a.vd c = true → a.gen ≠ (s.vd a.vd).gen →
        ∃ t, exec (.basinAppend id) s = .next t ∧ ⟨id, a.agent, .aborted⟩ ∈ t.net.acks ∧ t.basins = s.basins)
    ∧ (s.holdsBasin a.vd c = true → a.gen = (s.vd a.vd).gen → 256 < b.ring.length + a.cmds.length → exec (.basinAppend id) s = .next s)
    ∧ (s.holdsBasin a.vd c = true → a.gen = (s.vd a.vd).gen → b.ring.length + a.cmds.length ≤ 256 →
        ∃ t, exec (.basinAppend id) s = .next t ∧ ⟨id, a.agent, .ok⟩ ∈ t.net.acks ∧ (∀ y ∈ t.net.appends, y.id ≠ id)
          ∧ (t.basin c).ring.map (fun h => (h.num, h.raw)) = b.ring.map (fun h => (h.num, h.raw))
              ++ a.cmds.zipIdx.map (fun w => (s.reg .bseqa c + BitVec.ofNat 64 w.2, w.1))
          ∧ t.reg .bseqa c = s.reg .bseqa c + BitVec.ofNat 64 a.cmds.length ∧ (t.basin c).run = b.run ∧ t.dev = s.dev))
  ∧ (∀ (s : State) (c : Chan) (h : BCmd) (rest : List BCmd) (st : Nat),
      (s.basin c.val).ring = h :: rest → (s.basin c.val).run = some ⟨st, []⟩ → h.checked = true → h.waitf = none →
      ∃ t, exec (.basinCommandComplete c) s = .next t ∧ (t.basin c.val).ring = rest ∧ (t.basin c.val).run = none
        ∧ t.reg .bseqr c.val = s.reg .bseqr c.val + 1 ∧ t.dev = s.dev
        ∧ (h.sigf = none → st = 0 → t.reg .berr c.val = s.reg .berr c.val ∧ t.net = s.net)
        ∧ (h.sigf = none → st ≠ 0 → t.reg .berr c.val = BitVec.ofNat 64 (st + h.op * 256) ∧ t.reg .berrseq c.val = h.num ∧ t.net = s.net)
        ∧ (∀ f, h.sigf = some f → t.net.signals = s.net.signals ++ [⟨s.nextId, .basin c.val, h.vd, f, ((s.fence f).map (·.head.gen)).getD 0,
            if st = 0 then BitVec.ofNat 64 (cmdField h.raw 8 8) else errorValue (s.errStatus kindBasin st), true, []⟩]))
  ∧ (∀ (s : State) (c : Chan),
      ((s.basin c.val).ring = [] → (s.basin c.val).land = [] → (s.basin c.val).run = none → (s.basin c.val).waking = false → s.bit .pwmoor 0 32 = true →
        ∃ t, exec (.basinMoor c) s = .next t ∧ t.basin c.val = { s.basin c.val with moored := true } ∧ t.dev = s.dev)
      ∧ (∃ t, exec (.unitWake (.basin c)) s = .next t ∧ t.basin c.val = { s.basin c.val with moored := false, waking := false } ∧ t.dev = s.dev))

/-- R136, R153, R154, R155: NOP, FILL, COPY within the channel, CHECKSUM into the channel and CONVERT: the bytes they write, and no other byte of device
memory. The ranges are well formed, of a writable channel that no evacuation mirrors, with no granule poisoned. -/
def Obligations.BasinDataCommands : Prop :=
  ∀ (s a : State) (c : Chan) (h : BCmd), s.evacs.cells = [] →
    let at' (o : Nat) : Nat := c.val * 2 ^ 32 + o
    let off := cmdField h.raw 32 4
    let clean (o n : Nat) : Prop := o + n ≤ s.fld .chtop c.val 31 0 ∧ anyPoison s.devPoison (at' o) n = false
    let keeps (t : State) (o n : Nat) : Prop := ∀ b, b < at' o ∨ at' o + n ≤ b → t.dev.read b = s.dev.read b
    let own (o n : Nat) : Prop := ∀ g ∈ granules (at' o) n, s.rangeCheck h.vd g.1 true = .at g.1
    (HeadGoes s a c.val h 0 [] → ∃ t, exec (.basinNop c) s = .next t ∧ RunsIn s t c.val 0 ∧ t.dev = s.dev)
    ∧ (HeadGoes s a c.val h 1 [(32, 16)] → off % 64 = 0 → cmdField h.raw 36 4 % 64 = 0 → clean off (cmdField h.raw 36 4) →
        s.bit .chcfg c.val 24 = false →
        ∃ t, exec (.basinFill c) s = .next t ∧ RunsIn s t c.val 0 ∧ keeps t off (cmdField h.raw 36 4)
          ∧ (∀ i, i < cmdField h.raw 36 4 → t.dev.read (at' (off + i)) = BitVec.ofNat 8 (cmdField h.raw 40 8 / 256 ^ (i % 8))))
    ∧ (∀ d, HeadGoes s a c.val h 2 [(32, 16)] → cmdField h.raw 40 8 = at' d → off % 64 = 0 → d % 64 = 0 → cmdField h.raw 36 4 % 64 = 0 →
        clean off (cmdField h.raw 36 4) → clean d (cmdField h.raw 36 4) → own d (cmdField h.raw 36 4) →
        ∃ t, exec (.basinCopy c) s = .next t ∧ RunsIn s t c.val 0 ∧ keeps t d (cmdField h.raw 36 4)
          ∧ (∀ i, i < cmdField h.raw 36 4 → t.dev.read (at' (d + i)) = s.dev.read (at' (off + i))))
    ∧ (∀ d, HeadGoes s a c.val h 4 [(32, 9), (48, 8)] → cmdField h.raw 48 8 = at' d → off % 64 = 0 → d % 8 = 0 → cmdField h.raw 36 4 % 64 = 0 →
        cmdField h.raw 40 1 ≤ 1 → clean off (cmdField h.raw 36 4) → clean d 8 → own d 8 →
        ∃ t, exec (.checksum c) s = .next t ∧ RunsIn s t c.val 0 ∧ keeps t d 8
          ∧ t.dev.readLE (at' d) 8
              = (if cmdField h.raw 40 1 = 0 then crc32c else crc64) (s.dev.readN (at' off) (cmdField h.raw 36 4)) % 2 ^ 64)
    ∧ (∀ sf df rm, s.basinReady c.val = some h → h.op = 3 → h.poisoned = false → s.checkHead c.val h = (true, a) →
        a.headWait ((a.basin c.val).ring.headD h) = some false → h.headerBad = false →
        strayBits h.raw (byteMask [(0, 32)] ||| (byteMask [(32, 13), (48, 14)] ||| (0xFF <<< 360) ||| (0x3 <<< 368))) = false →
        convertFormat (cmdField h.raw 44 1 % 16) = some sf → convertFormat (cmdField h.raw 44 1 / 16) = some df → RM.ofCode h.rm = some rm → df ≠ .wide →
        (let dst := cmdField h.raw 36 4
         let n := cmdField h.raw 40 4
         off % 64 = 0 → dst % 64 = 0 → clean off (n * sf.size) → clean dst (n * df.size) → s.bit .chcfg c.val 24 = false →
         (off = dst ∧ sf.size = df.size ∨ off + n * sf.size ≤ dst ∨ dst + n * df.size ≤ off) →
         ∃ t, exec (.convert c) s = .next t ∧ (t.basin c.val).run = some ⟨0, []⟩ ∧ t.net = s.net ∧ keeps t dst (n * df.size)
           ∧ (∀ j, j < n → t.dev.readLE (at' (dst + j * df.size)) df.size
               = (convert df 0 rm (mix (BitVec.ofNat 64 (cmdField h.raw 48 8)) (c.val ||| 0x100) ((cmdField h.raw 56 6 + j) % 2 ^ 48))
                   (unpack sf (toSigned 10 (cmdField h.raw 45 2 % 1024)) (s.dev.readLE (at' (off + j * sf.size)) sf.size))).1 % 2 ^ (8 * df.size))))

/-- R151, R152: GATHER into a scratchpad sends each row to its place; SCATTER puts each source row into the row of the table that its index names. Every index names a
row within the channel, and nothing is poisoned. -/
def Sys2Proof.Claims.NarrowRows : Prop :=
  ∀ (s a : State) (c : Chan) (h : BCmd), s.evacs.cells = [] →
    let at' (o : Nat) : Nat := c.val * 2 ^ 32 + o
    let n := cmdField h.raw 36 4
    let tab := cmdField h.raw 40 4
    let rs := if cmdField h.raw 44 1 = 1 then 64 else 32
    let idx (io i : Nat) : Nat := tab + s.dev.readLE (at' (io + 4 * i)) 4 * rs
    let clean (o k : Nat) : Prop := o + k ≤ s.fld .chtop c.val 31 0 ∧ anyPoison s.devPoison (at' o) k = false
    1 ≤ n → n ≤ 16777216 → cmdField h.raw 44 1 ≤ 1 → tab % rs = 0 →
    (let io := cmdField h.raw 32 4
     let dst := cmdField h.raw 48 8
     let sp := cmdField h.raw 46 1
     HeadGoes s a c.val h 5 [(32, 15), (48, 8)] → cmdField h.raw 45 1 = 1 → io % 64 = 0 → dst % 64 = 0 → clean io (4 * n) →
     (s.spire sp).vdid = h.vd → dst + n * rs ≤ 0x400000 → (∀ i, i < n → clean (idx io i) rs ∧ (s.spire sp).inCode (dst + i * rs) rs = false) →
     ∃ t, exec (.gather c) s = .next t ∧ (t.basin c.val).run = some ⟨0, upFrom s.nextId n⟩ ∧ t.dev = s.dev
       ∧ (∀ i, i < n → ∃ r ∈ t.net.reqs, r.id = s.nextId + i ∧ r.agent = .basin c.val ∧ r.target = .spad sp (dst + i * rs)
            ∧ r.kind = .write (s.dev.readN (at' (idx io i)) rs)))
    ∧ (let so := cmdField h.raw 32 4
       let io := cmdField h.raw 48 4
       HeadGoes s a c.val h 6 [(32, 13), (48, 4)] → so % 64 = 0 → io % 64 = 0 → clean so (n * rs) → clean io (4 * n) → s.bit .chcfg c.val 24 = false →
       (∀ i, i < n → clean (idx io i) rs ∧ (idx io i + rs ≤ so ∨ so + n * rs ≤ idx io i) ∧ (idx io i + rs ≤ io ∨ io + 4 * n ≤ idx io i)) →
       ∃ t, exec (.scatter c) s = .next t ∧ RunsIn s t c.val 0
         ∧ (∀ i, i < n → (∀ j, i < j → j < n → idx io j ≠ idx io i) → t.dev.readN (at' (idx io i)) rs = s.dev.readN (at' (so + i * rs)) rs)
         ∧ (∀ b, (∀ i, i < n → b < at' (idx io i) ∨ at' (idx io i) + rs ≤ b) → t.dev.read b = s.dev.read b))

/-- R143, R144: OPTTAB with a well-formed body sets its entry of the operation table, and one that breaks the rules of R144 has TABLE; WINCFG sets its
window slot, or removes it at length 0; neither touches memory. -/
def Sys2Proof.Claims.BasinTables : Prop :=
  ∀ (s a : State) (c : Chan) (h : BCmd),
    let b := s.basin c.val
    (∀ e, s.basinReady c.val = some h → h.op = 8 → h.poisoned = false → s.checkHead c.val h = (true, a) →
        a.headWait ((a.basin c.val).ring.headD h) = some false → h.headerBad = false →
        strayBits h.raw (byteMask [(0, 32)] ||| (byteMask [(32, 3), (40, 15)] ||| (0x3F <<< 280) ||| (0x3FF <<< 288) ||| (0x87 <<< 304))) = false →
        h.arg ≤ 7 →
        (optEntry h.raw = some e → ∃ t, exec (.opttab c) s = .next t ∧ RunsIn s t c.val 0 ∧ t.dev = s.dev
          ∧ (t.basin c.val).ops.find? h.arg = some h.raw ∧ (∀ k, k ≠ h.arg → (t.basin c.val).ops.find? k = b.ops.find? k))
        ∧ (optEntry h.raw = none → ∃ t, exec (.opttab c) s = .next t ∧ RunsIn s t c.val 6 ∧ t.dev = s.dev ∧ (t.basin c.val).ops = b.ops))
    ∧ (∀ off len map, HeadGoes s a c.val h 9 [(32, 12)] → off = cmdField h.raw 32 4 → len = cmdField h.raw 36 4 → map = cmdField h.raw 40 4 →
        off % 64 = 0 → len % 64 = 0 → map % 64 = 0 → h.arg ≤ 3 →
        (len = 0 → ∃ t, exec (.wincfg c) s = .next t ∧ RunsIn s t c.val 0 ∧ t.dev = s.dev ∧ (t.basin c.val).wins.find? h.arg = none
          ∧ (∀ k, k ≠ h.arg → (t.basin c.val).wins.find? k = b.wins.find? k))
        ∧ (len ≠ 0 → off + len ≤ s.fld .chtop c.val 31 0 → map + len / 64 ≤ s.fld .chtop c.val 31 0 → (off + len ≤ map ∨ map + len / 64 ≤ off) →
            (∀ w ∈ b.wins.cells, w.1 ≠ h.arg → (off + len ≤ w.2.off ∨ w.2.off + w.2.len ≤ off)
              ∧ (map + len / 64 ≤ w.2.off ∨ w.2.off + w.2.len ≤ map) ∧ (off + len ≤ w.2.map ∨ w.2.map + w.2.len / 64 ≤ off)) →
            ∃ t, exec (.wincfg c) s = .next t ∧ RunsIn s t c.val 0 ∧ t.dev = s.dev ∧ (t.basin c.val).wins.find? h.arg = some ⟨off, len, map⟩
              ∧ (∀ k, k ≠ h.arg → (t.basin c.val).wins.find? k = b.wins.find? k)))

/-- GATHER, SCATTER, OPTTAB and WINCFG. -/
def Obligations.BasinRowsAndTables : Prop := Claims.NarrowRows ∧ Claims.BasinTables

/-- R146, R147, R149: an OPT of an AdamW or a momentum-SGD entry gives every element its new weight and moments, each rounded by its own index, and
changes no byte outside its arrays. The arrays are apart, in the channel and unpoisoned, and the hyperparameter block is readable. -/
def Obligations.OptimizerStep : Prop :=
  ∀ (s a : State) (c : Chan) (h : BCmd) (e : OptEntry) (hy : Hyper) (p : Nat), s.evacs.cells = [] →
    s.basinReady c.val = some h → h.op = 7 → h.poisoned = false → s.checkHead c.val h = (true, a) →
    a.headWait ((a.basin c.val).ring.headD h) = some false → h.headerBad = false →
    strayBits h.raw (byteMask [(0, 32)] ||| (byteMask [(32, 20), (56, 8)] ||| (0x1 <<< 416))) = false → h.arg ≤ 7 →
    ((s.basin c.val).ops.find? h.arg).bind optEntry = some e → e.kind ≤ 1 →
    let at' (o : Nat) : Nat := c.val * 2 ^ 32 + o
    let n := cmdField h.raw 32 4
    let w := cmdField h.raw 36 4
    let m := cmdField h.raw 40 4
    let v := cmdField h.raw 44 4
    let g := cmdField h.raw 48 4
    let spans := [(w, n * e.w.size), (m, n * e.m.size), (g, n * e.g.size)] ++ (if e.kind = 0 then [(v, n * e.v.size)] else [])
    n ≠ 0 → cmdField h.raw 56 8 % 64 = 0 → (e.kind = 1 → v = 0) →
    (∀ x ∈ spans, x.1 % 64 = 0 ∧ x.1 + x.2 ≤ s.fld .chtop c.val 31 0 ∧ anyPoison s.devPoison (at' x.1) x.2 = false) →
    spans.Pairwise (fun x y => x.1 + x.2 ≤ y.1 ∨ y.1 + y.2 ≤ x.1) →
    s.readAt h.vd (cmdField h.raw 56 8) = some p → s.bit .chcfg c.val 24 = false → s.mayTouch false p 64 = true → anyPoison s.devPoison p 64 = false →
    hyperOf (s.dev.readN p 64) = some hy →
    ∃ t, exec (.opt c) s = .next t ∧ (t.basin c.val).run = some ⟨0, []⟩ ∧ t.net = s.net
      ∧ (∀ j, j < n →
          let ld (o : Nat) (f : Fmt) (fr : Int) : Nat := (optLoad f fr (s.dev.readLE (at' (o + j * f.size)) f.size)).1
          let r := if e.kind = 0 then adamw hy (ld w e.w 0) (ld m e.m 0) (ld v e.v 0) (ld g e.g e.frame) else sgd hy (ld w e.w 0) (ld m e.m 0) (ld g e.g e.frame)
          let rnd (i : Nat) : Nat := mix hy.seed (c.val ||| 0x100) ((hy.stream + 3 * j + i) % 2 ^ 48)
          t.dev.readLE (at' (w + j * e.w.size)) e.w.size = (convert e.w 0 e.rmw (rnd 0) (unpack .fp32 0 r.w)).1 % 2 ^ (8 * e.w.size)
          ∧ t.dev.readLE (at' (m + j * e.m.size)) e.m.size = (convert e.m 0 e.rms (rnd 1) (unpack .fp32 0 (r.m.getD 0))).1 % 2 ^ (8 * e.m.size)
          ∧ (e.kind = 0 → t.dev.readLE (at' (v + j * e.v.size)) e.v.size
              = (convert e.v 0 e.rms (rnd 2) (unpack .fp32 0 (r.v.getD 0))).1 % 2 ^ (8 * e.v.size))
          ∧ (h.raw.getLsbD 416 = true → t.dev.readLE (at' (g + j * e.g.size)) e.g.size = 0))
      ∧ (∀ b, (∀ x ∈ spans, b < at' x.1 ∨ at' ((x.1 + x.2 + 63) / 64 * 64) ≤ b) → t.dev.read b = s.dev.read b)

/-- R156, R157, R175: a granule of a replicated range that cannot be read takes its replica's bytes and a spare row while one is left, or is poisoned where the
replica cannot be read either; REPAIR of a sound range changes nothing. -/
def Sys2Proof.Claims.ReplicaRepair : Prop :=
  ∀ (s : State) (c : Chan) (off : Nat) (r : Replica), s.evacs.cells = [] →
    let g := off / 64 * 64
    (s.basin c.val).replicaOf g 64 = some r → g + 64 ≤ 0x90000000 →
    (anyPoison s.devPoison (r.addr + (g - r.off)) 64 = false →
      ∃ t, exec (.replicaRepair c off false) s = .next t
        ∧ (∀ i, i < 64 → t.dev.read (c.val * 2 ^ 32 + g + i) = s.dev.read (r.addr + (g - r.off) + i))
        ∧ (∀ b, b < c.val * 2 ^ 32 + g ∨ c.val * 2 ^ 32 + g + 64 ≤ b → t.dev.read b = s.dev.read b)
        ∧ t.devPoison.find? ((c.val * 2 ^ 32 + g) / 64) = none ∧ t.fld .bspare c.val 9 0 = s.fld .bspare c.val 9 0 - 1)
    ∧ (∃ t, exec (.replicaRepair c off true) s = .next t ∧ t.dev = s.dev ∧ t.devPoison.find? ((c.val * 2 ^ 32 + g) / 64) = some ())
    ∧ (∀ a h, HeadGoes s a c.val h 10 [(32, 8)] → cmdField h.raw 32 4 = g → cmdField h.raw 36 4 = 64 →
        (anyPoison s.devPoison (c.val * 2 ^ 32 + g) 64 = false → ∃ t, exec (.repair c []) s = .next t ∧ RunsIn s t c.val 0 ∧ t.dev = s.dev)
        ∧ (anyPoison s.devPoison (r.addr + (g - r.off)) 64 = false →
            ∃ t, exec (.repair c [g]) s = .next t ∧ (t.basin c.val).run = some ⟨0, []⟩
              ∧ (∀ i, i < 64 → t.dev.read (c.val * 2 ^ 32 + g + i) = s.dev.read (r.addr + (g - r.off) + i))))

/-- R138, R139, R142: the oldest write of a basin's landing queue is added to the channel and acknowledged: of an FP32 or BF16 write without poison, each element becomes
the rounded sum of what stood there and what arrived, and no other byte changes. -/
def Sys2Proof.Claims.ReduceOnLand : Prop :=
  ∀ (s : State) (c : Chan) (r : Req) (rest : List Req) (d : RedData) (off : Nat), s.evacs.cells = [] →
    (s.basin c.val).land = r :: rest → r.kind = .reduce d → r.target = .dev (c.val * 2 ^ 32 + off) → d.red ≠ .windowed →
    (s.basin c.val).moored = false → (s.basin c.val).waking = false → s.portHeld c.val = false → s.bit .chcfg c.val 24 = false →
    let n := d.elems.length
    let k := d.red.dstSize
    off + n * k ≤ 0x90000000 → off % k = 0 → anyPoison s.devPoison (c.val * 2 ^ 32 + off) (n * k) = false →
    ∃ t, exec (.reducingWriteLand c) s = .next t ∧ (t.basin c.val).land = rest ∧ (⟨r.id, r.agent, .ok⟩ : Ack) ∈ t.net.acks
      ∧ (∀ i, i < n → t.dev.readLE (c.val * 2 ^ 32 + off + i * k) k
          = (convert d.red.dstFmt 0 .rne 0 (vadd .rne (unpack d.red.dstFmt 0 (s.dev.readLE (c.val * 2 ^ 32 + off + i * k) k))
              (unpack d.red.dstFmt 0 (d.elems.getD i 0))).1).1 % 2 ^ (8 * k))
      ∧ (∀ b, b < c.val * 2 ^ 32 + off ∨ c.val * 2 ^ 32 + off + n * k ≤ b → t.dev.read b = s.dev.read b)

/-- Repair of replicated ranges, and sums made as writes land. -/
def Obligations.BasinRepairAndReduce : Prop := Claims.ReplicaRepair ∧ Claims.ReduceOnLand

/-- The command `c` of queue `q` has ended with `d`. -/
def Sys2Proof.Claims.Ended (t : State) (q : Nat) (c : Cmd) (d : Done) : Prop :=
  ∃ o, t.objs.queues.live.find? q = some o ∧ ∃ y ∈ o.cmds, y.seq = c.seq ∧ y.stage = .done d

/-- The control command `c` is the next of queue `q`, and its opcode is `op`; its function has the right to it, and no bit outside OP and
`mask` is set (R289, R343); a control queue has no owning context (R340). `pf` says that it is a PF's alone. -/
def Sys2Proof.Claims.CtlGoes (s : State) (q : Nat) (o : QueueObj) (c : Cmd) (op : Nat) (pf : Bool) (mask : Nat) : Prop :=
  s.turn q 0 op = some (o, c) ∧ o.ctx = none ∧ (pf = true → o.vf = false) ∧ strayBits c.raw (0xFF ||| mask) = false

/-- R191, R494: SRAM errors. A clean access changes nothing; a corrected error counts RLSCE; an uncorrectable one counts RLSUE and, in a scratchpad, poisons the
granule and changes no byte. The spire has no earlier error in its history (R509). -/
def Sys2Proof.Claims.SramErrors : Prop :=
  ∀ (s : State) (a : SramArray) (u off : Nat),
    exec (.sramScrub a u off .clean) s = .next s
    ∧ (u < arrayUnits a → (arrayCode a ≤ 3 → (s.spire u).errors = []) →
        ∃ t, exec (.sramScrub a u off .corrected) s = .next t ∧ t.reg .rlsce 0 = bumpCount (s.reg .rlsce 0) 1 ∧ t.dev = s.dev
          ∧ (∀ n, (t.spire n).spad = (s.spire n).spad ∧ (t.spire n).poison = (s.spire n).poison ∧ (t.spire n).run = (s.spire n).run))
    ∧ (a = .scratchpad → u < 256 → (s.spire u).errors = [] →
        ∃ t, exec (.sramScrub a u off .uncorrectable) s = .next t ∧ t.reg .rlsue 0 = bumpCount (s.reg .rlsue 0) 1
          ∧ (t.spire u).poison.find? (off / 64) = some () ∧ (∀ g, g ≠ off / 64 → (t.spire u).poison.find? g = (s.spire u).poison.find? g)
          ∧ (t.spire u).spad = (s.spire u).spad ∧ (t.spire u).regs = (s.spire u).regs ∧ (∀ n, n ≠ u → t.spire n = s.spire n) ∧ t.dev = s.dev)

/-- R495, R500: a failed logic check resets its unit's domain, and RESET resets the domain it names and ends OK: each does what the reset command of that domain does.
A RESET of a virtual device runs on until that reset has ended. -/
def Obligations.ResetsByDomain : Prop :=
  ∀ (s : State) (b : BringUp),
    let both (i j : Instr) : Prop := ∃ t, exec i s = .next t ∧ exec j s = .next t
    (∀ n : Sp, ∃ t, exec (.spireReset n) s = .next t ∧ ((t.spire n.val).errors = [] →
        exec (.logicCheckFail (.spire n) b) s = .next (t.setSpire n.val { t.spire n.val with errors := [(2, t.reg .btime 0)] })))
    ∧ (∀ k, both (.logicCheckFail (.cluster k) b) (.clusterReset k))
    ∧ (∀ k, both (.logicCheckFail (.tower k) b) (.towerReset k))
    ∧ (∀ (c : Chan) (v : Vd), s.vdActive v.val = true → (∀ u ∈ s.activeVds, s.holdsBasin u c.val = true ↔ u = v.val) →
        both (.logicCheckFail (.basin c) b) (.vdReset v))
    ∧ (s.bit .rlcfg 0 1 = true → both (.logicCheckFail (.belfry true) b) (.warmDeviceReset b))
    ∧ (∀ good, good = false ∨ s.bit .rlcfg 0 1 = false → both (.logicCheckFail (.belfry good) b) (.coldDeviceReset b))
    ∧ (∀ (q : Qn) (o : QueueObj) (c : Cmd), CtlGoes s q.val o c 0x23 true (byteMask [(8, 2)]) →
        let target := cmdField c.raw 9 1
        let answers (i : Instr) : Prop := ∃ t, exec i s = .next t ∧ exec (.resetCommand q b) s = .next (t.enter q.val c (.ended (Done.ok)))
        (∀ n : Sp, cmdField c.raw 8 1 = 0 → target = n.val → answers (.spireReset n))
        ∧ (∀ k : Fin 16, cmdField c.raw 8 1 = 1 → target = k.val → answers (.clusterReset k))
        ∧ (∀ v : Vd, s.sliceOwner target = some v.val → cmdField c.raw 8 1 = 2 → answers (.sliceReset v target))
        ∧ (∀ v : Vd, s.vdActive v.val = true → cmdField c.raw 8 1 = 3 → target = v.val →
            ∃ t, exec (.vdReset v) s = .next t ∧ exec (.resetCommand q b) s = .next (t.enter q.val c .running))
        ∧ (∀ k : Tower, cmdField c.raw 8 1 = 4 → target = k.val → answers (.towerReset k)))

/-- R506: a snapshot of a monitor that is not counting copies its live set to the readable registers, and CLR clears the live set. -/
def Sys2Proof.Claims.MonitorSnapshot : Prop :=
  ∀ (s : State) (w : Tower) (m : Fin 64) (clr : Bool),
    let k := 64 * w.val + m.val
    let live := s.mons.get .reset k
    s.bit .mncfg k 22 = false →
    ∃ t, exec (.monitorSnap w m clr) s = .next t
      ∧ t.reg .mnmin k = BitVec.ofNat 64 live.min ∧ t.reg .mnmax k = BitVec.ofNat 64 live.max ∧ t.reg .mncnt k = BitVec.ofNat 64 live.cnt
      ∧ (∀ b, b < 32 → t.reg .mnhist (32 * k + b) = BitVec.ofNat 64 (live.hist.get 0 b))
      ∧ t.mons.get .reset k = (if clr then .reset else live) ∧ (∀ j, j ≠ k → t.mons.get .reset j = s.mons.get .reset j)
      ∧ t.spires = s.spires ∧ t.dev = s.dev

/-- SRAM errors, and snapshots of the monitors. -/
def Obligations.ErrorsAndMonitors : Prop := Claims.SramErrors ∧ Claims.MonitorSnapshot

/-- R211, R217, R219, R223: a write that reaches a scratchpad lands its bytes and no others; a reducing FP32 or BF16 write adds its elements; a multicast copy lands, or is
dropped and counted where its virtual device does not take it. The range is clear of a running kernel's code and of poison. -/
def Sys2Proof.Claims.ScratchpadArrivals : Prop :=
  ∀ (s : State) (n off : Nat),
    let x := s.spire n
    (∀ (id : Nat) (r : Req), s.net.reqs.find? (fun y => y.id = id) = some r → r.target = .spad n off → r.stage = .net → x.moored = false → x.waking = false →
      (∀ y ∈ s.net.reqs, y.port = some (1024 + n) → y.before r = false) →
      (∀ d, r.kind = .write d → x.inCode off d.length = false → anyPoison x.poison off d.length = false →
        ∃ t, exec (.scratchpadWriteArrival id) s = .next t
          ∧ (∀ i, i < d.length → (t.spire n).spad.read (off + i) = d.getD i 0)
          ∧ (∀ o, o < off ∨ off + d.length ≤ o → (t.spire n).spad.read o = x.spad.read o)
          ∧ (⟨id, r.agent, .ok⟩ : Ack) ∈ t.net.acks ∧ (∀ y ∈ t.net.reqs, y.id ≠ id) ∧ (t.spire n).regs = x.regs ∧ t.dev = s.dev
          ∧ (∀ j, j ≠ n → t.spire j = s.spire j))
      ∧ (∀ d, r.kind = .write d → x.inCode off d.length = true →
        ∃ t, exec (.scratchpadWriteArrival id) s = .next t ∧ t.spires = s.spires ∧ (⟨id, r.agent, .bus⟩ : Ack) ∈ t.net.acks)
      ∧ (∀ d, r.kind = .reduce d → d.red ≠ .windowed →
        let k := d.red.dstSize
        let m := d.elems.length
        x.inCode off (m * k) = false → off % k = 0 → anyPoison x.poison off (m * k) = false →
        ∃ t, exec (.landingAdd id) s = .next t ∧ (⟨id, r.agent, .ok⟩ : Ack) ∈ t.net.acks
          ∧ (∀ i, i < m → (t.spire n).spad.readLE (off + i * k) k
              = (convert d.red.dstFmt 0 .rne 0 (vadd .rne (unpack d.red.dstFmt 0 (x.spad.readLE (off + i * k) k))
                  (unpack d.red.dstFmt 0 (d.elems.getD i 0))).1).1 % 2 ^ (8 * k))
          ∧ (∀ o, o < off ∨ off + m * k ≤ o → (t.spire n).spad.read o = x.spad.read o) ∧ t.dev = s.dev))
    ∧ (∀ (sp : Sp) (d : List Byte), sp.val = n → off + d.length ≤ 0x400000 →
      (x.vdid < 63 → s.bit .nvdcfg x.vdid 30 = false →
        ∃ t, exec (.multicastDeliver sp off d) s = .next t ∧ t.spires = s.spires ∧ t.reg .nmcdrop (n / 128) = bumpCount (s.reg .nmcdrop (n / 128)) 1)
      ∧ ((x.vdid < 63 → s.bit .nvdcfg x.vdid 30 = true) → x.inCode off d.length = false → anyPoison x.poison off d.length = false →
        ∃ t, exec (.multicastDeliver sp off d) s = .next t ∧ (∀ i, i < d.length → (t.spire n).spad.read (off + i) = d.getD i 0)
          ∧ (∀ o, o < off ∨ off + d.length ≤ o → (t.spire n).spad.read o = x.spad.read o) ∧ t.dev = s.dev))

/-- R212, R213, R214: a reducing packet waits in a combining buffer that has room, goes on alone when RWIN has passed, and with a partner goes on as one packet
of their sums, which stands for the sources of both; the acknowledgement of that one acknowledges each source, a refusal as BUS. -/
def Sys2Proof.Claims.Combining : Prop :=
  ∀ (s : State) (sp : Sp) (i j : Nat) (x y : Req) (d e : RedData),
    let n := sp.val
    (s.net.reqs.find? (fun r => r.id = i) = some x → s.net.reqs.find? (fun r => r.id = j) = some y → x.stage = .net →
      (y.stage = .net ∨ y.stage = .router n) → x.kind = .reduce d → y.kind = .reduce e → x.mates y = true → s.combines x.vd n = true →
      s.atRouter x n = true → s.atRouter y n = true →
      (i = j → s.buffered n < 16 → s.fld .nvdcfg x.vd 29 24 ≠ 0 →
        ∃ t, exec (.routerCombine i j sp) s = .next t ∧ (∃ r ∈ t.net.reqs, r.id = i ∧ r.stage = .router n))
      ∧ (i ≠ j → s.combineRoom n [x, y] = true →
        ∃ t, exec (.routerCombine i j sp) s = .next t ∧ (s.nextId, x.sources ++ y.sources) ∈ t.net.combined
          ∧ (∀ r ∈ t.net.reqs, r.id = s.nextId ∨ (r.id ≠ i ∧ r.id ≠ j))
          ∧ (∃ r ∈ t.net.reqs, r.id = s.nextId ∧ r.target = x.target ∧ r.stage = .net ∧ r.kind = .reduce (combineData d e))
          ∧ t.reg .ncomb (n / 128) = bumpCount (s.reg .ncomb (n / 128)) 1 ∧ t.spires = s.spires ∧ t.dev = s.dev))
    ∧ (∀ r k, r ∈ s.net.reqs → r.stage = .router k → (∀ q ∈ s.net.reqs, q.id = r.id → q = r) →
        ∃ t, exec (.combineWaitExpiry r.id) s = .next t ∧ { r with stage := .net } ∈ t.net.reqs ∧ t.spires = s.spires ∧ t.dev = s.dev
          ∧ (∀ q, q ∈ t.net.reqs → q.id = r.id → q = { r with stage := .net })
          ∧ (∀ q, q.id ≠ r.id → (q ∈ t.net.reqs ↔ q ∈ s.net.reqs)))
    ∧ (∀ a l, s.net.acks.find? (fun y => y.id = i) = some a → s.net.combined.find? (fun c => c.1 = i) = some (i, l) →
      ∃ t, exec (.combinedAck i) s = .next t
        ∧ t.net.acks = s.net.acks.filter (fun y => y.id ≠ i)
            ++ l.map (fun z => ⟨z.1, z.2, if a.status = .ok then .ok else if a.status = .poison then .poison else .bus⟩)
        ∧ (∀ c ∈ t.net.combined, c.1 ≠ i) ∧ t.spires = s.spires)

/-- Writes, sums and copies that reach a scratchpad, and packets combined on the way. -/
def Obligations.ScratchpadArrivals : Prop := Claims.ScratchpadArrivals ∧ Claims.Combining

/-- R208, R220, R221: an arrival that is not the last is counted at its entry; the last releases every spire that waits, each moving past its BAR, and the
entry starts a new round. Replays are counted at the receiving tower, and a crossing with more than 64 of them within 1 ms leaves service at both ends. -/
def Obligations.BarriersAndLock : Prop :=
  (∀ (s : State) (sp : Sp) (i e : Nat) (d td : List Nat) (sent : Bool) (arr : Option Nat),
    let n := sp.val
    n ∈ s.net.arrivals → (s.spire n).wait = .bar i d td sent arr → s.barrierEntry (s.spire n).vdid i = some e → n ∉ (s.round e).arrived →
    (∀ m ∈ (s.round e).arrived, ∃ j d' td' b, (s.spire m).wait = .bar j d' td' b (some e)) →
    ((s.round e).arrived.length + 1 < s.fld .nbar e 23 15 →
      ∃ t, exec (.barrierArrival sp) s = .next t ∧ (t.round e).arrived = (s.round e).arrived ++ [n]
        ∧ t.fld .nbar e 32 24 = ((s.round e).arrived.length + 1) % 512 ∧ (t.spire n).wait = .bar i d td sent (some e) ∧ (t.spire n).pc = (s.spire n).pc)
    ∧ (s.fld .nbar e 23 15 ≤ (s.round e).arrived.length + 1 → (s.round e).held = none → (s.round e).arrived.Nodup →
      ∃ t, exec (.barrierArrival sp) s = .next t ∧ (t.round e).arrived = [] ∧ t.fld .nbar e 32 24 = 0 ∧ t.fld .nbar e 23 15 = s.fld .nbar e 23 15
        ∧ (∀ m, m ∈ (s.round e).arrived ∨ m = n → (t.spire m).wait = .none ∧ (t.spire m).pc = ((s.spire m).pc + 16) % 2 ^ 64
            ∧ (t.spire m).regs = (s.spire m).regs)
        ∧ (∀ m, m ∉ (s.round e).arrived → m ≠ n → t.spire m = s.spire m)))
  ∧ (∀ (s : State) (south : Bool) (x : Fin 16) (k : Nat),
    (∃ t, exec (.lockReplay south x k) s = .next t ∧ t.reg .lkretry (if south then 1 else 0) = bumpCount (s.reg .lkretry (if south then 1 else 0)) k
      ∧ (t.recentReplays x.val).length = (s.recentReplays x.val).length + 1 ∧ t.spires = s.spires)
    ∧ (s.bit .lkstat 0 x.val = true → 64 < (s.recentReplays x.val).length →
        ((upFrom 0 16).filter (fun c => decide (c ≠ x.val) && ! s.bit .lkstat 0 c)).length < 4 →
        ∃ t, exec (.lockCrossingOut x) s = .next t ∧ t.bit .lkstat 0 x.val = false ∧ t.bit .lkstat 1 x.val = false
          ∧ (∀ c, c ≠ x.val → t.bit .lkstat 0 c = s.bit .lkstat 0 c) ∧ t.spires = s.spires ∧ t.dev = s.dev)
    ∧ (s.bit .lkstat 0 x.val = true → (s.recentReplays x.val).length ≤ 64 → exec (.lockCrossingOut x) s = .next s))

/-- R243, R266, R470, R520: the states of a canal: training ends UP with four lanes, DEGRADED with three and DOWN with fewer; a retry stays in TRAINING; a lane's
recalibration begins with a request while no other canal of the tower recalibrates, and ends with its lane back when that is retuned; a lane that is not leaves the others, or the
canal goes DOWN for want of three and waits for a device reset. -/
def Obligations.CanalStates : Prop :=
  ∀ (s : State) (c : Canal),
    let n := c.val
    let state (t : State) (k lanes : Nat) : Prop := t.fld .cnstat n 2 0 = k ∧ t.fld .cnstat n 6 3 = lanes
    (s.canalState n = 1 →
      (∃ t, exec (.canalTrainingDone c 0xF) s = .next t ∧ state t 2 0xF ∧ t.link n = .reset)
      ∧ (∀ m : BitVec 4, m = 7 ∨ m = 11 ∨ m = 13 ∨ m = 14 → ∃ t, exec (.canalTrainingDone c m) s = .next t ∧ state t 4 m.toNat ∧ t.link n = .reset)
      ∧ (∀ m : BitVec 4, m ≠ 0xF → m ≠ 7 → m ≠ 11 → m ≠ 13 → m ≠ 14 → ∃ t, exec (.canalTrainingDone c m) s = .next t ∧ state t 0 0)
      ∧ (∃ t, exec (.canalTrainingRetry c) s = .next t ∧ state t 1 0 ∧ t.fabric = s.fabric ∧ t.spires = s.spires))
    ∧ (∀ lane : Fin 4, s.canalState n = 2 ∨ s.canalState n = 4 → (s.fld .cnstat n 6 3).testBit lane.val = true →
        (∀ k, k < 24 → k / 12 = n / 12 → (s.link k).recal = none ∧ s.canalState k ≠ 3) →
        ∃ t, exec (.recalibration c lane) s = .next t ∧ (t.link n).recal = some (lane.val, 1) ∧ t.regs = s.regs)
    ∧ (∀ lane step, (s.link n).recal = some (lane, step) → s.canalState n = 3 → lane < 4 →
        (let back := s.fld .cnstat n 6 3 ||| 2 ^ lane
         ∃ t, exec (.recalDone c true) s = .next t ∧ state t (if back = 0xF then 2 else 4) back ∧ (t.link n).recal = some (lane, 3))
        ∧ (let left := (0xF - 2 ^ lane) &&& s.fld .cnstat n 6 3
           ∃ t, exec (.recalDone c false) s = .next t
             ∧ (left = 7 ∨ left = 11 ∨ left = 13 ∨ left = 14 → state t 4 left ∧ (t.link n).recal = (s.link n).recalNext.map (fun k => (k, 1)))
             ∧ (left ≠ 7 → left ≠ 11 → left ≠ 13 → left ≠ 14 → state t 0 0 ∧ (t.link n).spent = true)))

/-- R241, R244, R245, R249: a codeword that FEC cannot correct is discarded and a replay asked for from the next flit expected; the packet that a stream flit completes is kept with
the credits it holds. A control flit that fails its CRC asks for a replay; one in its turn frees what it covers, adds its credits and has the flits from RPLF onward sent again where RPLQ asks; one that leaves returns the credits
owed and carries the number of the next flit expected. Whatever is sent, at most 159 other numbered flits leave between two control flits. -/
def Sys2Proof.Claims.LinkFlits : Prop :=
  (∀ (fuel : Nat) (l : Link), l.sinceControl ≤ 159 → (Link.pump fuel l).2.sinceControl ≤ 159)
  ∧ ∀ (s : State) (c : Canal),
    let n := c.val
    let l := s.link n
    s.canalUsable n = true →
    (∀ flits corrected replay, l.discarding = false →
      ∃ t, exec (.codewordReceive c ⟨replay, corrected, true, flits⟩) s = .next t
        ∧ t.link n = { l with rxNum := l.rxNum % 65536, discarding := true, askReplay := true }
        ∧ t.reg .cnfecu n = bumpCount (s.reg .cnfecu n) 1 ∧ t.reg .cnrpl n = bumpCount (s.reg .cnrpl n) 1)
    ∧ (∀ b : List Byte, b.length = 64 → l.discarding = false → l.rxSkip = 0 → l.rxTail = [] → l.rxMarks = [] →
        (let len := 8 * bitsOf (b.getD 1 0).toNat 6 0
         16 ≤ len → len ≤ 32 → natLE ((b.drop (24 + len)).take 4) = crc32c (b.take (24 + len)) →
         ∃ t, exec (.codewordReceive c ⟨false, false, false, [.stream b]⟩) s = .next t
           ∧ (t.link n).rxBuf = l.rxBuf ++ [(Pkt.ofHeader (b.take 24) ((b.drop 24).take len), 1)]
           ∧ (t.link n).rxNum = (l.rxNum + 1) % 65536 ∧ (t.link n).rxTail = b.drop (28 + len)
           ∧ t.reg .cnrxb n = bumpCount (s.reg .cnrxb n) len))
    ∧ (∀ f : ControlFlit, l.discarding = false →
        (f.crcOk = false → ∃ t, exec (.controlFlitReceive c f) s = .next t ∧ (t.link n).discarding = true ∧ (t.link n).askReplay = true
          ∧ (t.link n).credits = l.credits ∧ (t.link n).replay = l.replay)
        ∧ (f.crcOk = true → l.rxNum = l.rxHigh → l.out = [] → f.rcl = 0 → l.credits.length = 4 →
          ∃ t, exec (.controlFlitReceive c f) s = .next t ∧ (t.link n).rxNum = (l.rxNum + 1) % 65536
            ∧ (t.link n).replay = l.replay.filter (fun r => ! decide ((f.rxok.toNat + 65536 - r.1) % 65536 < 32768))
            ∧ (t.link n).wire = l.wire.filter (fun r => ! decide ((f.rxok.toNat + 65536 - r.1) % 65536 < 32768))
                ++ (if f.rplq.getLsbD 0 then
                      ((t.link n).replay.dropWhile (fun r => r.1 ≠ f.rplf.toNat)).map (fun r => (r.1, flitImage r.2)) else [])
            ∧ (t.link n).credits = [l.credits.getD 0 0 + f.credit0.toNat, l.credits.getD 1 0 + f.credit1.toNat, l.credits.getD 2 0 + f.credit2.toNat,
                l.credits.getD 3 0 + f.credit3.toNat]))
    ∧ (l.replay.length < 2048 →
        ∃ t f, exec (.controlFlitSend c) s = .next t ∧ (t.link n).replay = l.replay ++ [(l.txNum, .control f)]
          ∧ f.fnum = BitVec.ofNat 16 l.txNum ∧ f.rplf = BitVec.ofNat 16 l.rxNum ∧ f.rxok = BitVec.ofNat 16 (l.rxNum + 65535)
          ∧ f.credit0 = BitVec.ofNat 16 (min 0xFFFF (l.owed.getD 0 0)) ∧ f.rplq = (if l.askReplay then 1 else 0)
          ∧ (t.link n).txNum = (l.txNum + 1) % 65536 ∧ (t.link n).owed.getD 0 0 = l.owed.getD 0 0 - min 0xFFFF (l.owed.getD 0 0) ∧ t.regs = s.regs)

/-- R262, R264: a packet for another node leaves by the canal that its routing entry fixes, one hop on; without a usable canal, or at its hop limit, it is discarded and counted. It
holds its buffer until it has left (R249); a pool request whose canals are all at their limit stays where it is. -/
def Sys2Proof.Claims.PacketForwarding : Prop :=
  ∀ (s : State) (c : Canal) (typ : BitVec 5) (p : Packet),
    let k : Pkt := ⟨typ, p⟩
    let a := s.unbuffer c.val k
    p.dst.toNat ≠ s.node →
    (isReservedType typ = true ∨ 14 ≤ p.hops.toNat ∨ s.usable k none (some c.val) = [] →
      ∃ t, exec (.packetForward c typ p) s = .next t ∧ t.reg .cndrop c.val = bumpCount (s.reg .cndrop c.val) 1 ∧ t.fabric = a.fabric ∧ t.net = s.net)
    ∧ (∀ o rest, isReservedType typ = false → p.hops.toNat < 14 → isPoolRequest typ = false → s.usable k none (some c.val) = o :: rest →
        3 ≤ s.fld (s.routeEntry p.dst.toNat).1 (s.routeEntry p.dst.toNat).2 26 24 →
        (let (n, b) := s.takeBuffered c.val k
         exec (.packetForward c typ p) s = .next (b.pushLink o
           ⟨⟨typ, { p with vl := BitVec.ofNat 2 (s.nextLane c.val o k), hops := p.hops + 1 }⟩, if n = 0 then none else some (c.val, p.vl.toNat, n), false⟩)))
    ∧ (isPoolRequest typ = true → p.hops.toNat < 14 → s.usable k none (some c.val) ≠ [] → (∀ o ∈ s.usable k none (some c.val), 4096 ≤ s.poolOnCanal o) →
        exec (.packetForward c typ p) s = .next s)

/-- Codewords, control flits and packets passed on. -/
def Obligations.LinksAndForwarding : Prop := Claims.LinkFlits ∧ Claims.PacketForwarding

/-- R251, R253, R254, R255: a sequenced packet for this node. One behind the frontier is counted and lands nothing; one refused is NAKed and resolved;
the next in order, accepted and not final, becomes requests of its granules or elements, an append to a basin, or a fence signal, and stays open until they end. -/
def Sys2Proof.Claims.SequencedPackets : Prop :=
  ∀ (s : State) (c : Canal) (p : Packet) (i : Instr) (typ : BitVec 5), p.dst.toNat = s.node →
    (i = .writePacket c p ∧ typ = 0x01 ∨ i = .writeRedPacket c p ∧ typ = 0x02 ∨ i = .basinPacket c p ∧ typ = 0x05 ∨ i = .fencePacket c p ∧ typ = 0x06
      ∨ i = .prule c p ∧ typ = 0x16) →
    let k : Pkt := ⟨typ, p⟩
    let a := s.unbuffer c.val k
    let node := p.src.toNat
    let seq := rebuildSeq (s.frontier node) p.seq
    (seqBehind seq (s.frontier node) = true →
      ∃ t, exec i s = .next t ∧ t.net = s.net ∧ t.frontier node = s.frontier node ∧ t.dev = s.dev)
    ∧ (seq = s.frontier node → (∀ b ∈ (s.inbound node).busy, b.seq ≠ seq) → (∀ b ∈ (s.inbound node).held, b.seq ≠ seq) → (s.inbound node).marks.contains seq = false →
      (∀ st v, s.deliveryStatus k = (st, v) → st ≠ .ok → st ≠ .busy → (s.inbound node).held = [] → (s.inbound node).marks = [] →
        ∃ t, exec i s = .next t ∧ t.frontier node = seq + 1 ∧ t.net = s.net ∧ t.dev = s.dev ∧ t.spires = s.spires)
      ∧ (∀ v, s.deliveryStatus k = (.ok, v) → p.fin = 0 →
        (typ = 0x01 → p.payload ≠ [] → ∃ t, exec i s = .next t
          ∧ (∃ b ∈ (t.inbound node).busy, b.seq = seq ∧ b.pkt = k ∧ b.ids = upFrom s.nextId (a.landReqs node seq v k).length)
          ∧ (∀ m g, (match addrSpad p.addr with
                | some (_, o) => granules o p.payload.length | none => s.units v (bitsOf p.addr.toNat 45 0) p.payload.length)[m]? = some g →
              ∃ r ∈ t.net.reqs, r.id = s.nextId + m ∧ r.agent = .canal node seq ∧ r.vd = v ∧ r.named = g.1
                ∧ r.kind = .write ((p.payload.drop (g.1 - (match addrSpad p.addr with | some (_, o) => o | none => bitsOf p.addr.toNat 45 0))).take g.2))
          ∧ t.frontier node = seq ∧ t.dev = s.dev)
        ∧ (typ = 0x02 → a.landReqs node seq v k ≠ [] → ∃ t, exec i s = .next t
          ∧ (∃ b ∈ (t.inbound node).busy, b.seq = seq ∧ b.pkt = k ∧ b.ids = upFrom s.nextId (a.landReqs node seq v k).length)
          ∧ (∃ r ∈ t.net.reqs, r.id = s.nextId ∧ r.agent = .canal node seq ∧ r.vd = v
              ∧ ∃ d, r.kind = .reduce d ∧ d.red = redOf p.red.toNat ∧ d.fmt = redSource p.red.toNat ∧ d.frame = p.frame.toInt)
          ∧ t.frontier node = seq ∧ t.dev = s.dev)
        ∧ (typ = 0x05 → ∃ t, exec i s = .next t
          ∧ t.net.appends = s.net.appends ++ [⟨s.nextId, .canal node seq, v, (s.vd v).gen, relocBasin (s.vd v).relocs (bitsOf p.addr.toNat 7 0),
              (upFrom 0 (p.payload.length / 64)).map (fun j => BitVec.ofNat 512 (natLE ((p.payload.drop (64 * j)).take 64)))⟩]
          ∧ (∃ b ∈ (t.inbound node).busy, b.seq = seq ∧ b.ids = [s.nextId]) ∧ t.dev = s.dev)
        ∧ (typ = 0x06 → ∃ t, exec i s = .next t
          ∧ (let h := BitVec.ofNat 32 (natLE (p.payload.take 4))
             t.net.signals = s.net.signals ++ [⟨s.nextId, .canal node seq, v, handleIndex h, handleGen h,
               BitVec.ofNat 64 (natLE ((p.payload.drop 8).take 8)), false, []⟩])
          ∧ (∃ b ∈ (t.inbound node).busy, b.seq = seq ∧ b.ids = [s.nextId]) ∧ t.dev = s.dev)
        ∧ (typ = 0x16 → (p.payload.getD 16 0) ≠ 0 → (s.inbound node).held = [] → (s.inbound node).marks = [] →
          ∃ t, exec i s = .next t ∧ t.frontier node = seq + 1 ∧ t.net = s.net ∧ t.dev = s.dev ∧ t.engines = s.engines)))

/-- R287, R288: a packet that is no pool type, of a virtual device that does not list its source module as a peer, or of a confidential one, is refused with RANGE: no unit of it
lands, and its number is resolved. -/
def Obligations.PeersOnly : Prop :=
  ∀ (s : State) (c : Canal) (p : Packet) (i : Instr) (typ : BitVec 5) (v : Nat), p.dst.toNat = s.node →
    (i = .writePacket c p ∧ typ = 0x01 ∨ i = .writeRedPacket c p ∧ typ = 0x02 ∨ i = .basinPacket c p ∧ typ = 0x05 ∨ i = .fencePacket c p ∧ typ = 0x06) →
    reservedBad ⟨typ, p⟩ = false → s.vdOfTag p.tag.toNat = some v → s.vdState v ≠ 2 → s.confidential v = true ∨ s.isPeer v p.src.toNat = false →
    s.deliveryStatus ⟨typ, p⟩ = (.range, v)
    ∧ (let node := p.src.toNat
       let seq := rebuildSeq (s.frontier node) p.seq
       seq = s.frontier node → (∀ b ∈ (s.inbound node).busy, b.seq ≠ seq) → (s.inbound node).held = [] → (s.inbound node).marks = [] →
       ∃ t, exec i s = .next t ∧ t.frontier node = seq + 1 ∧ t.net = s.net ∧ t.dev = s.dev ∧ t.spires = s.spires)

/-- R253, R256, R257, R258, R260: what ends a packet at its source and at its destination. An ACK retires the packets it covers, a NAK other than BUSY the one it names, a READ_RSP
its READ; a RESYNC sets the frontier and frees the window; the timer of an unacknowledged ACK sends it; a packet unacknowledged for CNRTO is sent again, and after eight sends its
node is DOWN; a held packet whose time is up is refused. No packet waits to be sent here. -/
def Sys2Proof.Claims.EndsOfPackets : Prop :=
  ∀ (s : State) (c : Canal) (p : Packet) (nd : Node), p.dst.toNat = s.node →
    let node := p.src.toNat
    let w (o n : Nat) : Nat := natLE ((p.payload.drop o).take n)
    ((∀ x ∈ s.fabric.peers.cells, x.2.waiting = []) →
      ((∀ u ∈ (s.peer node).unretired, ∀ e, u.agent ≠ .pool e) → ∃ t, exec (.ackPacket c p) s = .next t
        ∧ (∀ u ∈ (s.peer node).unretired, u.acked (BitVec.ofNat 64 (w 0 8)) (BitVec.ofNat 64 (w 8 8)) = true →
            (⟨u.id, u.agent, .ok⟩ : Ack) ∈ t.net.acks ∧ ∀ y ∈ (t.peer node).unretired, y.id ≠ u.id)
        ∧ t.dev = s.dev ∧ t.spires = s.spires)
      ∧ (AccStatus.ofNum (p.payload.getD 8 0).toNat = .busy → ∃ t, exec (.nakPacket c p) s = .next t ∧ t.fabric.peers = s.fabric.peers ∧ t.net = s.net)
      ∧ (∀ u, AccStatus.ofNum (p.payload.getD 8 0).toNat ≠ .busy →
          (s.peer node).unretired.find? (fun y => isSequenced y.pkt.typ && y.seq = BitVec.ofNat 64 (w 0 8)) = some u → (∀ e, u.agent ≠ .pool e) →
          ∃ t, exec (.nakPacket c p) s = .next t ∧ (⟨u.id, u.agent, AccStatus.ofNum (p.payload.getD 8 0).toNat⟩ : Ack) ∈ t.net.acks
            ∧ (∀ y ∈ (t.peer node).unretired, y.id ≠ u.id) ∧ t.dev = s.dev)
      ∧ (∀ u, (s.peer node).unretired.find? (fun y => y.pkt.typ = tyRead && y.seq.extractLsb' 0 32 = p.seq) = some u →
          (∀ b, u.agent ≠ .barge b) →
          ∃ t, exec (.readRspPacket c p) s = .next t ∧ (∀ y ∈ (t.peer node).unretired, y.id ≠ u.id) ∧ t.dev = s.dev ∧ t.net = s.net))
    ∧ (∃ t, exec (.resyncPacket c p) s = .next t ∧ t.frontier node = BitVec.ofNat 64 (w 0 8) ∧ t.inbound node = .reset ∧ t.net = s.net ∧ t.dev = s.dev)
    ∧ (let m := nd.toNat
       ((s.inbound m).sinceAck ≠ 0 → ∃ t, exec (.ackTimer nd) s = .next t ∧ t.inbound m = { s.inbound m with sinceAck := 0 } ∧ t.frontier m = s.frontier m)
       ∧ (∀ seq u, (s.peer m).unretired = [u] → u.seq = seq →
          (u.sends < 8 → isPoolRequest u.pkt.typ = false → ∃ t v, exec (.retransmitTimeout nd seq) s = .next t ∧ (t.peer m).unretired = [{ u with sends := u.sends + 1, canal := v }] ∧ t.net = s.net)
          ∧ (8 ≤ u.sends → u.pkt.typ ≠ tyRead → (∀ e, u.agent ≠ .pool e) → (s.peer m).waiting = [] → (∀ e, (s.engine e).ledger = [] ∧ (s.engine e).asks = []) →
              ∃ t, exec (.retransmitTimeout nd seq) s = .next t ∧ t.reg .cnpdown m = 1 ∧ (t.peer m).unretired = [] ∧ (⟨u.id, u.agent, .down⟩ : Ack) ∈ t.net.acks))
       ∧ (∀ seq h, (s.inbound m).held = [h] → h.seq = seq → h.pkt.p.fin = 1 → seqBehind seq (s.frontier m) = false →
          ∃ t, exec (.holdTimeout nd seq) s = .next t ∧ (t.inbound m).held = [] ∧ t.net = s.net ∧ t.dev = s.dev
            ∧ (seq = s.frontier m → (s.inbound m).marks = [] → t.frontier m = seq + 1)))

/-- Sequenced packets at their destination, and their ends at both sides. -/
def Obligations.PacketsAtTheirEnds : Prop := Claims.SequencedPackets ∧ Claims.EndsOfPackets

/-- R248, R253, R274: a READ of a scratchpad or of device memory of its virtual device is answered with the bytes as they stand; the answers of a pool end what asked for them:
the data of a PREAD is placed, the acceptance of a commit makes the pool the owner, the status of a PCOPY stages the transfer. -/
def Obligations.RemoteAnswers : Prop :=
  ∀ (s : State) (c : Canal) (p : Packet), p.dst.toNat = s.node →
    let a := s.unbuffer c.val ⟨tyRead, p⟩
    let n := 8 * p.len.toNat
    let answered (g : State) (b : List Byte) : Prop :=
      exec (.readPacket c p) s = .next (g.reply ⟨tyReadRsp, { Packet.blank with dst := p.src, agent := p.agent, cls := p.cls, seq := p.seq, tag := p.tag, payload := b }⟩)
    let at' := bitsOf p.addr.toNat 45 0
    (∀ v, reservedBad ⟨tyRead, p⟩ = false → s.vdOfTag p.tag.toNat = some v → s.vdState v ≠ 2 → (s.vd v).frozen = false → s.confidential v = false →
      (∀ t o, addrSpad p.addr = some (t, o) → (s.spire t).vdid = v → o + n ≤ 0x400000 → anyPoison (s.spire t).poison o n = false →
        answered (a.readGranted (.spad t o) (some (canalRouter c.val)) p.cls.toNat n) ((s.spire t).spad.readN o n))
      ∧ (addrSpad p.addr = none → s.rangeIn v at' n false = true → (s.readBytes v at' n).2 = false → s.mayTouchAll false (s.placesOf v at' n) = true →
        ∃ g, answered g (s.readBytes v at' n).1 ∧ g.dev = s.dev ∧ g.net = s.net ∧ g.spires = s.spires))
    ∧ (∀ b e ask l r ret want got off len laddr o k, (s.unbuffer c.val ⟨tyPdata, p⟩).poolAnswer p = (some (e, ask), b) → ask.typ = tyPread → ask.sid = sidOf p →
        b.entryOf e ask.vd ask.sid = some l →
        s.mayTouchAll true (s.pdataPlaces p) = true → (b.engine e).runs.find? (PoolRun.reads ask.id) = some r →
        r.job = .read ret want got off len laddr → want.find? (fun y => decide (y.1 = ask.id)) = some (ask.id, o, k) → k = p.payload.length - 8 →
        (∃ y ∈ want, y.1 ≠ ask.id) → b.confidential ask.vd = false →
        ∃ t, exec (.pdata c p) s = .next t ∧ t.dev = (b.putBytes ask.vd (laddr + (o - off)) (p.payload.drop 8)).dev
          ∧ { r with job := .read ret (want.filter (fun y => decide (y.1 ≠ ask.id))) (got ++ [(o, p.payload.drop 8)]) off len laddr } ∈ (t.engine e).runs)
    ∧ (∀ b e ask l, (s.unbuffer c.val ⟨tyPaccept, p⟩).poolAnswer p = (some (e, ask), b) →
        let w (o n : Nat) : Nat := natLE ((p.payload.drop o).take n)
        b.entryOf e ask.vd (sidOf p) = some l → l.phase = .committing → l.xid = BitVec.ofNat 64 (w 8 8) → l.dest = p.src.toNat → l.slen = w 16 4 →
        l.staged = BitVec.ofNat 64 (w 24 8) →
        ∃ t m, exec (.paccept c p) s = .next t ∧ t.entryOf e ask.vd (sidOf p) = some m ∧ m.owner = p.src.toNat ∧ m.phase = .settled ∧ m.crc = l.staged ∧ m.len = l.len
          ∧ t.dev = s.dev)
    ∧ (∀ b e ask l, (s.unbuffer c.val ⟨tyPstatus, p⟩).poolAnswer p = (some (e, ask), b) → ask.typ = tyPcopy → (p.payload.getD 16 0) = 0 →
        b.entryOf e ask.vd ask.sid = some l → l.phase = .staging → l.xid = ask.xid → (∀ r ∈ (b.engine e).runs, ∀ ids, r.job ≠ .stage ids true) →
        ∃ t m, exec (.pstatus c p) s = .next t ∧ t.entryOf e ask.vd ask.sid = some m ∧ m.phase = .staged ∧ m.staged = BitVec.ofNat 64 (natLE ((p.payload.drop 24).take 8))
          ∧ m.owner = l.owner ∧ t.dev = s.dev)

/-- The pool command `c` of queue `q` goes on to its work in the engine of its virtual device (R271): it is next, the virtual device has an open job and is not frozen, no reserved
bit is set, it names a state and signals no fence; its context and the privileged slot of that are slots (R334, R401). `a` is the state with the command accepted. -/
def Sys2Proof.Claims.PoolGoes (s a : State) (q : Nat) (c : Cmd) (op v e : Nat) : Prop :=
  ∃ o, s.turn q 3 op = some (o, c) ∧ v = s.vdOfQueue o ∧ (s.vd v).frozen = false ∧ s.hasJob v = true ∧ c.raw.getLsbD 9 = false
    ∧ s.acceptCmd q o c none none = (true, { c with checked := true, sigf := if c.checked then c.sigf else none, waitf := if c.checked then c.waitf else none }, a)
    ∧ poolStray c = false ∧ (poolFields c).sid ≠ 0 ∧ e = a.engineOf v
    ∧ (∀ x, o.ctx = some x → x < 256 ∧ ∀ k, s.privSlot x = some k → k < 16)

/-- R272, R277, R278, R283: STAGE of a new state records it in the ledger with its bytes' CRC and a new transfer number; COMMIT of a staged transfer asks the destination to accept it;
ABORT and FREE end the transfer, FREE the entry too; GET and RETURN of a state held here copy its bytes in the step. No port that a command reads or writes through is
closed, and no GET of the state runs for COMMIT, RETURN and FREE (R283; log 204). -/
def Sys2Proof.Claims.PoolCommands : Prop :=
  ∀ (s a : State) (q : Qn) (c : Cmd) (v e : Nat),
    let f := poolFields c
    (PoolGoes s a q.val c 1 v e → a.entryOf e v f.sid = none → (a.engine e).ledger.length < 32768 → f.len % 64 = 0 → f.len ≠ 0 → f.laddr % 64 = 0 →
      a.rangeIn v f.laddr f.len false = true → a.confidential v = false → (a.readBytes v f.laddr f.len).2 = false → c.raw.getLsbD 8 = false →
      a.mayTouchAll false (a.placesOf v f.laddr f.len) = true →
      ∃ t l, exec (.poolStage q) s = .next t ∧ t.entryOf e v f.sid = some l ∧ l.owner = s.node ∧ l.dest = f.dest ∧ l.phase = .staging
        ∧ l.xid = (a.engine e).xid + 1 ∧ l.laddr = f.laddr ∧ l.len = f.len ∧ l.staged = BitVec.ofNat 64 (crc64 (a.readBytes v f.laddr f.len).1) ∧ t.dev = s.dev)
    ∧ (∀ l, PoolGoes s a q.val c 2 v e → a.entryOf e v f.sid = some l → l.phase = .staged → a.poolReading e v f.sid = false →
      ∃ t m, exec (.poolCommit q) s = .next t ∧ t.entryOf e v f.sid = some m ∧ m = { l with phase := .committing }
        ∧ (∃ k ∈ (t.engine e).asks, k.typ = tyPcommit ∧ k.node = l.dest ∧ k.sid = f.sid ∧ k.xid = l.xid) ∧ t.dev = s.dev)
    ∧ (∀ l, PoolGoes s a q.val c 3 v e → a.entryOf e v f.sid = some l → l.phase = .staging ∨ l.phase = .staged ∨ l.phase = .committing →
      (∀ r ∈ (a.engine e).runs, ¬ (r.queue = q.val ∧ r.cseq = c.seq)) → (a.engine e).abandons.length < 4096 →
      ∃ t m, exec (.poolAbort q) s = .next t ∧ t.entryOf e v f.sid = some m ∧ m.phase = .settled ∧ m.owner = l.owner ∧ Ended t q.val c Done.ok
        ∧ t.reg .plfail e = bumpCount (s.reg .plfail e) 1 ∧ t.dev = s.dev)
    ∧ (∀ l, PoolGoes s a q.val c 4 v e → a.entryOf e v f.sid = some l → l.phase ≠ .lost → f.len % 64 = 0 → f.len ≠ 0 → f.laddr % 64 = 0 → f.off % 64 = 0 →
      f.off + f.len ≤ l.len → a.rangeIn v f.laddr f.len true = true → l.owner = s.node → (a.readBytes v (l.laddr + f.off) f.len).2 = false →
      a.mayTouchAll false (a.placesOf v (l.laddr + f.off) f.len) = true → a.mayTouchAll true (a.placesOf v f.laddr f.len) = true →
      ∃ t, exec (.poolGet q) s = .next t ∧ t.dev = (a.putBytes v f.laddr (a.readBytes v (l.laddr + f.off) f.len).1).dev ∧ t.engines = s.engines
        ∧ Ended t q.val c Done.ok)
    ∧ (∀ l, PoolGoes s a q.val c 5 v e → a.entryOf e v f.sid = some l → l.phase = .settled → f.len = l.len → f.laddr % 64 = 0 →
      a.rangeIn v f.laddr f.len true = true → l.owner = s.node → (a.readBytes v l.laddr l.len).2 = false → l.mem = none →
      a.poolReading e v f.sid = false → a.mayTouchAll false (a.placesOf v l.laddr l.len) = true → a.mayTouchAll true (a.placesOf v f.laddr f.len) = true →
      ∃ t m, exec (.poolReturn q) s = .next t ∧ t.entryOf e v f.sid = some m ∧ m.laddr = f.laddr ∧ m.owner = l.owner ∧ m.phase = .settled
        ∧ t.dev = (a.putBytes v f.laddr (a.readBytes v l.laddr l.len).1).dev ∧ Ended t q.val c Done.ok)
    ∧ (∀ l, PoolGoes s a q.val c 6 v e → a.entryOf e v f.sid = some l → (∀ r ∈ (a.engine e).runs, ¬ (r.queue = q.val ∧ r.cseq = c.seq)) → a.poolReading e v f.sid = false →
      ∃ t, exec (.poolFree q) s = .next t ∧ t.entryOf e v f.sid = none ∧ Ended t q.val c Done.ok ∧ t.dev = s.dev)

/-- R270, R278, R280: a request unanswered for RSP is given up by its engine, though it stays outstanding, and the pool is unreachable if it owns a state here; an unreachable pool is probed with a QUERY of the first state it
owns; when it has stayed so for LOSS, every state it owns is lost. -/
def Sys2Proof.Claims.PoolTimers : Prop :=
  ∀ (s : State) (e : Tower) (pool : Node),
    (∀ k, (s.engine e.val).asks.find? (fun y => y.id = k.id) = some k → (∀ x ∈ s.fabric.peers.cells, x.2.waiting = []) →
      ∃ t, exec (.poolResponseTimeout e k.id) s = .next t ∧ (∀ r ∈ s.fabric.poolReqs, r ∈ t.fabric.poolReqs)
        ∧ (∀ y ∈ (t.engine e.val).asks, y.id ≠ k.id ∨ s.nextId ≤ y.id)
        ∧ ((s.engine e.val).ledger.any (fun l => decide (l.owner = k.node)) = true → k.node ∈ (t.engine e.val).unreachable) ∧ t.dev = s.dev)
    ∧ (∀ l, pool.toNat ∈ (s.engine e.val).unreachable → (s.engine e.val).ledger.find? (fun y => y.owner = pool.toNat && y.phase ≠ .lost) = some l →
      ∃ t, exec (.poolProbe e pool) s = .next t
        ∧ (∃ k ∈ (t.engine e.val).asks, k.id = s.nextId ∧ k.typ = tyPrule ∧ k.node = pool.toNat ∧ k.vd = l.vdid ∧ k.sid = l.sid) ∧ t.dev = s.dev)
    ∧ (pool.toNat ∈ (s.engine e.val).unreachable → (s.engine e.val).unreachable.Nodup → (∀ y ∈ (s.engine e.val).ledger, y.owner ≠ pool.toNat) →
      s.bit .cnpdown pool.toNat 0 = false → ∃ t, exec (.poolProbe e pool) s = .next t ∧ pool.toNat ∉ (t.engine e.val).unreachable ∧ t.dev = s.dev)
    ∧ (pool.toNat ∈ (s.engine e.val).unreachable →
      ∃ t, exec (.poolLoss e pool) s = .next t ∧ (∀ l ∈ (t.engine e.val).ledger, l.owner = pool.toNat → l.phase = .lost) ∧ t.dev = s.dev)

/-- STAGE, COMMIT, ABORT, GET, RETURN and FREE, and the timers of a pool. -/
def Obligations.Pools : Prop := Claims.PoolCommands ∧ Claims.PoolTimers

/-- Start-up has ended as R462 has it: the module runs, all ten steps done and charge granted to the south scheduler core with epoch 1 (R329); or it is held in reset, by
MOD_RST_L, by a supply out of range, by the switched flash bus (R526, R527, R529), or after step 3 for want of a firmware slot that verifies (R474); or its fuses spell SCRAPPED and it
never leaves reset (R436). -/
def Sys2Proof.Claims.StartEnds (t : State) : Prop :=
  (t.power.life = .running ∧ t.fld .sustat 0 3 0 = 10 ∧ t.fld .chg 0 0 0 = 1 ∧ t.reg .chgepoch 0 = 1)
  ∨ (t.power.life = .held ∧ (t.power.modRst = true ∨ t.power.low = true ∨ t.power.flToJ12 = true ∨ t.fld .sustat 0 3 0 = 3))
  ∨ (t.power.life = .scrapped ∧ (decodeFuses (logicalFuses t.sec.fuses)).1 = 5)

/-- What outlasts a cold reset: fuses, owner digest, serial number, flash, the levels of the lines outside, and the meter island (R447, R457, R496). -/
def Sys2Proof.Claims.Outlasts (s t : State) : Prop :=
  t.sec.fuses = s.sec.fuses ∧ t.sec.ownerd = s.sec.ownerd ∧ t.sec.serial = s.sec.serial ∧ t.fw.flash = s.fw.flash ∧ t.power.perst = s.power.perst
    ∧ t.power.cables = s.power.cables

/-- R158, R447, R452, R526: 54 V and its faults. Removed, it leaves every register at reset but BSPARE, and memory empty; an overcurrent opens the switch; a trip turns the rails off until
it is removed and closes the open jobs; below 44 V or above 60 V a cold reset is held, in which BTIME goes on; above 65 V, where the spec gives no state, the model stops. -/
def Obligations.PowerFaults : Prop :=
  ∀ (s : State),
    (∃ t, exec .v54Removed s = .next t ∧ t.power.life = .off ∧ Outlasts s t ∧ (∀ r i, i < 2 ^ 20 → r ≠ .bspare → t.reg r i = rstAt r i)
      ∧ (∀ i, i < 2 ^ 20 → t.reg .bspare i = s.reg .bspare i) ∧ (∀ n, t.spire n = Spire.reset n) ∧ t.dev = .zero)
    ∧ (s.power.life ≠ .off → ∃ t, exec .overcurrent s = .next t ∧ t.power.life = .opened ∧ Outlasts s t ∧ (∀ n, t.spire n = Spire.reset n) ∧ t.dev = .zero)
    ∧ (s.powered = true →
        ∃ t, exec .thermalTrip s = .next t ∧ t.power.life = .tripped ∧ t.power.therm = true ∧ Outlasts s t ∧ t.reg .btime 0 = s.reg .btime 0
          ∧ (∀ j ∈ t.meter.jobs, j.closed.isSome = true) ∧ (∀ n, t.spire n = Spire.reset n))
    ∧ (s.powered = true →
        ∃ t, exec .undervoltage s = .next t ∧ t.power.life = .held ∧ t.power.low = true ∧ Outlasts s t ∧ t.reg .btime 0 = s.reg .btime 0
          ∧ (∀ n, t.spire n = Spire.reset n) ∧ (∀ mV, 60000 < mV → mV ≤ 65000 → exec (.overvoltage mV) s = .next t))
    ∧ (∀ mV, (mV ≤ 60000 → exec (.overvoltage mV) s = .next s) ∧ (65000 < mV → exec (.overvoltage mV) s = .fault .absoluteMaximum))

/-- R436, R462, R474, R526, R527, R529, R525: 54 V applied, or back in range, runs start-up. It ends as `StartEnds` says; at once in reset while MOD_RST_L is low or the flash bus is switched to J12; in reset
after step 3 where the flash cannot be read; and where the fuses spell SCRAPPED. The address straps are read when 54 V is applied. -/
def Obligations.StartUp : Prop :=
  ∀ (s : State) (b : BringUp),
    (s.power.life = .off ∨ s.power.life = .held → ∃ t, exec (.powerUp b) s = .next t ∧ StartEnds t
      ∧ (s.power.modRst = true ∨ b.flHoldLow = true → t.power.life = .held ∧ t.bmcAddress = 0x40 + b.addr.toNat ∧ t.dev = .zero)
      ∧ (s.power.modRst = false → b.flHoldLow = false →
          (decodeFuses (logicalFuses s.sec.fuses) = (5, 0) → t.power.life = .scrapped)
          ∧ ((decodeFuses (logicalFuses s.sec.fuses)).1 ≠ 5 → b.flashOk = false → t.power.life = .held ∧ t.fld .sustat 0 3 0 = 3 ∧ t.bmcAddress = 0x40 + b.addr.toNat)))
    ∧ (s.power.low = true → s.powered = true → ∃ t, exec (.v54Restored b) s = .next t ∧ t.power.low = false ∧ StartEnds t)

/-- R462, R463, R470, R520, R527: the reset line holds a cold reset and, released, lets start-up run; PERST_L and the link of a host port; a cable seated lets an enabled canal train,
and one removed puts it DOWN,
where a canal that carried flits stays until a device reset (R243). -/
def Obligations.PinEvents : Prop :=
  ∀ (s : State) (b : BringUp) (p : Port) (c : Canal),
    (s.powered = true → ∃ t, exec .modRstAssert s = .next t ∧ t.power.modRst = true ∧ t.power.life = .held ∧ Outlasts s t ∧ t.dev = s.dev)
    ∧ (s.power.modRst = true → s.powered = true → ∃ t, exec (.modRstRelease b) s = .next t ∧ StartEnds t ∧ t.power.modRst = false)
    ∧ (∃ t, exec (.perstAssert p) s = .next t ∧ t.power.perst = s.power.perst.set p.val false ∧ t.power.linkUp = s.power.linkUp.set p.val false
        ∧ (s.running = false → t.regs = s.regs ∧ t.objs = s.objs))
    ∧ exec (.perstRelease p) s = .next { s with power := { s.power with perst := s.power.perst.set p.val true } }
    ∧ (s.running = true → s.power.perst.getD p.val false = true → (s.fw.hostCfg.getD p.val (63, 0, false)).2.2 = false →
        exec (.hostLinkUp p) s = .next { s with power := { s.power with linkUp := s.power.linkUp.set p.val true } })
    ∧ (s.bit .cncfg c.val 0 = true → s.canalState c.val = 0 → (s.link c.val).spent = false →
        ∃ t, exec (.cableSeated c) s = .next t ∧ t.power.cables = s.power.cables ||| (1#24 <<< c.val) ∧ t.canalState c.val = 1 ∧ t.link c.val = .reset)
    ∧ (∃ t, exec (.cableRemoved c) s = .next t ∧ t.power.cables = s.power.cables &&& ~~~(1#24 <<< c.val) ∧ t.canalState c.val = 0
        ∧ ((∀ k ∈ (s.link c.val).out, k.origin = none) → t.link c.val = { Link.reset with spent := s.canalUsable c.val || (s.link c.val).spent })
        ∧ t.dev = s.dev ∧ t.spires = s.spires)

/-- R59, R493, R496, R497, R498, R503: resets. A spire that no virtual device holds is zeroed and free; a cluster's or a slice's spires are reset likewise; a virtual device's reset raises its
generation, discards its kernels and saved records, and leaves it in reset (STATE 2), where a further reset merges with the one that runs; a tower's resets every virtual device with a resource in it; a warm reset every active one; a cold
reset starts the module again. -/
def Sys2Proof.Claims.Resets : Prop :=
  ∀ (s : State) (b : BringUp),
    (∀ n : Sp, (s.spire n.val).vdid = 0x3F → (s.spire n.val).retired = false → s.bit .rldump 0 0 = false →
      ∃ t, exec (.spireReset n) s = .next t ∧ t.spire n.val = (s.spire n.val).zeroed n.val ∧ (∀ m, m ≠ n.val → t.spire m = s.spire m)
        ∧ t.reg .rlrst 0 = bumpCount (s.reg .rlrst 0) 1 ∧ t.dev = s.dev)
    ∧ (∀ k : Fin 16, (∀ n, n / 16 = k.val → (s.spire n).vdid = 0x3F ∧ (s.spire n).retired = false) → s.bit .rldump 0 0 = false →
      ∃ t, exec (.clusterReset k) s = .next t ∧ (∀ n, n / 16 = k.val → t.spire n = (s.spire n).zeroed n) ∧ (∀ l ∈ t.trans.leaves, l.cache ≠ k.val)
        ∧ t.reg .rlrst 1 = bumpCount (s.reg .rlrst 1) 1 ∧ t.dev = s.dev)
    ∧ (∀ (v : Vd) (n : Nat) (sl : Slice), (s.vd v.val).slice? n = some sl → sl.leaving = none → s.bit .rldump 0 0 = false → (s.vd v.val).frozen = true →
      (∀ m ∈ sl.spires, (s.spire m).vdid = v.val ∧ (s.spire m).retired = false) → (∀ x ∈ (s.vd v.val).slices, x.leaving = none) →
      ∃ t, exec (.sliceReset v n) s = .next t ∧ (∀ m ∈ sl.spires, t.spire m = (s.spire m).zeroed m) ∧ (∀ m, m ∉ sl.spires → t.spire m = s.spire m)
        ∧ t.reg .rlrst 2 = bumpCount (s.reg .rlrst 2) 1 ∧ t.dev = s.dev)
    ∧ (∀ v : Vd, s.vdState v.val = 2 → exec (.vdReset v) s = .next s)
    ∧ (∀ v : Vd, s.vdState v.val = 1 →
      ∃ t, exec (.vdReset v) s = .next t ∧ t.vdState v.val = 2 ∧ (t.vd v.val).gen = (s.vd v.val).gen + 1 ∧ (t.vd v.val).saves = [] ∧ (∀ d ∈ t.dispatches, d.vd ≠ v.val)
        ∧ (∀ u, u ≠ v.val → (t.vd u).gen = (s.vd u).gen) ∧ t.reg .rlrst 3 = bumpCount (s.reg .rlrst 3) 1)
    ∧ (∀ w : Tower, ∃ t, exec (.towerReset w) s = .next t
        ∧ (∀ v, v < 63 → s.vdState v = 1 → (t.vd v).gen = (s.vd v).gen + (if s.vdInTower v w.val then 1 else 0))
        ∧ (∀ n, towerOfSpire n = w.val → n < 256 → (s.spire n).vdid = 0x3F → t.spire n = (s.spire n).zeroed n)
        ∧ t.reg .rlrst 4 = bumpCount (s.reg .rlrst 4) 1)
    ∧ (s.running = true → b.failedCrossings = [] →
        ∃ t, exec (.warmDeviceReset b) s = .next t ∧ (∀ v, v < 63 → s.vdState v = 1 → (t.vd v).gen = (s.vd v).gen + 1) ∧ t.power.linkUp = [false, false]
          ∧ t.reg .rlrst 5 = bumpCount (s.reg .rlrst 5) 1 ∧ t.bit .chg 0 1 = false)
    ∧ (s.powered = true → ∃ t, exec (.coldDeviceReset b) s = .next t ∧ StartEnds t)
    ∧ (∀ n : Sp, ∃ t, exec (.sampleAbandon n) s = .next t ∧ n.val ∈ t.unsampled ∧ t.reg .rldlost 0 = bumpCount (s.reg .rldlost 0) 1 ∧ t.spires = s.spires)

/-- R350, R502, R509: the DRAIN of a dying context that has run out ends it: its commands and kernels are discarded and, with nothing of it left, its slot is free. A work command's timer ends it
TIMEOUT and resets its virtual device. -/
def Sys2Proof.Claims.TimersOfCommands : Prop :=
  (∀ (s : State) (c : Fin 256) (x : Ctx), s.objs.ctxs.live.find? c.val = some x → x.dying = true → x.head.freed = false →
    (∀ sl ∈ (s.vd x.vd).slices, ∀ n ∈ sl.spires, ∀ k, (s.spire n).kernel = some k → k.ctx ≠ c.val) →
    ∃ t, exec (.teardownDrainExpiry c) s = .next t
      ∧ (∀ y, t.objs.ctxs.live.find? c.val = some y → y.head.freed = true) ∧ (∀ d ∈ t.dispatches, d.ctx ≠ c.val)
      ∧ (∀ r ∈ (t.vd x.vd).saves, r.kernel.ctx ≠ c.val) ∧ t.dev = s.dev)
  ∧ (∀ (s : State) (q : Qn) (o : QueueObj) (c : Cmd), s.objs.queues.live.find? q.val = some o → o.kind = 1 ∨ o.kind = 2 → c ∈ o.cmds → c.stage = .started →
    o.cmds.find? (fun y => y.seq = c.seq) = some c → s.vdOfQueue o < 63 → s.vdState (s.vdOfQueue o) = 1 → (s.vd (s.vdOfQueue o)).frozen = false → (s.vd (s.vdOfQueue o)).saves = [] →
    ∃ t, exec (.commandTimeout (.queue q c.seq)) s = .next t ∧ (t.vd (s.vdOfQueue o)).gen = (s.vd (s.vdOfQueue o)).gen + 1
      ∧ Ended t q.val c ⟨stTimeout, 0, 0, s.errStatus kindTimeout 0⟩ ∧ t.reg .rlto 0 = bumpCount (s.reg .rlto 0) 1)

/-- Resets of every domain, and the timers that end commands. -/
def Obligations.ResetsAndTimers : Prop := Claims.Resets ∧ Claims.TimersOfCommands

/-- R237, R317, R319, R320, R321, R323: queues. A doorbell within the ring moves the producer, or waits for the function's BAR4 writes; a command fetched from a ring in host memory joins its queue; the
completion of the command at QDONE is written to the ring, and the command leaves; the consumer moves; the moderation interval ends with one message for all it covers. -/
def Obligations.HostQueues : Prop :=
  ∀ (s : State) (fn : Fn) (q : Qn) (v : W64) (o : QueueObj),
    let n := q.val
    let f := fn.val
    s.objs.queues.live.find? n = some o →
    (s.fnExists f = true → s.ownsQueue f n = true →
      (seqAfter v (s.reg .qcprod n) = true → seqAfter v (s.reg .qccons n + BitVec.ofNat 64 (2 ^ s.fld .qcfg n 4 0)) = false → seqBehind v (s.reg .qccons n) = false →
        (s.bar4Unlanded f = [] → exec (.doorbell fn q 0 8 v) s = .next (s.setReg .qcprod n v))
        ∧ (s.bar4Unlanded f ≠ [] → exec (.doorbell fn q 0 8 v) s = .next { s with bells := s.bells ++ [⟨f, n, v, s.bar4Unlanded f⟩] }))
      ∧ (seqAfter v (s.reg .qkcons n) = true → seqAfter v (s.reg .qkprod n) = false →
        exec (.completionConsumerWrite fn q 8 v) s = .next (s.setReg .qkcons n v))
      ∧ (∀ w, w ≠ 8 → ∃ t, exec (.completionConsumerWrite fn q w v) s = .next t ∧ t.reg .fndberr f = bumpCount (s.reg .fndberr f) 1 ∧ t.objs = s.objs))
    ∧ (∀ b : List Byte, s.mayFetch n o = true → o.ctx = none → s.bit .qcbase n 0 = false → b.length = 64 →
        ∃ t p c, exec (.commandFetch q (.data b)) s = .next t ∧ t.objs.queues.live.find? n = some p ∧ p = { o with cmds := o.cmds ++ [c] }
          ∧ c.seq = s.reg .qccons n ∧ c.raw = BitVec.ofNat 512 (natLE b) ∧ c.stage = .waiting ∧ t.reg .qccons n = s.reg .qccons n + 1)
    ∧ (s.mayFetch n o = true → o.ctx = none → s.bit .qcbase n 0 = false →
        ∃ t, exec (.commandFetch q .busError) s = .next t ∧ t.fld .qstat n 1 0 = 3 ∧ t.fld .qstat n 15 8 = 3 ∧ t.objs = s.objs)
    ∧ (∀ c d, o.cmds = [c] → c.seq = s.reg .qdone n → c.stage = .done d → c.holds = [] → o.kind = 0 → o.ctx = none → o.head.freed = false → s.bit .qkbase n 0 = false →
        s.fld .qstat n 1 0 = 1 → (∀ x ∈ s.vds.cells, x.2.freezer = none) →
        ∃ t p, exec (.commandRetire ⟨q, false⟩) s = .next t ∧ t.objs.queues.live.find? n = some p ∧ p.cmds = []
          ∧ t.reg .qkprod n = s.reg .qkprod n + 1 ∧ t.reg .qdone n = s.reg .qdone n + 1
          ∧ (∀ i, i < 32 → (t.hostOf (o.fn / 64)).read ((s.reg .qkbase n).get 63 6 * 64 + 32 * ((s.reg .qkprod n).toNat % 2 ^ s.fld .qcfg n 9 5) + i)
              = (bytesLE 8 (s.reg .qkprod n).toNat ++ bytesLE 8 (s.reg .qdone n).toNat ++ bytesLE 4 d.handle.toNat ++ bytesLE 1 d.status ++ [0] ++ bytesLE 2 n
                  ++ bytesLE 8 d.value.toNat).getD i 0)
          ∧ t.dev = s.dev)
    ∧ (o.moderating = true →
        ∃ t p, exec (.msixModerationExpiry q) s = .next t ∧ t.objs.queues.live.find? n = some p ∧ p.moderating = o.owed ∧ p.owed = false
          ∧ (o.owed = true → t.msix.get 0 (256 * o.fn + s.fld .qcfg n 17 10) = s.msix.get 0 (256 * o.fn + s.fld .qcfg n 17 10) + 1)
          ∧ (o.owed = false → t.msix = s.msix))

/-- R322, R325, R340: the function page. The status ring's base and control are taken while it is not enabled, its consumer under the rule of K; a control queue is created from its bases with sizes 6 to 16
and runs; the firmware ring pointers move within their rings. -/
def Sys2Proof.Claims.FunctionPage : Prop :=
  ∀ (s : State) (fn : Fn) (v : W64),
    let f := fn.val
    s.fnExists f = true →
    (s.bit .fsctl f 16 = false →
      (exec (.statusRingEnable fn 0 v) s = .next (s.setReg .fsbase f (BitVec.ofNat 64 (v.get 63 12 * 4096))))
      ∧ (v.getLsbD 16 = true → 6 ≤ v.get 3 0 → v.get 3 0 ≤ 12 → s.lost.get 0 f = 0 → s.owed.get [] f = [] →
          ∃ t, exec (.statusRingEnable fn 8 v) s = .next t ∧ t.reg .fsctl f = (v &&& 0x1FF0F#64) ∧ t.hostMem = s.hostMem ∧ t.objs = s.objs))
    ∧ (s.bit .fsctl f 16 = true → ∃ t, exec (.statusRingEnable fn 0 v) s = .next t ∧ t.reg .fsbase f = s.reg .fsbase f ∧ t.reg .fsctl f = s.reg .fsctl f
        ∧ t.reg .fndberr f = bumpCount (s.reg .fndberr f) 1)
    ∧ (s.bit .fsctl f 16 = true → seqAfter v (s.reg .fscons f) = true → seqAfter v (s.reg .fsprod f) = false → s.lost.get 0 f = 0 →
        exec (.statusConsumerWrite fn v) s = .next (s.setReg .fscons f v))
    ∧ (s.objs.queues.live.find? f = none →
      (∃ t, exec (.controlQueueCreate fn 0x28 v) s = .next t ∧ (t.objs.page.get (0, 0) f).1 = v ∧ t.regs = s.regs)
      ∧ (v.get 63 19 = 0 → v.getLsbD 18 = true → 6 ≤ v.get 4 0 → v.get 4 0 ≤ 16 → 6 ≤ v.get 9 5 → v.get 9 5 ≤ 16 → v.get 17 10 < (if f % 64 = 0 then 256 else 64) →
          ∃ t o, exec (.controlQueueCreate fn 0x38 v) s = .next t ∧ t.objs.queues.live.find? f = some o ∧ o.kind = 0 ∧ o.fn = f ∧ o.cmds = [] ∧ o.ctx = none
            ∧ t.reg .qcbase f = ((s.objs.page.get (0, 0) f).1 &&& ~~~0x3E#64) ∧ t.reg .qkbase f = ((s.objs.page.get (0, 0) f).2 &&& ~~~0x3E#64)
            ∧ t.fld .qstat f 1 0 = 1 ∧ t.reg .qcprod f = 0 ∧ t.fld .qcfg f 4 0 = v.get 4 0 ∧ t.fld .qcfg f 9 5 = v.get 9 5 ∧ t.fld .qcfg f 17 10 = v.get 17 10))
    ∧ (f % 64 = 0 →
      (seqAfter v (s.fw.reqProd.getD (f / 64) 0) = true → seqAfter v (s.fw.reqCons.getD (f / 64) 0 + 256) = false →
        exec (.fwRequestProducer fn v) s = .next (s.setFw { s.fw with reqProd := s.fw.reqProd.set (f / 64) v }))
      ∧ (seqAfter v (s.fw.rspCons.getD (f / 64) 0) = true → seqAfter v (s.fw.rspProd.getD (f / 64) 0) = false →
        exec (.fwResponseConsumer fn v) s = .next (s.setFw { s.fw with rspCons := s.fw.rspCons.set (f / 64) v })))

/-- R5, R315, R324, R326: BAR0 and BAR4. An 8-byte read shows the word; a 4-byte read of a low half latches the high half for the next; a host's write outside its own counters is ignored and counted, firmware's
is merged under the register's access kinds, or ignored whole where its chapter says so; EXPECT of a barrier entry waits for the release of the round (R208). A BAR4 read of a mapped granule shows its bytes, of a
poisoned one all ones with the completion's EP bit, and of an unmapped one all ones, counted; a BAR4 write becomes a request. -/
def Sys2Proof.Claims.BarAccesses : Prop :=
  ∀ (s : State) (fn : Fn) (off : Nat),
    let f := fn.val
    s.fnExists f = true →
    (off < 0x4000000 → off % 8 = 0 →
      exec (.bar0ReadLatch fn off 8) s = .next { s with shown := bytesLE 8 (s.bar0Word f off).toNat }
      ∧ ∃ t, exec (.bar0ReadLatch fn off 4) s = .next t ∧ t.shown = bytesLE 4 (s.bar0Word f off).toNat
          ∧ (latching off = true ∨ s.latches.find? (2 ^ 26 * f + off + 4) = none →
              ∃ u, exec (.bar0ReadLatch fn (off + 4) 4) t = .next u ∧ u.shown = bytesLE 4 ((s.bar0Word f off).toNat / 2 ^ 32)))
    ∧ (∀ v, 0x1000 ≤ off → off % 8 = 0 → (f % 64 ≠ 0 ∨ off < 0x2000000 ∨ 0x2008000 ≤ off) →
        ∃ t, exec (.registerWrite (.host fn) off v) s = .next t ∧ t.reg .fnwign f = bumpCount (s.reg .fnwign f) 1 ∧ t.fw = s.fw ∧ t.spires = s.spires)
    ∧ (∀ v r i, off % 8 = 0 → bar0Regs off = [(r, i, 0)] → r ≠ .chcfg → r ≠ .fscfg → r ≠ .tgctl → r ≠ .mnsnap → r ≠ .pwmoor → r ≠ .cncfg → r ≠ .nbar →
        off < 0x4000000 → (r = .nvdcfg → s.confidential i = false) → s.writeIgnored r i (mergeWrite r true (s.reg r i) v (BitVec.allOnes 64)) = false →
        exec (.registerWrite .firmware off v) s = .next (s.setReg r i (mergeWrite r true (s.reg r i) v (BitVec.allOnes 64))))
    ∧ (∀ v r i, off % 8 = 0 → off < 0x4000000 → bar0Regs off = [(r, i, 0)] → r ≠ .tgctl →
        s.writeIgnored r i (mergeWrite r true (s.reg r i) v (BitVec.allOnes 64)) = true → exec (.registerWrite .firmware off v) s = .next s)
    ∧ (∀ v i, off % 8 = 0 → off < 0x4000000 → bar0Regs off = [(.nbar, i, 0)] → i < 512 →
        s.writeIgnored .nbar i (mergeWrite .nbar true (s.reg .nbar i) v (BitVec.allOnes 64)) = false →
        ∃ t, exec (.registerWrite .firmware off v) s = .next t ∧ t.fld .nbar i 14 0 = v.get 14 0
          ∧ ((s.round i).arrived ≠ [] → t.fld .nbar i 23 15 = s.fld .nbar i 23 15 ∧ t.round i = { s.round i with held := some (.expect (v.get 23 15)) })
          ∧ ((s.round i).arrived = [] → (s.round i).held = none → t.fld .nbar i 23 15 = v.get 23 15 ∧ t.net = s.net))
    ∧ (∀ n g, s.bar4Cuts f off n = [g] →
        (∀ named p v, s.bar4At f g.1 false = .at named p v → s.mayTouch false p g.2 = true →
          (anyPoison s.devPoison p g.2 = false → exec (.bar4Read fn off n) s = .next { s with shown := s.dev.readN p g.2, ep := false })
          ∧ (anyPoison s.devPoison p g.2 = true →
            ∃ t, exec (.bar4Read fn off n) s = .next t ∧ t.shown = List.replicate n 0xFF ∧ t.ep = true ∧ t.reg .fnpois f = bumpCount (s.reg .fnpois f) 1 ∧ t.dev = s.dev))
        ∧ (∀ i v, s.bar4At f g.1 false = .unmapped i v →
          ∃ t, exec (.bar4Read fn off n) s = .next t ∧ t.shown = List.replicate g.2 0xFF ∧ t.ep = false ∧ t.reg .fnunmap f = bumpCount (s.reg .fnunmap f) 1 ∧ t.dev = s.dev))
    ∧ (∀ (d : List Byte) g named p v, s.bar4Cuts f off d.length = [g] → s.bar4At f g.1 true = .at named p v →
        ∃ t, exec (.bar4Write fn off d) s = .next t ∧ t.dev = s.dev ∧ t.hostWrites = s.hostWrites ++ [⟨s.nextId, f, named, v, s.nextId, false⟩]
          ∧ (∃ r ∈ t.net.reqs, r.id = s.nextId ∧ r.agent = .host f ∧ r.vd = v ∧ r.target = .dev p ∧ r.kind = .write ((d.drop (g.1 - off)).take g.2)))

/-- The function page, BAR0 and BAR4. -/
def Obligations.HostPages : Prop := Claims.FunctionPage ∧ Claims.BarAccesses

/-- R311, R312, R328, R331: module commands and functions. REG_WRITE of a function counter writes it; PEER_RESET clears DOWN and sends RESYNC; CHARGE_MOVE gives the charge to the other scheduler core with the
next epoch. A reset VF has its block at reset and no control queue; a PF's reset and a link-down take its VFs with it; VFs 1 to n are enabled. -/
def Obligations.FunctionsAndModuleCommands : Prop :=
  ∀ (s : State) (q : Qn) (o : QueueObj) (c : Cmd),
    let a : Prop := s.noScheduler = false ∧ s.bindRunning = false
    (∀ r, CtlGoes s q.val o c 0x20 true (byteMask [(8, 4), (16, 16)]) → a → cmdField c.raw 8 4 < 0x1000 → cmdField c.raw 8 4 % 8 = 0 →
      functionBlock[cmdField c.raw 8 4 / 8]? = some r → functionCounters.contains r = true →
      ∃ t, exec (.regWrite q) s = .next t ∧ Ended t q.val c Done.ok
        ∧ t.reg r o.fn = mergeWrite r false (s.reg r o.fn) (BitVec.ofNat 64 (cmdField c.raw 16 8)) (BitVec.ofNat 64 (cmdField c.raw 24 8)))
    ∧ (CtlGoes s q.val o c 0x21 true (byteMask [(8, 2)]) → a →
      let node := cmdField c.raw 8 2
      (s.bit .cnpdown node 0 = true → ∃ t, exec (.peerReset q) s = .next t ∧ t.reg .cnpdown node = 0 ∧ (t.peer node).synced = true ∧ Ended t q.val c Done.ok ∧ t.dev = s.dev)
      ∧ (s.bit .cnpdown node 0 = false → ∃ t, exec (.peerReset q) s = .next t ∧ t.fabric = s.fabric ∧ Ended t q.val c Done.ok ∧ t.dev = s.dev))
    ∧ (CtlGoes s q.val o c 0x22 true 0 → a → s.bit .chg 0 1 = false → s.procState (3 - s.fld .chg 0 0 0) = 1 →
      ∃ t, exec (.chargeMove q) s = .next t ∧ t.fld .chg 0 0 0 = 1 - s.fld .chg 0 0 0 ∧ t.reg .chgepoch 0 = s.reg .chgepoch 0 + 1 ∧ Ended t q.val c Done.ok)
    ∧ (∀ fn : Fn, s.fnExists fn.val = true →
      (fn.val % 64 ≠ 0 → ∃ t, exec (.functionLevelReset fn) s = .next t ∧ t.objs.queues.live.find? fn.val = none ∧ (∀ r ∈ functionBlock, t.reg r fn.val = rstAt r fn.val)
          ∧ (∀ b ∈ t.bells, b.fn ≠ fn.val) ∧ t.dev = s.dev)
      ∧ (fn.val % 64 = 0 → ∃ t, exec (.functionLevelReset fn) s = .next t ∧ (∀ j, j < 64 → t.objs.queues.live.find? (fn.val + j) = none) ∧ t.fw.vfs = s.fw.vfs.set (fn.val / 64) 0
          ∧ t.dev = s.dev))
    ∧ (∀ p : Port, ∃ t, exec (.linkDown p) s = .next t ∧ t.power.linkUp = s.power.linkUp.set p.val false ∧ t.fw.vfs = s.fw.vfs.set p.val 0
        ∧ (∀ j, j < 64 → t.objs.queues.live.find? (64 * p.val + j) = none) ∧ t.dev = s.dev)
    ∧ (∀ (p : Port) (n : Fin 64), n.val ≤ (s.fw.hostCfg.getD p.val (63, 0, false)).1 → s.fw.vfs.getD p.val 0 ≤ n.val →
        exec (.vfEnable p n) s = .next (s.setFw { s.fw with vfs := s.fw.vfs.set p.val n.val }))

/-- R334 to R339, R343, R344, R346, R350: objects made, shared and given up. A creation takes the slot that is free next and answers its handle; a destroyed context dies, and
the command ends when no queue of it is left at work; EXPORT sets the KEY; IMPORT and RELEASE count the references, and a fence or event source that nothing holds goes with the last. -/
def Obligations.ObjectsComeAndGo : Prop :=
  ∀ (s : State) (q : Qn) (o : QueueObj) (c : Cmd),
    let h := c.handle 8
    let w (a n : Nat) : Nat := cmdField c.raw a n
    (∀ i tt, CtlGoes s q.val o c 0x40 false (byteMask [(8, 1), (10, 2), (16, 8)]) → s.objs.ctxs.take 256 = some (i, tt) → s.bit .sustat 0 8 = false →
      s.vdActive (w 8 1) = true → s.vdState (w 8 1) ≠ 2 → s.granted' o.fn (w 8 1) = true → s.rootOk (BitVec.ofNat 64 (w 16 8)) = true → 1 ≤ w 10 2 → w 10 2 ≤ 10000 →
      ∃ t x, exec (.ctxCreate q) s = .next t ∧ t.objs.ctxs.live.find? i = some x ∧ x.fn = o.fn ∧ x.vd = w 8 1 ∧ x.root = BitVec.ofNat 64 (w 16 8) ∧ x.drain = w 10 2
        ∧ x.dying = false ∧ x.head.href = 1 ∧ Ended t q.val c (Done.ok 0 (handleOf tyCtx (s.objs.ctxs.gens.get 0 i) i)) ∧ t.dev = s.dev)
    ∧ (∀ x, CtlGoes s q.val o c 0x41 false (byteMask [(8, 4)]) → s.ctxNamed o h = some x →
      ∃ t, exec (.ctxDestroy q) s = .next t ∧ (∀ y, t.objs.ctxs.live.find? x = some y → y.dying = true) ∧ (s.queuesOf x = [] → Ended t q.val c Done.ok))
    ∧ (∀ x i tt, CtlGoes s q.val o c 0x42 false (byteMask [(8, 8), (32, 2)] ||| ((2 ^ 64 - 0x3F) <<< 128) ||| ((2 ^ 64 - 0x3F) <<< 192)) →
      s.ctxNamed o h = some x → s.objs.queues.take 4096 = some (i, tt) → i ≠ q.val → i < 4096 → 1 ≤ w 12 1 → w 12 1 ≤ 3 → ringsOk o.fn (w 13 1) (w 14 1) (w 15 1) = true →
      w 32 2 ≤ 1023 →
      ∃ t n, exec (.qCreate q) s = .next t ∧ t.objs.queues.live.find? i = some n ∧ n.kind = w 12 1 ∧ n.ctx = some x ∧ n.fn = o.fn ∧ n.cmds = [] ∧ t.fld .qstat i 1 0 = 1
        ∧ t.reg .qcbase i = (BitVec.ofNat 64 (w 16 8) &&& ~~~0x3E#64) ∧ t.reg .qkbase i = (BitVec.ofNat 64 (w 24 8) &&& ~~~0x3E#64) ∧ t.fld .qcfg i 4 0 = w 13 1 ∧ t.fld .qcfg i 9 5 = w 14 1
        ∧ t.reg .qcprod i = 0 ∧ t.reg .qccons i = 0 ∧ Ended t q.val c (Done.ok 0 (handleOf tyQueue (s.objs.queues.gens.get 0 i) i)) ∧ t.dev = s.dev)
    ∧ (∀ x i tt, CtlGoes s q.val o c 0x46 false (byteMask [(8, 4), (12, 3), (16, 16)]) → s.ctxNamed o h = some x → s.objs.mems.take 262144 = some (i, tt) → w 12 1 ≤ 2 →
      w 12 1 = 2 ∨ (w 13 1 = 0 ∧ w 14 1 = 0) → s.memRangeOk (s.vdOfCtx x) (w 12 1) (w 13 1) (w 14 1) (w 16 8) (w 24 8) = true →
      ∃ t, exec (.memCreate q) s = .next t ∧ t.objs.mems.live.find? i = some ⟨newHead (s.objs.mems.gens.get 0 i) x, w 12 1, w 16 8, w 24 8, w 13 1, w 14 1⟩
        ∧ Ended t q.val c (Done.ok 0 (handleOf tyMem (s.objs.mems.gens.get 0 i) i)) ∧ t.regs = s.regs ∧ t.dev = s.dev)
    ∧ (∀ x, CtlGoes s q.val o c 0x46 false (byteMask [(8, 4), (12, 3), (16, 16)]) → s.ctxNamed o h = some x → w 12 1 = 0 → w 13 1 = 0 → w 14 1 = 0 →
      s.ownsRange (s.vdOfCtx x) (w 16 8) (w 24 8) = false →
      ∃ t, exec (.memCreate q) s = .next t ∧ t.objs.mems = s.objs.mems ∧ Ended t q.val c (s.failed stRange kindCommand 0) ∧ t.regs = s.regs ∧ t.dev = s.dev)
    ∧ (∀ x i tt, CtlGoes s q.val o c 0x49 false (byteMask [(8, 4), (16, 16)]) → s.ctxNamed o h = some x → s.objs.fences.take 16384 = some (i, tt) →
      normalValue (BitVec.ofNat 64 (w 16 8)) = true → w 24 8 % 16 = 0 →
      ∃ t, exec (.fenceCreate q) s = .next t ∧ t.objs.fences.live.find? i = some ⟨newHead (s.objs.fences.gens.get 0 i) x, BitVec.ofNat 64 (w 16 8), 0, w 24 8, .empty⟩
        ∧ Ended t q.val c (Done.ok 0 (handleOf tyFence (s.objs.fences.gens.get 0 i) i)) ∧ t.regs = s.regs ∧ t.dev = s.dev)
    ∧ (∀ x i tt, CtlGoes s q.val o c 0x4C false (byteMask [(8, 4), (12, 1), (16, 8)]) → s.ctxNamed o h = some x → s.objs.events.take 2048 = some (i, tt) →
      w 16 8 % 8 = 0 → o.vf = false ∨ w 12 1 < 64 →
      ∃ t, exec (.eventCreate q) s = .next t ∧ t.objs.events.live.find? i = some ⟨newHead (s.objs.events.gens.get 0 i) x, w 12 1, w 16 8, 0⟩
        ∧ Ended t q.val c (Done.ok 0 (handleOf tyEvent (s.objs.events.gens.get 0 i) i)) ∧ t.regs = s.regs ∧ t.dev = s.dev)
    ∧ (∀ y, CtlGoes s q.val o c 0x4E false (byteMask [(8, 8)]) → sharable (handleType h) = true → s.objs.head? (handleType h) (handleIndex h) = some y → y.freed = false →
      y.gen = handleGen h → s.fnHas o.fn y.owner = true →
      ∃ t z, exec (.exportObj q) s = .next t ∧ t.objs.head? (handleType h) (handleIndex h) = some z ∧ z.key = c.handle 12 ∧ z.href = y.href ∧ z.gen = y.gen
        ∧ Ended t q.val c Done.ok ∧ t.regs = s.regs ∧ t.dev = s.dev)
    ∧ (let k := c.handle 12
       ∀ x y, s.ctxNamed o h = some x → sharable (handleType k) = true → s.objs.head? (handleType k) (handleIndex k) = some y → y.freed = false → y.gen = handleGen k →
        (CtlGoes s q.val o c 0x4F false (byteMask [(8, 12)]) → y.key ≠ 0 → y.key = c.handle 16 → y.owner < 256 → y.owner ≠ x → s.vdOfCtx y.owner = s.vdOfCtx x → y.href < 65535 →
          ∃ t z, exec (.importObj q) s = .next t ∧ t.objs.head? (handleType k) (handleIndex k) = some z ∧ z.href = y.href + 1 ∧ z.imports = y.imports ++ [x]
            ∧ Ended t q.val c (Done.ok 0 k) ∧ t.regs = s.regs ∧ t.dev = s.dev)
        ∧ (CtlGoes s q.val o c 0x50 false (byteMask [(8, 12), (24, 8)]) → c.handle 16 = 0 → y.owner = x ∨ x ∈ y.imports →
          (2 ≤ y.href → (y.owner = x → y.imports.length < y.href) →
            ∃ t z, exec (.releaseObj q) s = .next t ∧ t.objs.head? (handleType k) (handleIndex k) = some z ∧ z.href = y.href - 1 ∧ z.freed = false
              ∧ Ended t q.val c (Done.ok 0) ∧ t.regs = s.regs ∧ t.dev = s.dev)
          ∧ (handleType k = tyFence ∨ handleType k = tyEvent → y.owner = x → y.imports = [] → y.href = 1 → y.dref = 0 → y.farewell = [] →
            ∃ t, exec (.releaseObj q) s = .next t ∧ t.objs.head? (handleType k) (handleIndex k) = none
              ∧ (handleType k = tyFence → t.objs.fences.gens.get 0 (handleIndex k) = (s.objs.fences.gens.get 0 (handleIndex k) + 1) % 1024)
              ∧ Ended t q.val c (Done.ok 1) ∧ t.dev = s.dev)))

/-- R324, R343, R344, R346, R347, R349, R351: what object commands do to queues, memory objects, fences and virtual devices: queues stopped, started and moved; apertures bound and unbound;
a fence linked, raised and cleared; a notification armed, or fired where its condition holds; grants; a virtual device frozen and thawed. -/
def Obligations.ObjectCommands : Prop :=
  ∀ (s : State) (q : Qn) (o : QueueObj) (c : Cmd),
    let h := c.handle 8
    let w (a n : Nat) : Nat := cmdField c.raw a n
    let ok (t : State) : Prop := Ended t q.val c Done.ok ∧ t.dev = s.dev
    (∀ i, s.objNamed o tyQueue h = some i → i ≠ q.val → i < 4096 →
      (CtlGoes s q.val o c 0x43 false (byteMask [(8, 4), (12, 1)]) → w 12 1 ≤ 1 → s.fld .qstat i 1 0 = 1 →
        ∃ t, exec (.qStop q) s = .next t ∧ t.fld .qstat i 1 0 = 2 ∧ Ended t q.val c (Done.ok (s.reg .qccons i)) ∧ t.dev = s.dev
          ∧ (w 12 1 = 1 → ∀ p, t.objs.queues.live.find? i = some p → ∀ y ∈ p.cmds, y.stage ≠ .waiting))
      ∧ (CtlGoes s q.val o c 0x44 false (byteMask [(8, 4)]) → s.fld .qstat i 1 0 = 2 →
        ∃ t, exec (.qStart q) s = .next t ∧ t.fld .qstat i 1 0 = 1 ∧ t.reg .qccons i = s.reg .qccons i ∧ ok t)
      ∧ (CtlGoes s q.val o c 0x45 false (byteMask [(8, 4), (16, 8)]) → s.fld .qstat i 1 0 = 2 ∨ s.fld .qstat i 1 0 = 3 → s.reg .qdone i = s.reg .qccons i →
        (let n := BitVec.ofNat 64 (w 16 8)
         seqAfter n (s.reg .qcprod i) = true →
         ∃ t, exec (.qReset q) s = .next t ∧ t.reg .qcprod i = n ∧ t.reg .qccons i = n ∧ t.reg .qdone i = n ∧ t.fld .qstat i 1 0 = 2 ∧ t.fld .qstat i 15 8 = 0 ∧ ok t)))
    ∧ (∀ i m, CtlGoes s q.val o c 0x47 false (byteMask [(8, 4), (12, 4), (16, 8)]) → s.objNamed o tyMem h = some i → s.mem? i = some m → m.kind ≠ 1 →
      s.confidential (s.vdOfCtx m.head.owner) = false → w 14 2 ≠ 0 → w 12 2 + w 14 2 ≤ 4096 → w 16 8 + w 14 2 * s.apertureBytes (o.fn / 64) ≤ m.len →
      (∀ k, k < w 14 2 → s.objs.aps.find? (4096 * o.fn + w 12 2 + k) = none) →
      ∃ t, exec (.memMap q) s = .next t ∧ ok t ∧ ∀ k, k < w 14 2 → t.objs.aps.find? (4096 * o.fn + w 12 2 + k)
        = some ⟨i, m.base + w 16 8 + k * s.apertureBytes (o.fn / 64), s.vdOfCtx m.head.owner,
            ((m.head.owner :: m.head.imports).find? (fun y => s.fnOfCtx y = o.fn)).getD m.head.owner⟩)
    ∧ (CtlGoes s q.val o c 0x48 false (byteMask [(12, 4)]) → w 12 2 + w 14 2 ≤ 4096 →
      (∀ k a m, k < w 14 2 → s.objs.aps.find? (4096 * o.fn + (w 12 2 + k)) = some a → s.mem? a.mem = some m → m.head.freed = false) →
      ∃ t, exec (.memUnmap q) s = .next t ∧ ok t ∧ (∀ k, k < w 14 2 → t.objs.aps.find? (4096 * o.fn + (w 12 2 + k)) = none)
        ∧ (∀ j, (∀ k, k < w 14 2 → j ≠ 4096 * o.fn + (w 12 2 + k)) → t.objs.aps.find? j = s.objs.aps.find? j))
    ∧ (∀ i f, s.objNamed o tyFence h = some i → s.fence i = some f →
      (CtlGoes s q.val o c 0x4A false (byteMask [(8, 4), (12, 2), (16, 4), (20, 1)]) → w 20 1 ≤ 3 → f.status = 0 →
        (c.handle 16 = 0 → ∃ t g, exec (.fenceLink q) s = .next t ∧ t.fence i = some g ∧ g.fwd = f.fwd.erase (w 20 1) ∧ g.value = f.value ∧ g.status = 0 ∧ ok t)
        ∧ (c.handle 16 ≠ 0 → s.isPeer (s.vdOfCtx f.head.owner) (w 12 2) = true →
          ∃ t g, exec (.fenceLink q) s = .next t ∧ t.fence i = some g ∧ g.fwd = f.fwd.set (w 20 1) (w 12 2, c.handle 16) ∧ g.value = f.value ∧ g.status = 0 ∧ ok t))
      ∧ (CtlGoes s q.val o c 0x4B false (byteMask [(8, 4), (16, 8)]) → normalValue (BitVec.ofNat 64 (w 16 8)) = true → f.value.toNat ≤ w 16 8 →
        ∃ t g, exec (.fenceReset q) s = .next t ∧ t.fence i = some g ∧ g.value = BitVec.ofNat 64 (w 16 8) ∧ g.status = 0 ∧ g.fwd = f.fwd ∧ t.net = s.net ∧ ok t
          ∧ (f.mirror = 0 → t.hostMem = s.hostMem))
      ∧ (∀ e ev, CtlGoes s q.val o c 0x4D false (byteMask [(8, 8), (16, 8)]) → s.objNamed o tyEvent (c.handle 12) = some e → s.objs.events.live.find? e = some ev →
        (f.answer (BitVec.ofNat 64 (w 16 8)) = none → s.objs.notes.length < 16384 →
          ∃ t, exec (.fenceNotify q) s = .next t ∧ t.objs.notes = s.objs.notes ++ [⟨i, e, BitVec.ofNat 64 (w 16 8)⟩] ∧ t.msix = s.msix ∧ ok t)
        ∧ (f.answer (BitVec.ofNat 64 (w 16 8)) ≠ none →
          ∃ t g, exec (.fenceNotify q) s = .next t ∧ t.objs.events.live.find? e = some g ∧ g.count = bumpCount ev.count 1 ∧ t.objs.notes = s.objs.notes ∧ ok t)))
    ∧ (let v := w 8 1
       s.vdActive v = true → s.vdState v ≠ 2 →
       (let g := 64 * (64 * (o.fn / 64) + w 9 1) + v
        1 ≤ w 9 1 → w 9 1 ≤ 63 →
        (CtlGoes s q.val o c 0x51 true (byteMask [(8, 2)]) → ∃ t, exec (.vdGrant q) s = .next t ∧ t.objs.grants = s.objs.grants.set g () ∧ ok t)
        ∧ (CtlGoes s q.val o c 0x51 true (byteMask [(8, 2)] ||| 1 <<< 80) → c.raw.getLsbD 80 = true →
          (∀ k ∈ s.objs.ctxs.live.cells, k.2.fn = 64 * (o.fn / 64) + w 9 1 → k.2.vd ≠ v) →
          ∃ t, exec (.vdGrant q) s = .next t ∧ t.objs.grants = s.objs.grants.erase g ∧ ok t))
       ∧ (CtlGoes s q.val o c 0x52 true (byteMask [(8, 1), (10, 2)]) → w 10 2 ≠ 0 → w 10 2 ≤ 60000 → (s.vd v).freezer = none → (s.vd v).frozen = false →
        ∃ t, exec (.vdFreeze q) s = .next t ∧ t.vd v = { s.vd v with frozen := true, freezer := some (q.val, c.seq) } ∧ t.spires = s.spires ∧ t.dev = s.dev
          ∧ (∃ p, t.objs.queues.live.find? q.val = some p ∧ ∃ y ∈ p.cmds, y.seq = c.seq ∧ y.stage = .started))
       ∧ (CtlGoes s q.val o c 0x55 true (byteMask [(8, 1)]) → (s.vd v).frozen = true → (s.vd v).freezer = none → s.freeSpires v = [] →
        ∃ t, exec (.vdThaw q) s = .next t ∧ t.vd v = { s.vd v with frozen := false } ∧ t.spires = s.spires ∧ ok t))

/-- The bind command `c` of queue `q` goes on to its work: it is next and no stray bit is set, a scheduler core is in service, no other bind or module command runs, the
module is not in recovery (R289, R292, R328). -/
def Sys2Proof.Claims.BindGoes (s : State) (q : Nat) (o : QueueObj) (c : Cmd) (op mask : Nat) : Prop :=
  CtlGoes s q o c op true mask ∧ s.noScheduler = false ∧ s.bindRunning = false ∧ s.bit .sustat 0 8 = false

/-- As `BindGoes`, of a command that names an active virtual device not in reset (R292, R308). -/
def Sys2Proof.Claims.BindOn (s : State) (q : Nat) (o : QueueObj) (c : Cmd) (op mask : Nat) : Prop :=
  BindGoes s q o c op mask ∧ s.vdActive c.vdid = true ∧ s.vdState c.vdid ≠ 2

/-- The command runs on. -/
def Sys2Proof.Claims.Started (t : State) (q : Nat) (c : Cmd) : Prop :=
  ∃ o, t.objs.queues.live.find? q = some o ∧ ∃ y ∈ o.cmds, y.seq = c.seq ∧ y.stage = .started

/-- R208, R290, R291, R294 to R297, R308: virtual devices and slices. VD_CREATE takes a free number with its settings and the next generation; VD_SET changes the settings; VD_DESTROY
gives everything up; SLICE_BIND takes spires; SLICE_UNBIND lets idle spires go at once and leaves busy ones their grace, at whose end they are pre-empted; GRACE_EXPIRY itself; peers and barrier entries. -/
def Obligations.VirtualDevicesAndSlices : Prop :=
  ∀ (s : State) (q : Qn) (o : QueueObj) (c : Cmd),
    let v := c.vdid
    let w (a n : Nat) : Nat := cmdField c.raw a n
    let settings (t : State) : Prop := t.fld .vdcfg v 3 3 = w 9 1 ∧ t.fld .vdcfg v 19 4 = (if w 14 2 = 0xFFFF then 50 else w 14 2) ∧ t.fld .nvdcfg v 7 0 = w 10 1
      ∧ t.fld .nvdcfg v 29 24 = w 11 1 ∧ t.fld .nvdcfg v 23 8 = w 12 2
    let ok (t : State) : Prop := Ended t q.val c Done.ok ∧ t.dev = s.dev
    (BindGoes s q.val o c 0x01 (byteMask [(1, 1), (8, 8), (20, 2), (24, 8)]) → v ≤ 62 → s.vdState v = 0 → w 8 1 = 0 → c.settingsOk = true → 1 ≤ w 20 2 → w 20 2 ≤ 512 →
      w 24 8 % 64 = 0 → w 24 8 < 2 ^ 52 → s.shares v + w 10 1 ≤ 256 →
      ∃ t, exec (.vdCreate q) s = .next t ∧ t.vdState v = 1 ∧ t.bit .vdcfg v 2 = false ∧ t.vd v = { VdState.reset with gen := (s.vd v).gen + 1, slots := w 20 2 }
        ∧ t.reg .vdsave v = BitVec.ofNat 64 (w 24 8) ∧ settings t ∧ (∀ u, u ≠ v → t.vd u = s.vd u) ∧ ok t)
    ∧ (BindOn s q.val o c 0x02 (byteMask [(1, 1), (9, 7)]) → c.settingsOk = true → s.shares v + w 10 1 ≤ 256 →
      ∃ t, exec (.vdSet q) s = .next t ∧ settings t ∧ t.vdState v = 1 ∧ t.vds = s.vds ∧ ok t)
    ∧ (BindGoes s q.val o c 0x03 (byteMask [(1, 1)]) → s.vdActive v = true → s.ctxOpen v = false → (s.vd v).freezer = none → (∀ x ∈ (s.vd v).slices, x.leaving = none) →
      (∀ k ∈ (s.vd v).carves.cells, k.2.sealed = false) → (∀ k ∈ s.evacs.cells, k.2.vd ≠ v) → (∀ j ∈ s.joins, j.opens = none) → (∀ k ∈ s.barges.cells, k.2.vd ≠ v) →
      (∀ k ∈ s.objs.queues.live.cells, k.2.ctx.isSome = true → s.vdOfQueue k.2 ≠ v) → (∀ e, (s.engine e).runs = [] ∧ ∀ l ∈ (s.engine e).ledger, l.vdid ≠ v) →
      ∃ t, exec (.vdDestroy q) s = .next t ∧ t.vdState v = 0 ∧ t.vd v = { VdState.reset with gen := (s.vd v).gen + (if s.vdState v = 2 then 0 else 1) } ∧ (∀ n, n < 256 → (t.spire n).vdid ≠ v)
        ∧ Ended t q.val c Done.ok)
    ∧ (let l := bitList (w 16 32) 256
       ∀ k, BindOn s q.val o c 0x04 (byteMask [(1, 2), (8, 3), (16, 32)]) → l ≠ [] → (∀ n ∈ l, s.spireRetired n = false ∧ (s.spire n).vdid = 0x3F) → s.bit .chg 0 1 = false →
        s.sliceTaken c.slice = false → s.saveCarve v = some k → k.sealed = false → s.saveLoad v + l.length ≤ (s.vd v).slots → (s.vd v).saves = [] → (∀ d ∈ s.dispatches, d.vd ≠ v) →
        ∃ t, exec (.sliceBind q) s = .next t ∧ t.vd v = { s.vd v with slices := (s.vd v).slices ++ [⟨c.slice, l, BitVec.ofNat 24 (w 8 3), none⟩] }
          ∧ (∀ n ∈ l, t.spire n = { s.spire n with vdid := v }) ∧ (∀ n, n ∉ l → t.spire n = s.spire n) ∧ t.fld .cnvdc v 23 0 = (t.vd v).canals % 2 ^ 24 ∧ ok t)
    ∧ (∀ sl, BindOn s q.val o c 0x05 (byteMask [(1, 2), (8, 2)]) → (s.vd v).slice? c.slice = some sl → sl.leaving = none → 0 < w 8 2 → w 8 2 < 0xFFFF →
      sl.spires ≠ [] → sl.spires.Nodup → (∀ n ∈ sl.spires, (s.spire n).vdid = v) →
      ((∀ n ∈ sl.spires, (s.spire n).run = .free) →
        ∃ t, exec (.sliceUnbind q) s = .next t ∧ (∀ n ∈ sl.spires, t.spire n = { (s.spire n).zeroed n with vdid := 0x3F }) ∧ (∀ n, n ∉ sl.spires → t.spire n = s.spire n) ∧ ok t)
      ∧ ((∀ n ∈ sl.spires, (s.spire n).run ≠ .free) →
        ∃ t u, exec (.sliceUnbind q) s = .next t ∧ t.spires = s.spires ∧ Started t q.val c ∧ (t.vd v).slice? c.slice = some { sl with leaving := some (q.val, c.seq, false) }
          ∧ (∀ x : Vd, x.val = v → exec (.graceExpiry x c.slice) t = .next u ∧ (u.vd v).slice? c.slice = some { sl with leaving := some (q.val, c.seq, true) }
            ∧ (∀ n ∈ sl.spires, (s.spire n).kernel.isSome = true → (s.spire n).run = .running → (u.spire n).run = .preempted ∧ (u.spire n).regs = (s.spire n).regs)
            ∧ (∀ n, n ∉ sl.spires → u.spire n = s.spire n))))
    ∧ (∀ (x : Vd) (n : Nat),
      (∀ sl y, (s.vd x.val).slice? n = some sl → sl.leaving = some y →
        ∃ u, exec (.graceExpiry x n) s = .next u ∧ (u.vd x.val).slice? n = some { sl with leaving := some (y.1, y.2.1, true) } ∧ u.dev = s.dev
          ∧ (∀ i ∈ sl.spires, (s.spire i).kernel.isSome = true → (s.spire i).run = .running →
            (u.spire i).run = .preempted ∧ (u.spire i).wait = .none ∧ (u.spire i).pc = (s.spire i).pc ∧ (u.spire i).regs = (s.spire i).regs ∧ (u.spire i).spad = (s.spire i).spad)
          ∧ (∀ i, i ∉ sl.spires → u.spire i = s.spire i))
      ∧ ((s.vd x.val).slice? n = none → (s.vd x.val).freezer.isSome = true →
        ∃ u, exec (.graceExpiry x n) s = .next u ∧ u.vds = s.vds ∧ u.dev = s.dev
          ∧ (∀ i ∈ s.vdSpires x.val, (s.spire i).kernel.isSome = true → (s.spire i).run = .running → (u.spire i).run = .preempted ∧ (u.spire i).regs = (s.spire i).regs)
          ∧ (∀ i, i ∉ s.vdSpires x.val → u.spire i = s.spire i)))
    ∧ (BindOn s q.val o c 0x0A (byteMask [(1, 1), (9, 1), (12, 48)]) → w 9 1 ≤ 12 → s.confidential v = false →
      (∀ i, i < 12 → (i < w 9 1 → w (12 + 4 * i) 2 ≤ w (14 + 4 * i) 2) ∧ (w 9 1 ≤ i → w (12 + 4 * i) 4 = 0)) → (s.vd v).peers.length + w 9 1 ≤ 32 →
      ∃ t, exec (.vdPeer q) s = .next t
        ∧ t.vd v = { s.vd v with peers := (s.vd v).peers ++ (upFrom 0 (w 9 1)).map (fun i => (w (12 + 4 * i) 2, w (14 + 4 * i) 2)) } ∧ ok t)
    ∧ (let mine (e : Nat) : Bool := s.bit .nbar e 0 && s.fld .nbar e 6 1 = v && s.fld .nbar e 14 7 = w 8 1
       BindOn s q.val o c 0x0B (byteMask [(1, 1), (8, 1), (10, 2)]) → w 10 2 ≤ 256 →
       (∀ e, (∀ i, i < 512 → mine i = false) → w 10 2 ≠ 0 → e < 512 → s.bit .nbar e 0 = false → (∀ i, i < e → s.bit .nbar i 0 = true) →
         ∃ t, exec (.vdBarrier q) s = .next t ∧ t.bit .nbar e 0 = true ∧ t.fld .nbar e 6 1 = v ∧ t.fld .nbar e 14 7 = w 8 1 ∧ t.fld .nbar e 23 15 = w 10 2 ∧ ok t)
       ∧ (∀ e, e < 512 → mine e = true → (∀ i, i < e → mine i = false) →
         (w 10 2 ≠ 0 → (s.round e).arrived = [] → (s.round e).held = none → ∃ t, exec (.vdBarrier q) s = .next t ∧ t.fld .nbar e 23 15 = w 10 2 ∧ t.net = s.net ∧ ok t)
         ∧ (w 10 2 = 0 → (s.round e).arrived = [] → ∃ t, exec (.vdBarrier q) s = .next t ∧ t.bit .nbar e 0 = false ∧ ok t)
         ∧ ((s.round e).arrived ≠ [] → ∃ t, exec (.vdBarrier q) s = .next t ∧ (t.round e).held = some (if w 10 2 = 0 then .removal else .expect (w 10 2)) ∧ (t.round e).arrived = (s.round e).arrived ∧ ok t)))

/-- R300 to R306: carve-outs and evacuation. A plaintext carve-out has its units at once, an encrypted one by their fills; sealing makes its units read-only; an evacuation copies its extent
chunk by chunk, and the switch puts the destination in the source's place and ends EVAC; an abort gives the destination back. -/
def Obligations.CarveOutsAndEvacuation : Prop :=
  (∀ (s : State) (q : Qn) (o : QueueObj) (c : Cmd),
    let v := c.vdid
    let w (a n : Nat) : Nat := cmdField c.raw a n
    let near := bitList (w 16 32) 256
    let far := bitList (w 48 8) 64
    let units := near ++ far.map (256 + ·)
    (BindOn s q.val o c 0x06 (byteMask [(1, 1), (9, 3), (16, 40)] ||| (7 <<< 24) ||| (1 <<< 64)) → units ≠ [] → w 9 1 = 0 → s.bit .chg 0 1 = false → s.unitsRefused v units = 0 →
      (∀ u ∈ units, s.filling u = false) →
      (∀ old, (s.vd v).carves.find? c.carve = old → (∀ k, old = some k → k.sealed = false ∧ k.enc = false ∧ k.key = 0) → c.raw.getLsbD 64 = false → s.confidential v = false →
        ∃ t k, exec (.carveBind q) s = .next t ∧ (t.vd v).carves.find? c.carve = some k ∧ k.enc = false ∧ k.sealed = false
          ∧ (∀ x, x ∈ k.extents ↔ (∃ y, old = some y ∧ x ∈ y.extents) ∨ (∃ ch ∈ near, x = (.channel ch, w 11 1)) ∨ (∃ e ∈ far, x = (.segment e, w 11 1)))
          ∧ (∀ ch ∈ near, t.fld .chcfg ch 1 0 = 1 ∧ t.fld .chcfg ch 7 2 = v ∧ t.fld .chcfg ch 23 17 = 0 ∧ t.bit .chcfg ch 8 = false ∧ t.bit .chcfg ch 24 = false)
          ∧ (∀ e ∈ far, t.fld .fscfg e 1 0 = 1 ∧ t.fld .fscfg e 7 2 = v ∧ t.fld .fscfg e 14 8 = 0 ∧ t.bit .fscfg e 15 = false)
          ∧ (∀ ch, ch < 256 → ch ∉ near → t.reg .chcfg ch = s.reg .chcfg ch) ∧ Ended t q.val c Done.ok ∧ t.dev = s.dev)
      ∧ (∀ n, (s.vd v).carves.find? c.carve = none → c.raw.getLsbD 64 = true → far = [] → s.freeKey = some n →
        ∃ t k, exec (.carveBind q) s = .next t ∧ (t.vd v).carves.find? c.carve = some k ∧ k.enc = true ∧ k.key = n ∧ (∀ u ∈ units, t.filling u = true)
          ∧ (∀ ch ∈ near, t.fld .chcfg ch 7 2 = v ∧ t.fld .chcfg ch 23 17 = n) ∧ (t.sec.keys.find? n).isSome = true ∧ Started t q.val c ∧ t.dev = s.dev))
    ∧ (∀ k, BindOn s q.val o c 0x07 (byteMask [(1, 1)] ||| (7 <<< 24)) → (s.vd v).carves.find? c.carve = some k → s.confidential v = false →
      (k.sealed = true → ∃ t, exec (.carveSeal q) s = .next t ∧ t.vds = s.vds ∧ t.regs = s.regs ∧ Ended t q.val c Done.ok)
      ∧ (k.sealed = false → s.saveCarve v ≠ some k →
        ∃ t, exec (.carveSeal q) s = .next t ∧ t.vd v = { s.vd v with carves := (s.vd v).carves.set c.carve { k with sealed := true } }
          ∧ (∀ x ∈ k.extents, (∀ ch, x.1 = .channel ch → ch < 256 → t.bit .chcfg ch 24 = true) ∧ (∀ e, x.1 = .segment e → e < 64 → t.bit .fscfg e 15 = true))
          ∧ Ended t q.val c Done.ok ∧ t.dev = s.dev))
    ∧ (∀ ext l dst e, BindOn s q.val o c 0x08 (byteMask [(1, 1), (8, 8)]) → w 8 1 ≤ 2 → c.evacStray = false → s.evacSource v (w 8 1) (w 9 1) = some (ext, l) →
      (∀ k ∈ s.evacs.cells, k.2.switched = true) → c.evacDest l = some dst → s.bit .chg 0 1 = false →
      (let ds := dst.map (fun d => if w 8 1 = 2 then 256 + d else d)
       s.unitsRefused v ds = 0 → (∀ u ∈ ds, s.filling u = false) → s.freeEvac = some e → (s.vd v).relocs.length < 16 →
       ∃ t, exec (.evac q) s = .next t ∧ Started t q.val c ∧ t.dev = s.dev ∧ t.regs = s.regs ∧ t.vds = s.vds
         ∧ t.evacs = s.evacs.set e ⟨v, ext, decide (w 8 1 = 2), l, dst, s.extentBytes ext / 2 ^ 20, Tab.empty.set 0 .copying, false, q.val, c.seq⟩))
    ∧ (∀ ext l e x, CtlGoes s q.val o c 0x09 true (byteMask [(1, 1), (8, 2)]) → s.noScheduler = false → s.bit .sustat 0 8 = false → s.vdActive v = true → s.vdState v ≠ 2 →
      s.evacSource v (w 8 1) (w 9 1) = some (ext, l) → s.evacs.cells = [(e, x)] → x.switched = false → x.vd = v → x.ext = ext →
      ∃ t, exec (.evacAbort q) s = .next t ∧ t.evacs.cells = [] ∧ (∀ d ∈ x.dst, t.filling (if x.far then 256 + d else d) = true) ∧ t.dev = s.dev
        ∧ (x.queue ≠ q.val → Ended t q.val c Done.ok)
        ∧ (∀ p, t.objs.queues.live.find? x.queue = some p → ∀ y ∈ p.cmds, y.seq = x.cseq → ∃ d, y.stage = .done d ∨ ∃ i, y.stage = .signalling d i)))
  ∧ (∀ (s : State) (e : Fin 4) (x : Evac), s.evacs.find? e.val = some x → x.switched = false →
    (∀ k, x.chunks.find? k = some .copying →
      let free : Bool := (x.piecesOf k).all (fun p => ! s.portHeld (portOf p.1) && ! s.portHeld (portOf p.2.1))
      (free = false → ∃ t, exec (.evacChunkDone e k) s = .next t ∧ t.evacs = s.evacs ∧ t.regs = s.regs ∧ t.dev = s.dev)
      ∧ (free = true → ∃ t, exec (.evacChunkDone e k) s = .next t ∧ t.regs = s.regs ∧ t.vds = s.vds
        ∧ (∃ y, t.evacs.find? e.val = some y ∧ y.chunks.find? k = some .done ∧ (k + 1 < x.total → y.chunks.find? (k + 1) = some .copying))
        ∧ (∀ a b, x.far = false → x.src = [a] → x.dst = [b] → a ≠ b → k < 2304 →
            (∀ i, i < 2 ^ 20 → t.dev.read (nearAddr b (k * 2 ^ 20 + i)) = s.dev.read (nearAddr a (k * 2 ^ 20 + i)))
            ∧ (∀ d, d < nearAddr b (k * 2 ^ 20) ∨ nearAddr b ((k + 1) * 2 ^ 20) ≤ d → t.dev.read d = s.dev.read d))))
    ∧ ((x.chunks.cells.filter (fun k => k.2 = .done)).length = x.total → (x.far = true ∨ ∀ a ∈ x.src, (s.basin a).run = none) →
      ∃ t, exec (.evacSwitch e) s = .next t ∧ t.evacs.find? e.val = some { x with switched := true } ∧ (t.vd x.vd).relocs = x.relocate (s.vd x.vd).relocs
        ∧ (∀ p, t.objs.queues.live.find? x.queue = some p → ∀ y ∈ p.cmds, y.seq = x.cseq → ∃ d, y.stage = .done d ∨ ∃ i, y.stage = .signalling d i)
        ∧ (∀ a b, x.far = true → x.src = [a] → x.dst = [b] → a ≠ b → a < 64 → b < 64 →
            t.reg .fscfg b = s.reg .fscfg a ∧ t.fld .fscfg a 1 0 = 0 ∧ t.fld .fscfg a 7 2 = 0x3F ∧ t.filling (256 + a) = true ∧ t.dev = s.dev)))

/-- The work command `c` of queue `q` goes on to its work (R337, R342): it is next in a queue of kind `kind`, its virtual device is not frozen, its handles are valid, no reserved
bit is set and its wait is satisfied; its context and the privileged slot of that are slots (R334, R401). `a` is the state with the command accepted, `d` the command as accepted. -/
def Sys2Proof.Claims.WorkGoes (s a : State) (q : Nat) (o : QueueObj) (c d : Cmd) (kind op mask : Nat) : Prop :=
  s.turn q kind op = some (o, c) ∧ (s.vd (s.vdOfQueue o)).frozen = false ∧ (kind = 2 → s.awaitsChannel q o = false)
    ∧ s.acceptCmd q o c (if c.sig then some (BitVec.ofNat 32 (cmdField c.raw 4 4)) else none) (if c.wait then some (BitVec.ofNat 32 (cmdField c.raw 16 4)) else none) = (true, d, a)
    ∧ d.headerBad = false ∧ strayBits c.raw (byteMask [(0, 32)] ||| mask) = false ∧ a.cmdWait d = some 0
    ∧ (∀ x, o.ctx = some x → x < 256 ∧ ∀ k, s.privSlot x = some k → k < 16)

/-- R342, R391, R394, R396, R398: the commands of compute queues. DISPATCH is accepted with the fields of its descriptor and, where a spire is free, its instance 0 starts there; a job begins
and ends; EPOCH sets the queue's epoch; NOP ends. -/
def Obligations.WorkCommands : Prop :=
  ∀ (s a : State) (q : Qn) (o : QueueObj) (c d : Cmd),
    let v := s.vdOfQueue o
    let w (a n : Nat) : Nat := cmdField c.raw a n
    let serial (k : Nat) : Prop := c.raw.getLsbD k = true → o.cmds.head?.map (·.seq) = some c.seq
    (∀ k, k = 1 ∨ k = 2 → WorkGoes s a q.val o c d k 0 0 →
      ∃ t, exec (.workNop q) s = .next t ∧ Ended t q.val c Done.ok ∧ t.spires = s.spires ∧ t.dev = s.dev)
    ∧ (WorkGoes s a q.val o c d 1 0x11 (byteMask [(32, 8)]) → w 32 8 ≠ 0 → s.hasJob v = false → s.meterFull = false → v < 63 →
      ∃ t, exec (.jobBegin q) s = .next t ∧ Ended t q.val c Done.ok ∧ t.hasJob v = true ∧ t.fld .scvd v 8 1 = o.ctx.getD 0 ∧ t.reg .scjob v = BitVec.ofNat 64 (w 32 8)
        ∧ (∃ j, t.meter.jobs = s.meter.jobs ++ [j] ∧ j.vd = v ∧ j.jobid = BitVec.ofNat 64 (w 32 8) ∧ j.closed = none) ∧ t.dev = s.dev)
    ∧ (WorkGoes s a q.val o c d 1 0x12 0 → s.hasJob v = true → o.ctx = some (s.fld .scvd v 8 1) →
      (d.awaits.getD (a.acceptedBefore v q.val c.seq)).all a.retired = true → v < 63 →
      ∃ t, exec (.jobEnd q) s = .next t ∧ Ended t q.val c Done.ok ∧ t.hasJob v = false ∧ (∀ j ∈ t.meter.jobs, j.vd = v → j.closed.isSome = true) ∧ t.dev = s.dev)
    ∧ (WorkGoes s a q.val o c d 1 0x13 (byteMask [(32, 8)] ||| (1 <<< 320)) → seqAfter (BitVec.ofNat 64 (w 32 8)) o.epoch = true → serial 320 →
      ∃ t p, exec (.queueEpoch q) s = .next t ∧ Ended t q.val c Done.ok ∧ t.objs.queues.live.find? q.val = some p ∧ p.epoch = BitVec.ofNat 64 (w 32 8) ∧ t.dev = s.dev)
    ∧ (let kd := w 32 8 / 64 * 64
       let b := (a.readBytes v kd 64).1
       let k := kdescOf b
       WorkGoes s a q.val o c d 1 0x10 dispatchMask → s.hasJob v = true → serial 256 → 1 ≤ w 56 4 → w 56 4 ≤ 2 ^ 24 → a.rangeIn v kd 64 false = true →
       a.mayTouchAll false (a.placesOf v kd 64) = true → (a.readBytes v kd 64).2 = false → k.ok = true → a.rangeIn v k.code k.codeLen false = true →
       let ds : Dispatch := ⟨q.val, c.seq, o.ctx.getD 0, v, (s.vd v).gen, c.cls, o.epoch, k.code, k.codeLen, k.codeBase, k.seed, k.nwin0, k.nwin1, BitVec.ofNat 64 (w 40 8), w 48 8,
         w 60 4, w 56 4, 0, 0, none, false⟩
       (s.freeSpires v = [] → ∃ t, exec (.dispatch q) s = .next t ∧ Started t q.val c ∧ t.dispatches = s.dispatches ++ [ds] ∧ t.spires = s.spires ∧ t.dev = s.dev)
       ∧ (∀ m, s.freeSpires v = [m] → s.mayFill v = true → (s.vd v).saves = [] → (∀ x ∈ s.dispatches, x.vd ≠ v ∧ ¬ (x.queue = q.val ∧ x.cseq = c.seq)) → w 48 8 = 0 →
         a.mayTouchAll false (a.startReads ds m) = true →
         ∃ t, exec (.dispatch q) s = .next t ∧ Started t q.val c ∧ t.dispatches = s.dispatches ++ [{ ds with next := 1 }]
           ∧ (t.spire m).run = .running ∧ (t.spire m).pc = k.codeBase ∧ (t.spire m).kernel = some ⟨q.val, c.seq, o.ctx.getD 0, 0, o.epoch, k.code⟩
           ∧ (t.spire m).getS 1 = 0 ∧ (t.spire m).getS 2 = BitVec.ofNat 64 (w 56 4) ∧ (t.spire m).getS 3 = BitVec.ofNat 64 (w 40 8) ∧ (t.spire m).getS 4 = o.epoch
           ∧ ((s.spire m).lastCode = none → ∀ i, i < k.codeLen → (t.spire m).spad.read (k.codeBase + i) = (a.getBlock v k.code k.codeLen).1.read i)
           ∧ (∀ n, n ≠ m → t.spire n = s.spire n)))

/-- R352, R353: an unencrypted virtual device saved and restored. VD_SAVE writes the image, which begins with its header, or answers the length that it needs; VD_RESTORE of an image that fits raises the
generation, leaves the virtual device frozen, puts the objects back at the handles they had, and gives a channel its bytes. -/
def Obligations.SaveAndRestore : Prop :=
  ∀ (s : State) (q : Qn) (o : QueueObj) (c : Cmd),
    let v := cmdField c.raw 8 1
    let x := s.vd v
    let w (a n : Nat) : Nat := cmdField c.raw a n
    s.vdActive v = true → s.vdState v ≠ 2 → s.confidential v = false →
    (CtlGoes s q.val o c 0x53 true (byteMask [(8, 1), (16, 16)]) → x.frozen = true → x.freezer = none → x.peers = [] → s.hasLedger v = false → x.target = none →
      s.mayTouchAll false (s.imagePlaces v) = true →
      (let img := (s.vdImage v).1
       (img.2 ≤ w 24 8 →
         ∃ t, exec (.vdSave q) s = .next t ∧ Ended t q.val c (Done.ok (BitVec.ofNat 64 img.2)) ∧ t.dev = s.dev ∧ t.vds = s.vds
           ∧ (∀ i, i < img.2 → (t.hostOf (o.fn / 64)).read (w 16 8 + i) = img.1.read i)
           ∧ (t.hostOf (o.fn / 64)).readLE (w 16 8) 2 = 1 ∧ (t.hostOf (o.fn / 64)).readLE (w 16 8 + 2) 1 = v ∧ (t.hostOf (o.fn / 64)).readLE (w 16 8 + 8) 8 = x.gen.toNat)
       ∧ (w 24 8 < img.2 →
         ∃ t, exec (.vdSave q) s = .next t ∧ Ended t q.val c (s.failed stOperand kindCommand (BitVec.ofNat 64 img.2)) ∧ t.hostMem = s.hostMem ∧ t.dev = s.dev)))
    ∧ (∀ bytes : List Byte, CtlGoes s q.val o c 0x54 true (byteMask [(8, 2), (16, 16)]) → w 9 1 ≤ 63 → s.fnExists (64 * (o.fn / 64) + w 9 1) = true → bytes.length = w 24 8 →
      s.mayTouchAll true (s.imagePlaces v) = true →
      (let f (o n : Nat) : Nat := natLE ((bytes.drop o).take n)
       let rec' (i : Nat) : ObjRec := objRecOf ((bytes.drop (64 + 16 * f 24 4 + 64 * i)).take 64)
       let place (i : Nat) : Nat × Nat := (handleType (rec' i).handle, handleIndex (rec' i).handle)
       f 0 2 = 1 → f 3 1 = 0 → f 20 4 = 0 → f 24 4 = x.extents.length →
       (∀ i e, x.extents[i]? = some e → Config.extentRecordKind ((bytes.drop (64 + 16 * i)).take 16) = e.kind
         ∧ Config.extentRecordLen ((bytes.drop (64 + 16 * i)).take 16) = s.extentBytes e) →
       (∀ i j, i < f 16 4 → j < f 16 4 → s.slotFree (rec' i) = true ∧ (place i = place j → i = j)) →
       bytes.length = 64 + 16 * f 24 4 + 64 * f 16 4 + x.extents.foldl (fun n e => n + s.extentBytes e) 0 →
       ∃ t, exec (.vdRestore q (.data bytes)) s = .next t ∧ Ended t q.val c Done.ok ∧ (t.vd v).gen = x.gen + 1 ∧ (t.vd v).frozen = true ∧ (t.vd v).saves = []
         ∧ (∀ i, i < f 16 4 → ∃ h, t.objs.head? (place i).1 (place i).2 = some h ∧ h.gen = handleGen (rec' i).handle ∧ h.href = (rec' i).head.href ∧ h.key = (rec' i).head.key)
         ∧ (∀ ch, x.extents = [.channel ch] → ch < 256 → s.fld .chtop ch 31 0 ≤ chanBytes →
             ∀ j, j < s.fld .chtop ch 31 0 → t.dev.read (nearAddr ch j) = bytes.getD (80 + 64 * f 16 4 + j) 0)))

/-- R359, R361, R364, R367 to R369: translation. A miss takes a walker; a pointer leads on, a leaf or a fault ends the walk for all it serves, and so does a read that fails or is not answered in 10 ms; INVAL
drops what is cached of its scope and marks the context's walks stale; it ends when nothing holds an old translation, and after 1 ms its holders are aborted. -/
def Obligations.TranslationAndInvalidation : Prop :=
  (∀ (s : State) (t : Tower) (w : Want) (n : Nat) (g : Geometry), s.nextMiss t.val = some (w, n) → s.trans.geometry (s.ctxRoot w.ctx) = some g →
    ∃ u, exec (.translationWalk t) s = .next u ∧ u.trans.wants = s.trans.wants
      ∧ (let k := s.walkStart g t.val w.ctx w.gen w.page
         u.trans.walks = s.trans.walks.set n ⟨t.val, w.ctx, w.gen, w.page, k.1, k.2.1, k.2.2, false⟩
           ∧ (s.trans.branches = [] → k = (0, (s.ctxRoot w.ctx).get 63 12 * 4096, true)))
      ∧ u.reg .trwalk t.val = bumpCount (s.reg .trwalk t.val) 1)
  ∧ (∀ (s : State) (n : Fin 32) (k : Walk) (g : Geometry) (b : List Byte), s.trans.walks.find? n.val = some k → s.trans.geometry (s.ctxRoot k.ctx) = some g →
    let e := g.entry k.level k.w (BitVec.ofNat 64 (natLE (b.take 8)))
    let found (u : State) (f : Want → Found) : Prop := u.trans.walks.find? n.val = none ∧ ∀ w ∈ s.trans.wants, k.serves w = true → { w with found := some (f w) } ∈ u.trans.wants
    let failed (u : State) : Prop := found u (fun _ => .bad trWalkErr) ∧ u.reg .trwerr k.tower = bumpCount (s.reg .trwerr k.tower) 1
    (k.stale = true → ∃ u, exec (.walkReadReturn n (.data b)) s = .next u ∧ u.trans = { s.trans with walks := s.trans.walks.erase n.val })
    ∧ (k.stale = false → k.tower < 2 →
      (∀ p wr, e = .pointer p wr →
        ∃ u, exec (.walkReadReturn n (.data b)) s = .next u ∧ u.trans.walks.find? n.val = some { k with level := k.level + 1, table := p, w := k.w && wr } ∧ u.trans.wants = s.trans.wants)
      ∧ (∀ p r wr, e = .leaf p r wr →
        ∃ u, exec (.walkReadReturn n (.data b)) s = .next u
          ∧ found u (fun w => if w.write then (if wr then .page p else .bad trNoWrite) else (if r then .page p else .bad trNoRead)))
      ∧ (∀ x, e = .bad x → ∃ u, exec (.walkReadReturn n (.data b)) s = .next u ∧ found u (fun _ => .bad x))
      ∧ (∃ u, exec (.walkReadReturn n .busError) s = .next u ∧ failed u)
      ∧ (∃ u, exec (.hostReadTimeout n) s = .next u ∧ failed u)))
  ∧ (∀ (s : State) (q : Qn) (o : QueueObj) (c : Cmd) (x : Nat), CtlGoes s q.val o c 0x56 false (byteMask [(8, 5), (16, 16)]) → s.ctxNamed o (c.handle 8) = some x →
    let va := cmdField c.raw 16 8
    let n := cmdField c.raw 24 8
    let whole := cmdField c.raw 12 1 = 1
    (whole ∧ va = 0 ∧ n = 0) ∨ (cmdField c.raw 12 1 = 0 ∧ va % 4096 = 0 ∧ 1 ≤ n ∧ n ≤ 2 ^ 45) →
    ∃ t, exec (.inval q) s = .next t ∧ Started t q.val c ∧ t.dev = s.dev ∧ t.spires = s.spires
      ∧ t.trans.invals = s.trans.invals ++ [⟨s.nextId, q.val, c.seq, x, decide whole, va / 4096, n, 0⟩]
      ∧ (∀ l, l ∈ t.trans.leaves ↔ l ∈ s.trans.leaves ∧ ¬ (l.ctx = x ∧ l.gen = s.ctxGen x ∧ (whole ∨ (va / 4096 ≤ l.page ∧ l.page < va / 4096 + n))))
      ∧ (∀ i k, t.trans.walks.find? i = some k → k.ctx = x → k.stale = true))
  ∧ (∀ (s : State) (k : Nat) (i : Inval), s.trans.invals[k]? = some i →
    let held := s.trans.wants.filter (fun w => w.old.contains i.id)
    (∃ t, exec (.invalAbort k) s = .next t ∧ (∀ w ∈ t.trans.wants, i.id ∉ w.old)
      ∧ { i with aborted := i.aborted + (held.map (·.asker)).eraseDups.length } ∈ t.trans.invals ∧ t.dev = s.dev)
    ∧ (held ≠ [] → exec (.invalComplete k) s = .next s)
    ∧ (∀ o y, held = [] → s.objs.queues.live.find? i.queue = some o → y ∈ o.cmds → y.seq = i.cseq → y.stage = .started →
      ∃ t, exec (.invalComplete k) s = .next t ∧ (∀ x ∈ t.trans.invals, x.id ≠ i.id) ∧ Ended t i.queue y (Done.ok (BitVec.ofNat 64 i.aborted)) ∧ t.dev = s.dev))

/-- R376 to R386: barge channels. BRUN is checked and starts; it is given the channel nearest its first descriptor; a descriptor that passes its checks enters the channel's flight, and one that fails
a check is recorded with that check's status and sends nothing; a copy and a reduction out of a scratchpad, and an append out of device memory send what they read; a record is written, and the last ends the BRUN. -/
def Obligations.BargeChannels : Prop :=
  (∀ (s a : State) (q : Qn) (o : QueueObj) (c d : Cmd), WorkGoes s a q.val o c d 2 0x20 brunMask →
    let v := s.vdOfQueue o
    let f := brunBody c
    s.hasJob v = true → 1 ≤ f.n → f.n ≤ 65536 → (s.confidential v = true → f.dloc = true ∧ f.rloc = true) →
    (f.dloc = true → a.rangeIn v f.dlist (64 * f.n) false = true) → (f.rloc = true → a.rangeIn v f.raddr (32 * f.n) true = true) →
    ∃ t, exec (.brun q) s = .next t ∧ Started t q.val c ∧ t.barges = s.barges ∧ t.dev = s.dev)
  ∧ (∀ (s : State) (q : Qn) (first : HostAns) (o : QueueObj) (c : Cmd) (ctx b : Nat), s.objs.queues.live.find? q.val = some o → o.ctx = some ctx →
    o.cmds.find? (fun c => c.stage = .started && c.op = 0x20 && ! s.barges.cells.any (fun k => k.2.queue = q.val && k.2.cseq = c.seq)) = some c →
    let v := s.vdOfCtx ctx
    let f := brunBody c
    let raw : List Byte := if f.dloc then (s.readBytes v f.dlist 64).1 else match first with | .data b => b.take 64 | .busError => []
    let d := dscOf (BitVec.ofNat 512 (natLE raw))
    let port := s.fnOfCtx ctx / 64
    s.pickChannel (if d.ssp = 3 then s.dscRouter v port d.dsp d.dst else s.dscRouter v port d.ssp d.src) = some b →
    (f.dloc = true → s.mayTouchAll false (s.placesOf v f.dlist 64) = true) →
    ∃ t, exec (.bargeChannelAssign q first) s = .next t ∧ s.barges.find? b = none ∧ (∀ k, k ≠ b → t.barges.find? k = s.barges.find? k) ∧ t.dev = s.dev
      ∧ t.barges.find? b = some ⟨q.val, c.seq, ctx, v, BitVec.ofNat 64 f.dlist + (if f.dloc then 1 else 0), BitVec.ofNat 64 f.raddr + (if f.rloc then 1 else 0), f.n, f.stopBad, 0, 0, [],
          0, 0, [], false, false, none⟩)
  ∧ (∀ (s a : State) (b : BargeCh) (host rest : List HostAns) (r : BargeRun) (raw : W512), s.barges.find? b.val = some r → r.mayStart = true → (∀ z ∈ r.flight, z.idx ≠ r.next) → (∀ g ∈ r.groups, g.last ≠ some r.next) →
    s.dscFetch b.val r host = (.got raw rest, a) →
    let d := dscOf raw
    let entered (t : State) (y : BDesc) : Prop := (∃ g, t.barges.find? b.val = some { r with next := r.next + 1, flight := r.flight ++ [y], groups := g, ahead := none }) ∧ y.idx = r.next ∧ y.raw = raw
      ∧ t.dev = s.dev ∧ t.spires = s.spires
    let step := if d.op = 1 then exec (.bargeCopy b host) s else if d.op = 2 then exec (.bargeReduce b host) s else if d.op = 3 then exec (.bargeBasin b host) s else exec (.bargeNop b host) s
    (∀ st x, a.dscCheck r.vd raw = some (st, x) →
      ∃ t y, step = .next t ∧ entered t y ∧ y.status = st ∧ y.value = BitVec.ofNat 64 x ∧ t.net.reqs = s.net.reqs ∧ t.net.appends = s.net.appends)
    ∧ (a.dscCheck r.vd raw = none →
      (d.op = 0 → ∃ t y, step = .next t ∧ entered t y ∧ y.status = 0 ∧ y.waiting = [] ∧ t.net = s.net)
      ∧ ((d.ssp = 1 → a.bargeKnown b.val d.src d.len false = true) → (d.dsp = 1 → a.bargeKnown b.val d.dst d.dstLen true = true) →
        (d.ssp = 0 → a.mayTouchAll false (a.placesOf r.vd d.src d.len) = true) →
        (∃ t y, step = .next t ∧ (∃ g, t.barges.find? b.val = some { r with next := r.next + 1, flight := r.flight ++ [y], groups := g, ahead := none }) ∧ y.idx = r.next ∧ y.raw = raw)
        ∧ (let off := d.src % 2 ^ 22
           let from' := s.spire (d.src / 2 ^ 22)
           let to' := d.dst % 2 ^ 22
           d.ssp = 2 → d.grp = 0 → d.crcw = false → anyPoison from'.poison off d.len = false →
           (d.op = 1 → d.dsp = 2 → to' % 64 + d.len ≤ 64 →
             ∃ t y, step = .next t ∧ entered t y ∧ y.status = 0
               ∧ ∃ q ∈ t.net.reqs, q.agent = .barge b.val ∧ q.target = .spad (d.dst / 2 ^ 22) to' ∧ q.kind = .write (from'.spad.readN off d.len))
           ∧ (d.op = 2 → d.dsp = 2 → d.red = 1 → to' % 128 + d.len ≤ 128 →
             ∃ t y, step = .next t ∧ entered t y ∧ y.status = 0
               ∧ ∃ q ∈ t.net.reqs, ∃ e, q.agent = .barge b.val ∧ q.target = .spad (d.dst / 2 ^ 22) to' ∧ q.kind = .reduce e ∧ e.red = .fp32
                 ∧ e.elems = (upFrom 0 (d.len / 4)).map (fun j => from'.spad.readLE (off + 4 * j) 4)))
        ∧ (∀ p, d.op = 3 → d.ssp = 0 → d.dsp = 0 → d.grp = 0 → d.len = 64 → d.src % 64 = 0 → a.readAt r.vd d.src = some p → anyPoison a.devPoison p 64 = false →
             ∃ t y, step = .next t ∧ entered t y ∧ y.status = 0
               ∧ ∃ z ∈ t.net.appends, z.agent = .barge b.val ∧ z.basin = relocBasin (a.vd r.vd).relocs d.dst ∧ z.cmds = [BitVec.ofNat 512 (a.dev.readLE p 64)]))))
  ∧ (∀ (s : State) (b : BargeCh) (r : BargeRun) (x : BDesc) (p ch off : Nat), s.barges.find? b.val = some r → r.stopping = false → r.dying = false → r.ended = some x → r.raddr.getLsbD 0 = true →
    let at' := r.raddr.toNat - r.raddr.toNat % 2 + 32 * r.recorded
    s.rangeCheck r.vd at' true = .at p → placeOf p = .near ch off → anyPoison s.devPoison p 32 = false → s.evacs.cells = [] → s.mayTouch true p 32 = true →
    ∃ t u, exec (.descriptorRecord b) s = .next t ∧ t.barges.find? b.val = some u ∧ u.recorded = r.recorded + 1 ∧ u.bad = (if x.status = 0 then r.bad else r.bad + 1)
      ∧ (∀ i, i < 32 → t.dev.read (p + i) = (recordBytes' r.cseq x).getD i 0) ∧ (∀ k, k < p ∨ p + 32 ≤ k → t.dev.read k = s.dev.read k)
      ∧ (∀ o y, r.recorded + 1 = r.n → r.bad = 0 → x.status = 0 → s.objs.queues.live.find? r.queue = some o → y ∈ o.cmds → y.seq = r.cseq → y.stage = .started →
          Ended t r.queue y (Done.ok (BitVec.ofNat 64 (b.val * 2 ^ 32)))))

/-- R411, R414 to R422, R426: certificates, reports, sessions and bounce records. What is read is written to the host; the first session of a virtual device resets it and has its memory filled again,
a later one opens at once; a record that verifies lands in device memory and moves the session on, one that does not leaves zeros and is counted. The security core is in service. -/
def Obligations.ConfidentialComputing : Prop :=
  ∀ (s : State) (q : Qn) (o : QueueObj) (c : Cmd), s.procState 0 ≠ 2 → s.procState 0 ≠ 3 →
    let w (a n : Nat) : Nat := cmdField c.raw a n
    let port := o.fn / 64
    let written (t : State) (b : List Byte) : Prop := (∀ i, i < b.length → (t.hostOf port).read (w 16 8 + i) = b.getD i 0) ∧ (∀ p, p ≠ port → t.hostOf p = s.hostOf p) ∧ t.dev = s.dev
    (CtlGoes s q.val o c 0x60 false (byteMask [(8, 1), (16, 8)]) → 1 ≤ w 8 1 → w 8 1 ≤ 5 → w 16 8 % 64 = 0 →
      ∃ t, exec (.certRead q) s = .next t ∧ Ended t q.val c Done.ok ∧ written t (if w 8 1 = 4 then s.akCert else s.storeCert (w 8 1)))
    ∧ (CtlGoes s q.val o c 0x61 false (byteMask [(8, 1), (16, 8), (24, 32)]) → w 16 8 % 64 = 0 →
      (w 8 1 = 0x3F → ∃ t, exec (.attest q) s = .next t ∧ Ended t q.val c Done.ok ∧ written t (s.report none (bytesLE 32 (w 24 32))) ∧ t.vds = s.vds)
      ∧ (s.vdActive (w 8 1) = true → s.vdState (w 8 1) ≠ 2 → s.granted' o.fn (w 8 1) = true →
        ∃ t, exec (.attest q) s = .next t ∧ Ended t q.val c Done.ok ∧ written t (s.report (some (w 8 1)) (bytesLE 32 (w 24 32)))
          ∧ t.vd (w 8 1) = { s.vd (w 8 1) with report := s.report (some (w 8 1)) (bytesLE 32 (w 24 32)) }))
    ∧ (∀ x, s.ctxNamed o (c.handle 8) = some x →
      let v := s.vdOfCtx x
      s.vdActive v = true → s.vdState v ≠ 2 → s.confidential v = true → w 12 1 ≤ 3 →
      (∀ ct : List Byte, CtlGoes s q.val o c 0x62 false (byteMask [(8, 4), (12, 1), (16, 8)]) → (s.vd v).sessions.find? (w 12 1) = none → s.sealing v = false → ct.length = 1568 →
        ((s.vd v).isSealed = true →
          ∃ t, exec (.sessionOpen q (.data ct)) s = .next t ∧ (t.vd v).sessions.find? (w 12 1) = some (s.sessionKeys v (w 12 1) ct)
            ∧ Ended t q.val c (Done.ok (BitVec.ofNat 64 (natLE ((s.sessionKeys v (w 12 1) ct).confirm.take 8)))) ∧ t.dev = s.dev)
        ∧ ((s.vd v).isSealed = false →
          ∃ t, exec (.sessionOpen q (.data ct)) s = .next t ∧ (t.vd v).gen = (s.vd v).gen + 1 ∧ (∀ u ∈ s.carveUnits v, t.filling u = true)))
      ∧ (CtlGoes s q.val o c 0x63 false (byteMask [(8, 4), (12, 1)]) → ((s.vd v).sessions.find? (w 12 1)).isSome = true →
        ∃ t, exec (.sessionClose q) s = .next t ∧ t.vd v = { s.vd v with sessions := (s.vd v).sessions.erase (w 12 1) } ∧ Ended t q.val c Done.ok ∧ t.dev = s.dev))
    ∧ (∀ i m x tt u, s.objNamed o tyMem (c.handle 8) = some i → s.mem? i = some m → m.kind = 1 →
      let v := s.vdOfCtx m.head.owner
      let len := w 32 4
      s.confidential v = true → s.vdState v ≠ 2 → (s.vd v).sessions.find? (w 12 1) = some x → w 16 8 % 64 = 0 → len % 64 = 0 → len ≠ 0 → len ≤ 2 ^ 24 → w 16 8 + len + 16 ≤ m.len →
      (∀ b : List Byte, CtlGoes s q.val o c 0x64 false (byteMask [(8, 4), (12, 1), (16, 16), (32, 4), (40, 8)]) →
        let n := BitVec.ofNat 64 (w 40 8)
        let iv := bounceIv (w 12 1) 1 n
        seqAfter n x.lastIn = true → s.inEncrypted v (w 24 8) len = true → b.length = len + 16 →
        s.bouncePages q.val o.fn m.head.owner (m.base + w 16 8) (len + 16) false = (some (tt, true), u) →
        u.mayTouchAll true (u.placesOf v (w 24 8) len) = true →
        (b.drop len = gcmTag x.keyIn iv (bounceAad v 1 (w 12 1) len) (b.take len) →
          ∃ t, exec (.bounceIn q (.data b)) s = .next t ∧ t.dev = (u.putRange v (w 24 8) (gcmCrypt x.keyIn iv (b.take len))).dev
            ∧ (t.vd v).sessions.find? (w 12 1) = some { x with lastIn := n } ∧ Ended t q.val c Done.ok)
        ∧ (b.drop len ≠ gcmTag x.keyIn iv (bounceAad v 1 (w 12 1) len) (b.take len) →
          ∃ t, exec (.bounceIn q (.data b)) s = .next t ∧ t.dev = (u.putRange v (w 24 8) (List.replicate len 0)).dev ∧ t.vds = s.vds
            ∧ t.reg .scauth 0 = bumpCount (s.reg .scauth 0) 1 ∧ Ended t q.val c (s.failed stAuth kindCommand)))
      ∧ (CtlGoes s q.val o c 0x65 false (byteMask [(8, 4), (12, 1), (16, 16), (32, 4)]) → (s.vd v).integrity = false → s.rangeIn v (w 24 8) len false = true →
        s.bouncePages q.val o.fn m.head.owner (m.base + w 16 8) (len + 16) true = (some (tt, true), u) →
        u.mayTouchAll false (u.placesOf v (w 24 8) len) = true → s.cleanPart v (w 24 8) len = none →
        let iv := bounceIv (w 12 1) 2 x.nextOut
        let ct := gcmCrypt x.keyOut iv (s.getRange v (w 24 8) len)
        let a := m.base + w 16 8
        ∃ t, exec (.bounceOut q) s = .next t ∧ (t.vd v).sessions.find? (w 12 1) = some { x with nextOut := x.nextOut + 1 } ∧ Ended t q.val c (Done.ok x.nextOut) ∧ t.dev = s.dev
          ∧ t.hostMem = ((u.putPages port tt a ct).putPages port tt (a + len) (gcmTag x.keyOut iv (bounceAad v 2 (w 12 1) len) ct)).hostMem))
    ∧ (∀ r : List Byte, CtlGoes s q.val o c 0x66 true (byteMask [(8, 1), (16, 8), (24, 32)]) → s.vdActive (w 8 1) = true → s.vdState (w 8 1) ≠ 2 → s.confidential (w 8 1) = true →
      r.length = 6336 →
      (s.reportOk (w 8 1) r (bytesLE 32 (w 24 32)) = true →
        ∃ t, exec (.migrateTarget q (.data r)) s = .next t ∧ t.vd (w 8 1) = { s.vd (w 8 1) with target := some r } ∧ Ended t q.val c Done.ok ∧ t.dev = s.dev)
      ∧ (s.reportOk (w 8 1) r (bytesLE 32 (w 24 32)) = false →
        ∃ t, exec (.migrateTarget q (.data r)) s = .next t ∧ t.vds = s.vds ∧ t.reg .scauth 0 = bumpCount (s.reg .scauth 0) 1 ∧ Ended t q.val c (s.failed stAuth kindCommand)))

/-- R428 to R430, R433 to R435: debug certificates and the life cycle. A challenge is kept and shown; a certificate that meets the rules of R433 puts its rights in force, through the command or the TAP, and in
FIELDED erases first where it grants more than register reads; a transition ends in start-up, and the one to SCRAPPED in SCRAPPED; the owner is set once. The security core is in service. -/
def Obligations.DebugAndLifeCycle : Prop :=
  ∀ (s : State) (q : Qn) (o : QueueObj) (c : Cmd) (b : BringUp), s.procState 0 ≠ 2 → s.procState 0 ≠ 3 →
    let w (a n : Nat) : Nat := cmdField c.raw a n
    (CtlGoes s q.val o c 0x67 true (byteMask [(16, 8)]) →
      ∃ t x, exec (.debugChallenge q) s = .next t ∧ t.sec.challenge = some x ∧ x.length = 32 ∧ (∀ i, i < 32 → (t.hostOf (o.fn / 64)).read (w 16 8 + i) = x.getD i 0)
        ∧ Ended t q.val c Done.ok ∧ t.dev = s.dev)
    ∧ (∀ cert : List Byte, cert.length = 3200 →
      let r := certRights cert
      let honoured (t : State) : Prop := t.reg .dbgrights 0 = (s.reg .dbgrights 0 ||| BitVec.ofNat 64 r) ∧ t.sec.challenge = none ∧ t.sec.dbgDigest = digest cert
        ∧ (r ≠ 0 → t.bit .lcstat 0 8 = true) ∧ t.dev = s.dev ∧ t.objs.ctxs = s.objs.ctxs
      (CtlGoes s q.val o c 0x68 true (byteMask [(16, 8)]) →
        (s.certMeets cert = true → s.debugSignerOk (certSigner cert) = true →
          (s.lcState ≠ 3 ∨ r &&& 0x1F8 = 0 → ∃ t, exec (.debugOpen q (.data cert)) s = .next t ∧ honoured t ∧ Ended t q.val c (Done.ok (t.reg .dbgrights 0)))
          ∧ (s.lcState = 3 → r &&& 0x1F8 ≠ 0 → ∃ t, exec (.debugOpen q (.data cert)) s = .next t ∧ t.bit .lcstat 0 9 = true ∧ t.sec.dbgDigest = digest cert))
        ∧ (s.certMeets cert = false ∨ s.debugSignerOk (certSigner cert) = false →
          ∃ t, exec (.debugOpen q (.data cert)) s = .next t ∧ t.sec = s.sec ∧ t.reg .scauth 0 = bumpCount (s.reg .scauth 0) 1 ∧ Ended t q.val c (s.failed stAuth kindCommand)))
      ∧ (s.powered = true → s.lcState ≠ 5 → s.certMeets cert = true → s.debugSignerOk (certSigner cert) = true → s.lcState ≠ 3 ∨ r &&& 0x1F8 = 0 →
        ∃ t, exec (.debugMailbox cert) s = .next t ∧ honoured t ∧ t.shown = bytesLE 8 (t.reg .dbgrights 0).toNat)
      ∧ (CtlGoes s q.val o c 0x69 true (byteMask [(8, 1), (16, 8)]) → nextState s.lcState (w 8 1) = true → s.activeVds = [] → s.certMeets cert = true →
        (let k := transitionTo (w 8 1)
         (certRights cert).testBit (15 + k) = true → s.advanceSignerOk k (certSigner cert) = true →
         (k = 4 → ∃ t, exec (.lcAdvance q (.data cert) b) s = .next t ∧ t.power.life = .scrapped)
         ∧ (k ≠ 4 → s.powered = true → ∃ t, exec (.lcAdvance q (.data cert) b) s = .next t ∧ StartEnds t))))
    ∧ (∀ key : List Byte, CtlGoes s q.val o c 0x6A true (byteMask [(16, 8)]) → s.lcState = 2 → s.ownerless = true → key.length = 1793 →
      ∃ t, exec (.ownerSet q (.data key)) s = .next t ∧ t.sec = { s.sec with ownerd := digest key } ∧ Ended t q.val c Done.ok ∧ t.dev = s.dev)

/-- R440, R441, R443, R445, R449, R451, R459: power, temperature and the baseboard. A tick with every rail up shows the telemetry, steps the frequency down while a limit is exceeded and by at most one step up with room, and
halts work at the die limit; droops stretch a clock; a hint expires; a module whose units are all moored sleeps until it wakes; the baseboard's reads show what they name while the module runs. How far the
frequency goes is free (log 103), and so are PMBus's own formats (log 101). -/
def Sys2Proof.Claims.PowerManagement : Prop :=
  ∀ (s : State),
    (∀ (r : Telemetry) (b : BringUp), s.procState 1 < 2 → (∀ k, r.railOff.getD k false = false ∧ r.warn.getD k false = false) →
      let f := s.fld .pwstat 0 10 0
      let cap := s.fld .pwcap 0 11 0
      let dieHot : Prop := (s.fld .thlim 0 7 0 : Int) < r.die ∨ (s.power.dieHot = true ∧ (s.fld .thlim 0 7 0 : Int) - 3 < r.die)
      let broken : Prop := cap < r.inputW ∨ (∃ k, k < 7 ∧ railBudgets.getD k 0 < r.railW.getD k 0) ∨ dieHot
      ∃ t, exec (.powerControlTick r b) s = .next t ∧ t.power.vin = r.vin ∧ t.power.iin = r.iin ∧ t.power.statusWord = r.statusWord ∧ t.fld .pwstat 0 28 13 = r.inputW % 65536
        ∧ t.hot = (if s.hot then decide (100 ≤ r.die) else decide (110 ≤ r.die)) ∧ t.dev = s.dev
        ∧ (broken → 725 ≤ f → f ≤ 1750 → 700 ≤ t.fld .pwstat 0 10 0 ∧ t.fld .pwstat 0 10 0 < f)
        ∧ (¬ broken → t.fld .pwstat 0 10 0 = f ∨ (100 * r.inputW ≤ 97 * cap ∧ f < 1750 ∧ t.fld .pwstat 0 10 0 = f + 25))
        ∧ (s.hot = false → r.die < 110 → t.spires = s.spires)
        ∧ (s.hot = false → 110 ≤ r.die → ∀ n, n < 256 → (s.spire n).kernel.isSome = true → (s.spire n).run = .running → (t.spire n).run = .preempted))
    ∧ (∀ (w : Tower) (n : Nat), ∃ t, exec (.droopStretch w n) s = .next t ∧ t.power.stretch = s.power.stretch.set w.val true
        ∧ t.reg .pwdroop 0 = bumpCount (s.reg .pwdroop 0) n ∧ t.spires = s.spires)
    ∧ (∀ w : Tower, exec (.droopRecover w) s = .next { s with power := { s.power with stretch := s.power.stretch.set w.val false } })
    ∧ (∀ n : Sp, ∃ t, exec (.hintExpiry n) s = .next t ∧ t.hints.find? n.val = none ∧ (∀ m, m ≠ n.val → t.hints.find? m = s.hints.find? m) ∧ t.spires = s.spires)
    ∧ (s.bit .pwmoor 0 32 = true → s.allMoored = true → exec .moduleMoor s = .next { s with power := { s.power with moored := true } })
    ∧ (s.bit .pwmoor 0 32 = false ∨ s.allMoored = false → exec .moduleMoor s = .next s)
    ∧ (∀ c, exec (.moduleWake c) s = .next { s with power := { s.power with moored := false } })
    ∧ (let shows (i : Instr) (code : Nat) (v : Int) : Prop := exec i s = .next { s with shown := if s.running then pmbus code v else [] }
       shows .statusWord 0x79 (s.power.statusWord.toNat + 65536 * s.fld .pwstat 0 12 11 : Nat) ∧ shows .readEin 0x86 s.power.ein ∧ shows .readVin 0x88 s.power.vin
         ∧ shows .readIin 0x89 s.power.iin ∧ shows .readPin 0x97 (s.fld .pwstat 0 28 13) ∧ shows .readTemperature1 0x8D (toSigned 8 (s.fld .thstat 0 7 0))
         ∧ shows .readTemperature2 0x8E (toSigned 8 (s.fld .thstat 0 15 8)) ∧ shows .readTemperature3 0x8F (toSigned 8 (s.fld .thstat 0 23 16))
         ∧ shows (.mfrPowerCap none) 0xD0 (s.fld .pwcap 0 11 0))
    ∧ (∀ x, s.running = true → s.dynamic 0x1000000 .pwcap = true → 600 ≤ x → x ≤ 2000 →
        ∃ t, exec (.mfrPowerCap (some x)) s = .next t ∧ t.fld .pwcap 0 11 0 = x ∧ t.shown = [0] ∧ t.power = s.power)
    ∧ (∀ off n, exec (.meterInspectRead off n) s = .next { s with shown := if s.meterUp then (upFrom off n).map s.inspect else [] })
    ∧ (∀ (k : Fin 7) (v : BitVec 32), ∃ t, exec (.meterCalibrationWrite k v) s = .next t
        ∧ (s.meterUp = true → s.lcState = 1 ∨ s.lcState = 2 → t.sec.cal = s.sec.cal.set k.val v.toNat ∧ t.reg .mtrcal k.val = v.zeroExtend 64)
        ∧ (s.meterUp = false ∨ (s.lcState ≠ 1 ∧ s.lcState ≠ 2) → t = s))
    ∧ exec .sensorCalibration s = .next s ∧ exec .wearLevelling s = .next s

/-- R391, R453 to R457: the meter. With every rail answering and no calibration, an interval adds the energy of the module and gives an only job what its activity took and the rest as overhead; an interim record takes the
next number and is signed later; METER_READ shows a signed record; METER_ACK acknowledges up to its record. -/
def Sys2Proof.Claims.EnergyMeter : Prop :=
  ∀ (s : State),
    (∀ (m : MeterReading), (∀ k, m.silent.getD k false = false) → m.silent.any id = false → (∀ k, k < 7 → s.reg .mtrcal k = 0) →
      let e (k : Nat) : Nat := m.railUJ.getD k 0
      let total := e 0 + e 1 + e 2 + e 3 + e 4 + e 5 + e 6
      (∃ t, exec (.meterInterval m) s = .next t ∧ t.reg .mtrmod 0 = BitVec.ofNat 64 (min ((s.reg .mtrmod 0).toNat + total) (2 ^ 64 - 1)) ∧ t.bit .mtrstat 0 14 = false ∧ t.dev = s.dev
        ∧ (s.meter.jobs = [] → t.meter = s.meter ∧ t.reg .mtridle 0 = BitVec.ofNat 64 (min ((s.reg .mtridle 0).toNat + total) (2 ^ 64 - 1))))
      ∧ (∀ j, s.meter.jobs = [j] → j.closed = none → (∀ a ∈ m.activity, a.2.1 = j.vd) → (∀ g, g < 4 → 0 < activityOf m.activity g j.vd) → 0 < e 0 + e 1 + e 2 + e 3 + e 4 + e 5 →
        j.core + j.mem + j.io + j.ovh + total + s.meter.carry < 2 ^ 64 →
        ∃ t k, exec (.meterInterval m) s = .next t ∧ t.meter.jobs = [k] ∧ k.core = j.core + e 0 + e 1 ∧ k.mem = j.mem + (e 2 + e 3) ∧ k.io = j.io + (e 4 + e 5)
          ∧ k.ovh = j.ovh + (e 6 + s.meter.carry) ∧ k.tEnd = s.reg .btime 0 ∧ k.jobid = j.jobid ∧ t.meter.carry = 0 ∧ t.meter.ring = s.meter.ring))
    ∧ (∀ (v : Vd) (j : Job), s.meter.jobs.find? (fun j => j.vd = v.val && j.closed.isNone) = some j → s.meterFull = false → s.lcState ≠ 5 → s.lcState ≠ 1 → s.meter.ring.length < 4096 →
      ∃ t r, exec (.meterInterim v) s = .next t ∧ t.meter.ring = s.meter.ring ++ [r] ∧ r.seq = s.reg .mtrseq 0 ∧ r.sig = none
        ∧ r.body = s.recordBody j ((if j.gap then 8 else 0) + (if j.sat then 16 else 0)) (s.reg .mtrseq 0)
        ∧ t.reg .mtrseq 0 = s.reg .mtrseq 0 + 1 ∧ t.dev = s.dev)
    ∧ (∀ r, s.meter.ring.find? (fun r => r.sig.isNone) = some r → s.lcState ≠ 5 →
      ∃ t, exec .meterSign s = .next t ∧ { r with sig := some (falconSign Config.meterSecret r.body) } ∈ t.meter.ring ∧ t.meter.jobs = s.meter.jobs ∧ t.regs = s.regs)
    ∧ (s.meter.ring.all (fun r => r.sig.isSome) = true → exec .meterSign s = .next s)
    ∧ (∀ (q : Qn) (o : QueueObj) (c : Cmd),
      (∀ r, CtlGoes s q.val o c 0x70 false (byteMask [(8, 16)]) → cmdField c.raw 16 8 % 64 = 0 →
        s.meter.ring.find? (fun r => r.seq = BitVec.ofNat 64 (cmdField c.raw 8 8)) = some r → r.sig.isSome = true →
        ∃ t, exec (.meterRead q) s = .next t ∧ Ended t q.val c Done.ok ∧ t.meter = s.meter
          ∧ (∀ i, i < r.bytes.length → (t.hostOf (o.fn / 64)).read (cmdField c.raw 16 8 + i) = r.bytes.getD i 0))
      ∧ (let n := BitVec.ofNat 64 (cmdField c.raw 8 8)
         CtlGoes s q.val o c 0x71 true (byteMask [(8, 8)]) → (∀ j ∈ s.meter.jobs, j.closed = none) → seqAfter n (s.reg .mtrack 0) = true → seqAfter n (s.reg .mtrseq 0 - 1) = false →
         ∃ t, exec (.meterAck q) s = .next t ∧ Ended t q.val c Done.ok ∧ t.reg .mtrack 0 = n ∧ t.fld .mtrstat 0 12 0 = (s.reg .mtrseq 0 - 1 - n).toNat % 8192 ∧ t.meter = s.meter))

/-- Power control, the baseboard’s reads, and the energy meter. -/
def Obligations.PowerAndMeter : Prop := Claims.PowerManagement ∧ Claims.EnergyMeter

/-- The oldest request of a port's firmware ring (R486) is `req`, of an operation with `n` bytes of body in use, its reserved bytes zero, and there is room for its answer. -/
def Sys2Proof.Claims.FwGoes (s : State) (p : Nat) (req : List Byte) (op n : Nat) : Prop :=
  s.fwRequest p = some req ∧ fieldOf req 8 1 = op ∧ s.fwRoom p = true ∧ fwStray req n = false ∧ s.fw.reqCons.length = 2 ∧ s.fw.rspProd.length = 2

/-- The request has been answered with a status and a value (R486). -/
def Sys2Proof.Claims.FwAnswered (s t : State) (p : Nat) (req : List Byte) (st : Nat) (v : W64) : Prop :=
  t.fw.reqCons.getD p 0 = s.fw.reqCons.getD p 0 + 1 ∧ t.fw.rspProd.getD p 0 = s.fw.rspProd.getD p 0 + 1
    ∧ (t.fw.rings.get .zero p).readN (0x4000 + 64 * ((s.fw.rspProd.getD p 0).toNat % 256)) 64
        = req.take 8 ++ bytesLE 1 st ++ List.replicate 7 0 ++ bytesLE 8 v.toNat ++ List.replicate 40 0

/-- R478, R483 to R486, R488: the firmware rings. FW_INFO answers and writes its block; FLASH_WRITE writes the flash outside what is active; FLASH_ACTIVATE turns the directory; LOG_LEVEL, PROC_RESTART and FW_UPDATE. -/
def Obligations.FirmwareRequests : Prop :=
  ∀ (s : State) (port : Port) (req : List Byte),
    let p := port.val
    let f (a n : Nat) : Nat := fieldOf req a n
    (FwGoes s p req 1 8 → f 16 8 % 64 = 0 →
      ∃ t, exec (.fwInfo port) s = .next t ∧ FwAnswered s t p req 0 s.fw.slotSeq ∧ (t.hostOf p).readLE (f 16 8) 8 = s.fw.slotSeq.toNat
        ∧ (t.hostOf p).readLE (f 16 8 + 8) 8 = (s.reg .fwinfo 0).toNat ∧ t.dev = s.dev)
    ∧ (∀ op, op = 0 ∨ 6 < op → FwGoes s p req op 8 → ∃ t, exec (.fwInfo port) s = .next t ∧ FwAnswered s t p req stReserved 0 ∧ t.hostMem = s.hostMem ∧ t.dev = s.dev)
    ∧ (∀ b : List Byte, FwGoes s p req 2 16 → f 16 4 % 4096 = 0 → f 20 4 % 4096 = 0 → f 20 4 ≤ 65536 → s.flashOpen (f 16 4) (f 20 4) = true → b.length = f 20 4 →
      ∃ t, exec (.flashWrite port (.data b) true) s = .next t ∧ FwAnswered s t p req 0 0 ∧ (∀ i, i < b.length → t.fw.flash.read (f 16 4 + i) = b.getD i 0)
        ∧ (∀ a, a < f 16 4 ∨ f 16 4 + b.length ≤ a → t.fw.flash.read a = s.fw.flash.read a))
    ∧ (FwGoes s p req 3 1 → f 16 1 = 1 → s.slotCheck (1 - s.fld .fwslot 0 0 0) = 0 →
      ∃ t, exec (.flashActivate port) s = .next t ∧ FwAnswered s t p req 0 0 ∧ t.fld .fwslot 0 0 0 = 1 - s.fld .fwslot 0 0 0 ∧ t.fld .fwslot 0 2 2 = s.fld .fwslot 0 2 2)
    ∧ (FwGoes s p req 3 1 → f 16 1 = 1 → s.slotCheck (1 - s.fld .fwslot 0 0 0) ≠ 0 →
      ∃ t, exec (.flashActivate port) s = .next t ∧ FwAnswered s t p req (s.slotCheck (1 - s.fld .fwslot 0 0 0)) 0 ∧ t.fw.flash = s.fw.flash ∧ t.regs = s.regs)
    ∧ (FwGoes s p req 6 2 → f 16 1 ∈ procIds ∨ f 16 1 = 0xFF → f 17 1 ≤ 3 →
      ∃ t, exec (.logLevel port) s = .next t ∧ FwAnswered s t p req 0 0 ∧ ∀ k ∈ procIds, (f 16 1 = k ∨ f 16 1 = 0xFF) → t.fld .fwproc k 6 5 = f 17 1)
    ∧ (FwGoes s p req 5 1 → f 16 1 ∈ procIds → s.procState (f 16 1) ≠ 3 →
      ∃ t, exec (.procRestart port) s = .next t ∧ FwAnswered s t p req 0 0 ∧ t.procState (f 16 1) = 2 ∧ t.reg .fwrest (f 16 1) = bumpCount (s.reg .fwrest (f 16 1)) 1)
    ∧ (let k := 1 - s.fld .fwslot 0 0 0
       let h := s.fld .chg 0 0 0
       FwGoes s p req 4 0 → s.bit .chg 0 1 = false → s.procState 0 = 1 → s.slotCheck k = 0 → (s.slotHead k).2.2.2 ≠ 3 → (s.slotHead k).2.2.1 = s.fw.iface → s.procState (3 - h) = 1 →
       ∃ t, exec (.fwUpdate port) s = .next t ∧ FwAnswered s t p req 0 0 ∧ t.fld .fwslot 0 1 1 = k ∧ t.fld .chg 0 0 0 = 1 - h ∧ t.fw.slotSeq = (s.slotHead k).2.1
         ∧ t.reg .chgepoch 0 = s.reg .chgepoch 0 + 1 ∧ t.dev = s.dev)

/-- R434, R435, R483, R484, R510, R528, R529: processors and the connectors. A processor that restarts alone resumes; its watchdog stops it, and the third time within an hour it has failed; the flash programmer reaches the flash while
its bus is at J12; the TAP reaches what the debug rights grant, and never a confidential virtual device. -/
def Obligations.ProcessorsAndConnectors : Prop :=
  ∀ (s : State),
    (∀ p : Fin 32, exec (.watchdogWrite p) s = .next s
      ∧ (s.procState p.val = 2 → ∃ t, exec (.restartAlone p) s = .next t ∧ t.procState p.val = 1 ∧ t.dev = s.dev)
      ∧ (s.procState p.val ≠ 2 → exec (.restartAlone p) s = .next s)
      ∧ (s.procState p.val = 1 →
        let recent := (s.fw.expiries.get [] p.val).filter (fun t => decide ((s.reg .btime 0 - t).toNat < tickHour))
        (recent.length < 2 → ∃ t, exec (.watchdogExpiry p) s = .next t ∧ t.procState p.val = 2 ∧ t.reg .fwrest p.val = bumpCount (s.reg .fwrest p.val) 1 ∧ t.spires = s.spires)
        ∧ (2 ≤ recent.length → ∃ t, exec (.watchdogExpiry p) s = .next t ∧ t.procState p.val = 3 ∧ (p.val = 1 → t.fld .pwstat 0 10 0 = 700)))
      ∧ (s.procState p.val ≠ 1 → exec (.watchdogExpiry p) s = .next s))
    ∧ (s.flashAtJ12 = true →
        (∀ a n, exec (.flashProgrammerAccess (.read a n)) s = .next { s with shown := s.fw.flash.readN a n })
        ∧ (∀ a d, ∃ t, exec (.flashProgrammerAccess (.write a d)) s = .next t ∧ (∀ i, i < d.length → t.fw.flash.read (a + i) = d.getD i 0) ∧ t.regs = s.regs ∧ t.dev = s.dev))
    ∧ (s.flashAtJ12 = false → ∀ op, exec (.flashProgrammerAccess op) s = .next { s with shown := [] })
    ∧ (∀ n : Sp, s.tapRight 4 = true →
        (s.confidential (s.spire n.val).vdid = false →
          ((s.spire n.val).run = .running → exec (.debugTapAccess (.halt n)) s = .next (s.setSpire n.val { s.spire n.val with run := .debug }))
          ∧ ((s.spire n.val).run = .debug → exec (.debugTapAccess (.resume n)) s = .next (s.setSpire n.val { s.spire n.val with run := .running, step := false })
              ∧ exec (.debugTapAccess (.step n)) s = .next (s.setSpire n.val { s.spire n.val with step := true }))
          ∧ (∀ r : Fin 32, exec (.debugTapAccess (.readReg n r)) s = .next { s with shown := bytesLE 8 ((s.spire n.val).regs.get 0 r.val).toNat }))
        ∧ (s.confidential (s.spire n.val).vdid = true → exec (.debugTapAccess (.halt n)) s = .next s ∧ exec (.debugTapAccess (.resume n)) s = .next s))
    ∧ (∀ a n, (s.tapRight 5 = true → s.tapMemory a n = true → s.keysHeld a n = true → s.mayTouch false a n = true → exec (.debugTapAccess (.readMem a n)) s = .next { s with shown := s.dev.readN a n })
        ∧ (s.tapRight 5 = false ∨ s.tapMemory a n = false ∨ s.keysHeld a n = false → exec (.debugTapAccess (.readMem a n)) s = .next { s with shown := [] }))
    ∧ (∀ a d, s.tapRight 6 = false ∨ s.tapMemory a d.length = false → exec (.debugTapAccess (.writeMem a d)) s = .next s)
    ∧ (∀ off r i, s.tapRight 1 = true → towAt (off / 8 * 8) = some (r, i) →
        exec (.debugTapAccess (.readPlace off)) s = .next { s with shown := bytesLE 8 (s.regView r i).toNat })

/-- R26, R93: an instruction whose guard is false and that may issue retires with no effect, a tile instruction without entering its queue; only an
encoding that R93 refuses faults whatever its guard. -/
def Sys2Proof.Claims.GuardedOff : Prop :=
  ∀ (s : State) (sp : Sp), (s.spire sp.val).issuing = true →
    let x := s.spire sp.val
    let goes (size : Nat) (gp : BitVec 3) (gn : BitVec 1) : Prop :=
      x.fetchFault size = false ∧ anyPoison x.poison x.pc size = false ∧ x.guard gp gn = false
    let off (i : Instr) (size : Nat) : Prop := ∃ t, exec i s = .next t ∧ Retires s t sp.val x size
    (∀ (i : Instr) (w w1 : W128), i.onSpire = some sp → encodeSpire i = some (w, w1) →
      (let size := if w.extractLsb' 0 8 = 0x60#8 then 32 else 16
       goes size (w.extractLsb' 8 3) (w.extractLsb' 11 1) →
       off i size ∨ ∃ q, exec i s = .next ((s.setSpire sp.val (x.issueFault Cause.illegal 0 0 q)).stepped sp.val)))
    ∧ (∀ f : FmtS, illegalS usesAlu f = false → goes 16 f.gp f.gn → ∀ row ∈ integerRows, off (row.1 sp f) 16)
    ∧ (∀ f : FmtS, illegalS {} f = false → goes 16 f.gp f.gn → off (.nop sp f) 16 ∧ off (.eok sp f) 16)
    ∧ (∀ f : FmtM, illegalM f = false → goes 16 f.gp f.gn → off (.mma sp f) 16)
    ∧ (∀ f : FmtV, illegalV f = false → goes 32 f.gp f.gn → off (.vexpr sp f) 32)
    ∧ (∀ f : FmtX, guardReserved f.gp f.gn = false → f.rsv = 0 → f.ti = 0 → f.rb = 0 → f.sc = 0 → goes 16 f.gp f.gn → off (.tmove sp f) 16)

/-- Register file, p0 and s0, and instructions whose guard is false. -/
def Obligations.RegistersAndGuards : Prop := Claims.RegisterFile ∧ Claims.GuardedOff

/-- R91, R94 to R98: the words of every spire instruction decode to it, and a word that decodes is the word of its instruction (EXT has no fields, R93). -/
def Obligations.InstructionWordsRoundTrip : Prop :=
  (∀ (sp : Sp) (i : Instr), i.onSpire = some sp → ∃ w w1, encodeSpire i = some (w, w1) ∧ decodeSpire sp w w1 = some i)
  ∧ (∀ (sp : Sp) (i : Instr) (w w1 : W128), decodeSpire sp w w1 = some i → i ≠ .ext sp →
      i.onSpire = some sp ∧ ∃ v, encodeSpire i = some (w, v) ∧ (w.extractLsb' 0 8 = 0x60#8 → v = w1))

/-- R94 to R98: words written out from the encodings, and the instructions they stand for. -/
def Obligations.InstructionWordsRead : Prop :=
  ∀ sp : Sp,
    decodeSpire sp 0x00000000000000050000010000203000#128 0
      = some (.add sp { gp := 0, gn := 0, rd := 3, rs1 := 0, rs2 := 0, rs3 := 0, rm := 0, pd := 0, sz := 0, im := 1, x := 0, aux := 0, rsv := 0, imm := 5 })
    ∧ decodeSpire sp 0x00000000000000000000000000000000#128 0
      = some (.add sp { gp := 0, gn := 0, rd := 0, rs1 := 0, rs2 := 0, rs3 := 0, rm := 0, pd := 0, sz := 0, im := 0, x := 0, aux := 0, rsv := 0, imm := 0 })
    ∧ decodeSpire sp 0x000000000000000000000000000000F1#128 0
      = some (.eok sp { gp := 0, gn := 0, rd := 0, rs1 := 0, rs2 := 0, rs3 := 0, rm := 0, pd := 0, sz := 0, im := 0, x := 0, aux := 0, rsv := 0, imm := 0 })
    ∧ decodeSpire sp 0x000000000000000000000000000000FF#128 0 = some (.ext sp)
    ∧ decodeSpire sp 0x000000000000000000000000000000FE#128 0 = some (.ext sp)

/-- A fuse copy that is blown stays blown, and MINSVN never falls, whatever command runs (R430, R431, R480). -/
def Obligations.FusesStayBlown : Prop :=
  ∀ (s t : State), step s = .next t → (∀ k, s.sec.fuses.getLsbD k = true → t.sec.fuses.getLsbD k = true) ∧ s.sec.svn ≤ t.sec.svn

/-- Every byte memory of the module is in its canonical form, and its poison tables are. -/
def Sys2Proof.Claims.MemoriesCanonical (s : State) : Prop :=
  s.dev.wf = true ∧ s.devPoison.wf = true ∧ (∀ n, (s.spire n).spad.wf = true ∧ (s.spire n).poison.wf = true) ∧ ∀ p, (s.hostOf p).wf = true

/-- The model's memories stay in the one form that makes equal memories equal data, whatever command runs (the model's own invariant). -/
def Obligations.MemoriesStayCanonical : Prop :=
  ∀ (s t : State), MemoriesCanonical s → step s = .next t → MemoriesCanonical t

/-- What reset leaves: the registers at their Reset columns (R189, R439, R451, R460, R469, R484, R512 and their maps), no spire with a kernel,
no fence, no command waiting, and the memories in canonical form. That RAM is zero before it is filled, that the fuses are unblown and that the module
stands before start-up are choices of the model (the log entries on reset). -/
def Obligations.AfterReset : Prop :=
  (∀ (r : RegName) (i : Nat), State.reset.reg r i = rstAt r i)
  ∧ State.reset.reg .pwcap = 2000 ∧ State.reset.reg .thlim = 100 ∧ State.reset.fld .pwmoor 0 15 0 = 4096 ∧ State.reset.fld .pwmoor 0 31 16 = 100
  ∧ State.reset.bit .pwmoor 0 32 = true ∧ State.reset.fld .pwstat 0 10 0 = 1750 ∧ State.reset.reg .btime = 0 ∧ State.reset.reg .mtrseq = 1
  ∧ State.reset.reg .rltmo = 10000 ∧ State.reset.reg .cnrto = 50 ∧ State.reset.reg .tgham = 200000
  ∧ (∀ n, (State.reset.spire n).run = .free ∧ (State.reset.spire n).kernel = none ∧ (∀ r, (State.reset.spire n).getS r = 0))
  ∧ (∀ a, State.reset.dev.read a = 0) ∧ (∀ i, State.reset.fence i = none) ∧ State.reset.pending = [] ∧ State.reset.sec.fuses = 0
  ∧ State.reset.power.life = .held ∧ MemoriesCanonical State.reset

/-- R447, R497, R396: with no command waiting, a step is one tick of the belfry clock: BTIME counts while 54 V is on, and virtual devices in reset are active again; where none
is in reset and none has both a kernel that could start and a free spire, nothing else changes (logs 111 and 126). -/
def Obligations.IdleClock : Prop :=
  ∀ s : State, s.pending = [] →
    ∃ t, step s = .next t
      ∧ t.reg .btime = (if s.power.life = .off ∨ s.power.life = .opened then s.reg .btime else s.reg .btime + 1)
      ∧ (s.power.life ≠ .off → s.power.life ≠ .opened → ∀ v, v < 63 → s.vdState v = 2 → t.vdState v = 1)
      ∧ ((∀ v, v < 63 → s.vdState v ≠ 2) →
          (∀ v ∈ s.activeVds, s.mayFill v = false ∨ s.freeSpires v = [] ∨ ((s.vd v).oldest = none ∧ s.nextInstance v = none)) →
          t = { s with regs := t.regs } ∧ (∀ r i, r ≠ .btime → i < 2 ^ 20 → t.reg r i = s.reg r i))
end

