-- ==== Sys2Proof/Laws/Table.lean ====
section
/-! SUPPORT. Laws of sparse tables and byte memories: a read after a write, and the canonical form kept by every operation. -/

namespace Sys2Proof.Machine

variable {α : Type}

/-! ## Reads after writes -/

theorem lookupCell_insertCell_same (k : Nat) (v : α) (l : List (Nat × α)) : lookupCell k (insertCell k v l) = some v := by
  induction l with
  | nil => simp [insertCell, lookupCell]
  | cons c r ih =>
    obtain ⟨a, w⟩ := c
    by_cases h : k < a
    · simp [insertCell, h, lookupCell]
    · by_cases e : k = a
      · simp [insertCell, e, lookupCell]
      · simp [insertCell, h, e, lookupCell, Ne.symm e, ih]

theorem lookupCell_insertCell_ne {j k : Nat} (h : j ≠ k) (v : α) (l : List (Nat × α)) :
    lookupCell j (insertCell k v l) = lookupCell j l := by
  induction l with
  | nil => simp [insertCell, lookupCell, Ne.symm h]
  | cons c r ih =>
    obtain ⟨a, w⟩ := c
    by_cases h1 : k < a
    · simp [insertCell, h1, lookupCell, Ne.symm h]
    · by_cases e : k = a
      · subst e; simp [insertCell, lookupCell, Ne.symm h]
      · simp [insertCell, h1, e, lookupCell, ih]

theorem lookupCell_eraseCell_same (k : Nat) (l : List (Nat × α)) : lookupCell k (eraseCell k l) = none := by
  induction l with
  | nil => rfl
  | cons c r ih =>
    obtain ⟨a, w⟩ := c
    by_cases e : a = k
    · simpa [eraseCell, e] using ih
    · simpa [eraseCell, e, lookupCell] using ih

theorem lookupCell_eraseCell_ne {j k : Nat} (h : j ≠ k) (l : List (Nat × α)) :
    lookupCell j (eraseCell k l) = lookupCell j l := by
  induction l with
  | nil => rfl
  | cons c r ih =>
    obtain ⟨a, w⟩ := c
    by_cases e : a = k
    · subst e; simpa [eraseCell, lookupCell, Ne.symm h] using ih
    · simp only [eraseCell, List.filter_cons, e, ne_eq, not_false_eq_true, decide_true, if_true, lookupCell] at ih ⊢
      rw [ih]

@[simp] theorem Tab.find?_empty (k : Nat) : (Tab.empty : Tab α).find? k = none := rfl
@[simp] theorem Tab.find?_set_same (t : Tab α) (k : Nat) (v : α) : (t.set k v).find? k = some v :=
  lookupCell_insertCell_same k v t.cells
theorem Tab.find?_set_ne (t : Tab α) {j k : Nat} (h : j ≠ k) (v : α) : (t.set k v).find? j = t.find? j :=
  lookupCell_insertCell_ne h v t.cells
@[simp] theorem Tab.find?_erase_same (t : Tab α) (k : Nat) : (t.erase k).find? k = none :=
  lookupCell_eraseCell_same k t.cells
theorem Tab.find?_erase_ne (t : Tab α) {j k : Nat} (h : j ≠ k) : (t.erase k).find? j = t.find? j :=
  lookupCell_eraseCell_ne h t.cells

@[simp] theorem Tab.get_empty (d : α) (k : Nat) : (Tab.empty : Tab α).get d k = d := rfl
@[simp] theorem Tab.get_set_same (t : Tab α) (d : α) (k : Nat) (v : α) : (t.set k v).get d k = v := by simp [Tab.get]
theorem Tab.get_set_ne (t : Tab α) (d : α) {j k : Nat} (h : j ≠ k) (v : α) : (t.set k v).get d j = t.get d j := by
  simp [Tab.get, Tab.find?_set_ne t h]
@[simp] theorem Tab.get_erase_same (t : Tab α) (d : α) (k : Nat) : (t.erase k).get d k = d := by simp [Tab.get]
theorem Tab.get_erase_ne (t : Tab α) (d : α) {j k : Nat} (h : j ≠ k) : (t.erase k).get d j = t.get d j := by
  simp [Tab.get, Tab.find?_erase_ne t h]

/-- A read of what a write of one key put, at any key. -/
theorem Tab.get_set (t : Tab α) (d : α) (j k : Nat) (v : α) : (t.set k v).get d j = if j = k then v else t.get d j := by
  by_cases h : j = k
  · subst h; simp
  · simp [h, Tab.get_set_ne t d h]

@[simp] theorem Memory.read_zero (a : Nat) : Memory.zero.read a = 0#8 := rfl
@[simp] theorem Memory.read_write_same (m : Memory) (a : Nat) (b : Byte) : (m.write a b).read a = b := by
  by_cases h : b = Memory.unlisted
  · simp [Memory.write, Memory.read, h, lookupCell_eraseCell_same]
  · simp [Memory.write, Memory.read, h, lookupCell_insertCell_same]
theorem Memory.read_write_ne (m : Memory) {a c : Nat} (h : c ≠ a) (b : Byte) : (m.write a b).read c = m.read c := by
  by_cases e : b = Memory.unlisted
  · simp [Memory.write, Memory.read, e, lookupCell_eraseCell_ne h]
  · simp [Memory.write, Memory.read, e, lookupCell_insertCell_ne h]

/-- A write of bytes leaves every byte outside it. -/
theorem Memory.read_writeN_outside (bs : List Byte) (m : Memory) (a c : Nat) (h : c < a ∨ a + bs.length ≤ c) :
    (m.writeN a bs).read c = m.read c := by
  induction bs generalizing m a with
  | nil => rfl
  | cons b bs ih =>
    simp only [List.length_cons] at h
    rw [Memory.writeN, ih _ _ (by omega), Memory.read_write_ne _ (by omega)]

/-- Byte i of a write stands at its place. -/
theorem Memory.read_writeN_inside (bs : List Byte) (m : Memory) (a i : Nat) (h : i < bs.length) :
    (m.writeN a bs).read (a + i) = bs.getD i 0#8 := by
  induction bs generalizing m a i with
  | nil => simp at h
  | cons b bs ih =>
    cases i with
    | zero => rw [Memory.writeN, Memory.read_writeN_outside _ _ _ _ (by omega)]; simp
    | succ i =>
      have := ih (m.write a b) (a + 1) i (by simpa using h)
      rw [Memory.writeN, show a + (i + 1) = a + 1 + i by omega, this]; simp

/-- A cleared range reads as zero, and the rest as before. -/
theorem Memory.read_clear (m : Memory) (lo hi a : Nat) :
    (m.clear lo hi).read a = if lo ≤ a ∧ a < hi then 0#8 else m.read a := by
  obtain ⟨l⟩ := m
  simp only [Memory.clear, Memory.read]
  induction l with
  | nil => simp [lookupCell, Memory.unlisted]
  | cons c r ih =>
    obtain ⟨k, b⟩ := c
    by_cases h : lo ≤ k ∧ k < hi
    · by_cases e : k = a
      · subst e; simp only [List.filter_cons, h, and_self, not_true_eq_false, decide_false, Bool.false_eq_true, if_false] at ih ⊢
        simpa [h] using ih
      · simp only [List.filter_cons, h, and_self, not_true_eq_false, decide_false, Bool.false_eq_true, if_false, lookupCell, e]
        exact ih
    · by_cases e : k = a
      · subst e
        simp only [List.filter_cons, h, not_false_eq_true, decide_true, if_true, lookupCell, if_false]
      · simp only [List.filter_cons, h, not_false_eq_true, decide_true, if_true, lookupCell, e, if_false]
        exact ih

/-! ## The canonical form -/

theorem risingKeys_tail {c : Nat × α} {l : List (Nat × α)} (h : risingKeys (c :: l)) : risingKeys l := by
  cases l with
  | nil => rfl
  | cons d r => obtain ⟨a, v⟩ := c; obtain ⟨b, w⟩ := d; simp [risingKeys] at h; exact h.2

/-- Every key of a rising list lies above its head. -/
theorem risingKeys_head {c : Nat × α} {l : List (Nat × α)} (h : risingKeys (c :: l)) : ∀ d ∈ l, c.1 < d.1 := by
  induction l generalizing c with
  | nil => simp
  | cons d r ih =>
    obtain ⟨a, v⟩ := c
    obtain ⟨b, w⟩ := d
    simp [risingKeys] at h
    intro e he
    rcases List.mem_cons.mp he with rfl | he
    · exact h.1
    · exact Nat.lt_trans h.1 (ih h.2 e he)

theorem risingKeys_cons {c : Nat × α} {l : List (Nat × α)} (h1 : ∀ d ∈ l, c.1 < d.1) (h2 : risingKeys l) : risingKeys (c :: l) := by
  obtain ⟨a, v⟩ := c
  cases l with
  | nil => rfl
  | cons d r => obtain ⟨b, w⟩ := d; simp [risingKeys, h2]; exact h1 (b, w) (by simp)

theorem mem_insertCell {k : Nat} {v : α} {l : List (Nat × α)} {d : Nat × α} (h : d ∈ insertCell k v l) : d = (k, v) ∨ d ∈ l := by
  induction l with
  | nil => simpa [insertCell] using h
  | cons c r ih =>
    obtain ⟨a, w⟩ := c
    by_cases h1 : k < a
    · simp [insertCell, h1] at h; simpa using h
    · by_cases e : k = a
      · simp [insertCell, e] at h; rcases h with h | h <;> simp [h, e]
      · simp [insertCell, h1, e] at h
        rcases h with h | h
        · simp [h]
        · rcases ih h with h | h <;> simp [h]

theorem risingKeys_insertCell (k : Nat) (v : α) {l : List (Nat × α)} (h : risingKeys l) : risingKeys (insertCell k v l) := by
  induction l with
  | nil => rfl
  | cons c r ih =>
    have hh := risingKeys_head h
    have ht := risingKeys_tail h
    obtain ⟨a, w⟩ := c
    by_cases h1 : k < a
    · simp only [insertCell, h1, if_true]
      exact risingKeys_cons (by intro d hd; rcases List.mem_cons.mp hd with rfl | hd; exact h1; exact Nat.lt_trans h1 (hh d hd)) h
    · by_cases e : k = a
      · subst e; simp only [insertCell, Nat.lt_irrefl, if_false, if_true]
        exact risingKeys_cons hh ht
      · simp only [insertCell, h1, e, if_false]
        refine risingKeys_cons ?_ (ih ht)
        intro d hd
        rcases mem_insertCell hd with rfl | hd
        · simp; omega
        · exact hh d hd

theorem risingKeys_filter (p : Nat × α → Bool) {l : List (Nat × α)} (h : risingKeys l) : risingKeys (l.filter p) := by
  induction l with
  | nil => rfl
  | cons c r ih =>
    by_cases hp : p c
    · simp only [List.filter_cons, hp, if_true]
      exact risingKeys_cons (fun d hd => risingKeys_head h d (List.mem_filter.mp hd).1) (ih (risingKeys_tail h))
    · simpa [List.filter_cons, hp] using ih (risingKeys_tail h)

theorem risingKeys_append {l r : List (Nat × α)} (hl : risingKeys l) (hr : risingKeys r) (h : ∀ c ∈ l, ∀ d ∈ r, c.1 < d.1) :
    risingKeys (l ++ r) := by
  induction l with
  | nil => exact hr
  | cons c t ih =>
    refine risingKeys_cons ?_ (ih (risingKeys_tail hl) (fun c' hc d hd => h c' (by simp [hc]) d hd))
    intro d hd
    rcases List.mem_append.mp hd with hd | hd
    · exact risingKeys_head hl d hd
    · exact h c (by simp) d hd

theorem risingKeys_shift (off base : Nat) {l : List (Nat × α)} (h : risingKeys l) (ho : ∀ c ∈ l, off ≤ c.1) :
    risingKeys (l.map (fun c => (c.1 - off + base, c.2))) := by
  induction l with
  | nil => rfl
  | cons c r ih =>
    refine risingKeys_cons ?_ (ih (risingKeys_tail h) (fun d hd => ho d (by simp [hd])))
    intro d hd
    obtain ⟨e, he, rfl⟩ := List.mem_map.mp hd
    have h1 := risingKeys_head h e he
    have h2 := ho c (by simp)
    simp; omega

/-- The canonical form of a spliced list. -/
theorem risingKeys_splice (base len off : Nat) {l r : List (Nat × α)} (hl : risingKeys l) (hr : risingKeys r) :
    risingKeys (l.filter (fun c => c.1 < base)
      ++ (r.filter (fun c => off ≤ c.1 ∧ c.1 < off + len)).map (fun c => (c.1 - off + base, c.2))
      ++ l.filter (fun c => base + len ≤ c.1)) := by
  refine risingKeys_append (risingKeys_append (risingKeys_filter _ hl) (risingKeys_shift off base (risingKeys_filter _ hr) ?_) ?_)
    (risingKeys_filter _ hl) ?_
  · intro c hc; have := (List.mem_filter.mp hc).2; simp at this; exact this.1
  · intro c hc d hd
    obtain ⟨e, _, rfl⟩ := List.mem_map.mp hd
    have := (List.mem_filter.mp hc).2
    simp at this ⊢; omega
  · intro c hc d hd
    have hd' := (List.mem_filter.mp hd).2
    simp at hd'
    rcases List.mem_append.mp hc with hc | hc
    · have := (List.mem_filter.mp hc).2; simp at this; omega
    · obtain ⟨e, he, rfl⟩ := List.mem_map.mp hc
      have := (List.mem_filter.mp he).2
      simp at this ⊢; omega

@[simp] theorem Tab.wf_empty : (Tab.empty : Tab α).wf = true := rfl
theorem Tab.wf_set (t : Tab α) (k : Nat) (v : α) (h : t.wf) : (t.set k v).wf := risingKeys_insertCell k v h
theorem Tab.wf_erase (t : Tab α) (k : Nat) (h : t.wf) : (t.erase k).wf := risingKeys_filter _ h
theorem Tab.wf_filter (t : Tab α) (p : Nat × α → Bool) (h : t.wf) : Tab.wf ⟨t.cells.filter p⟩ := risingKeys_filter _ h
theorem Tab.wf_splice (t src : Tab α) (base len off : Nat) (h : t.wf) (g : src.wf) : (t.splice base len src off).wf :=
  risingKeys_splice base len off h g

@[simp] theorem Memory.wf_zero : Memory.zero.wf = true := rfl

theorem Memory.wf_write (m : Memory) (a : Nat) (b : Byte) (h : m.wf) : (m.write a b).wf := by
  simp only [Memory.wf, Bool.and_eq_true, List.all_eq_true] at h ⊢
  by_cases e : b = Memory.unlisted
  · simp only [Memory.write, e, if_true, eraseCell]
    exact ⟨risingKeys_filter _ h.1, fun c hc => h.2 c (List.mem_filter.mp hc).1⟩
  · simp only [Memory.write, e, if_false]
    refine ⟨risingKeys_insertCell a b h.1, fun c hc => ?_⟩
    rcases mem_insertCell hc with rfl | hc
    · simpa using e
    · exact h.2 c hc

theorem Memory.wf_writeN (bs : List Byte) (m : Memory) (a : Nat) (h : m.wf) : (m.writeN a bs).wf := by
  induction bs generalizing m a with
  | nil => exact h
  | cons b bs ih => exact ih _ _ (Memory.wf_write m a b h)

theorem Memory.wf_writeLE (m : Memory) (a n v : Nat) (h : m.wf) : (m.writeLE a n v).wf := Memory.wf_writeN _ m a h

theorem Memory.wf_filter (m : Memory) (p : Host.Cell → Bool) (h : m.wf) : Memory.wf ⟨m.cells.filter p⟩ := by
  simp only [Memory.wf, Bool.and_eq_true, List.all_eq_true] at h ⊢
  exact ⟨risingKeys_filter _ h.1, fun c hc => h.2 c (List.mem_filter.mp hc).1⟩

theorem Memory.wf_clear (m : Memory) (lo hi : Nat) (h : m.wf) : (m.clear lo hi).wf := Memory.wf_filter m _ h

theorem Memory.wf_splice (m src : Memory) (base len off : Nat) (h : m.wf) (g : src.wf) : (m.splice base len src off).wf := by
  simp only [Memory.wf, Bool.and_eq_true, List.all_eq_true] at h g ⊢
  refine ⟨risingKeys_splice base len off h.1 g.1, fun c hc => ?_⟩
  simp only [Memory.splice, List.mem_append] at hc
  rcases hc with (hc | hc) | hc
  · exact h.2 c (List.mem_filter.mp hc).1
  · obtain ⟨e, he, rfl⟩ := List.mem_map.mp hc
    exact g.2 e (List.mem_filter.mp he).1
  · exact h.2 c (List.mem_filter.mp hc).1

end Sys2Proof.Machine
end

