-- ==== Sys2Proof/Laws/Mem.lean ====
section
/-! SUPPORT. Writes by granules: the pieces of a range cover it in order, and a write that meets no poison is the plain write. -/

namespace Sys2Proof.Machine

/-- No piece of a cut range is poisoned when the range is not. -/
theorem anyPoison_mono {p : Tab Unit} {a n b k : Nat} (h : anyPoison p a n = false) (hb : a ≤ b) (hk : b + k ≤ a + n) (hk0 : 0 < k) :
    anyPoison p b k = false := by
  simp only [anyPoison, List.any_eq_false, Bool.and_eq_true, decide_eq_true_eq] at h ⊢
  intro c hc hx
  refine h c hc ⟨⟨?_, ?_⟩, ?_⟩
  · exact Nat.le_trans (Nat.div_le_div_right hb) hx.1.1
  · exact Nat.le_trans hx.1.2 (Nat.div_le_div_right (by omega))
  · omega

/-- What a table lists is among its cells. -/
theorem mem_of_lookupCell {α : Type} {k : Nat} {v : α} {l : List (Nat × α)} (h : lookupCell k l = some v) : (k, v) ∈ l := by
  induction l with
  | nil => simp [lookupCell] at h
  | cons c r ih =>
    obtain ⟨a, w⟩ := c
    by_cases e : a = k
    · simp [lookupCell, e] at h; simp [e, h]
    · simp [lookupCell, e] at h; simp [ih h]

theorem not_poisoned {p : Tab Unit} {a n : Nat} (h : anyPoison p a n = false) (hn : n ≠ 0) : p.find? (a / 64) = none := by
  cases e : p.find? (a / 64) with
  | none => rfl
  | some u =>
    have hm := mem_of_lookupCell e
    simp only [anyPoison, List.any_eq_false, Bool.and_eq_true, decide_eq_true_eq] at h
    exact absurd ⟨⟨Nat.le_refl _, Nat.div_le_div_right (by omega)⟩, hn⟩ (h _ hm)

theorem Memory.writeN_append (m : Memory) (a : Nat) (x y : List Byte) : m.writeN a (x ++ y) = (m.writeN a x).writeN (a + x.length) y := by
  induction x generalizing m a with
  | nil => rfl
  | cons b x ih => simp only [List.cons_append, Memory.writeN, ih, List.length_cons]; congr 1; omega

/-- A write cut into granules, none of them poisoned, is the plain write. -/
theorem poke_fold (p : Tab Unit) (d : List Byte) (a : Nat) : ∀ (fuel b : Nat) (m : Memory), a ≤ b → b ≤ a + d.length →
    anyPoison p a d.length = false →
    (a + d.length - b = 0 ∨ (a + d.length - b) / 64 + 2 ≤ fuel + (if b % 64 = 0 then 1 else 0)) →
    (cutFrom 64 fuel b (a + d.length - b)).foldl
      (fun (r : Memory × Tab Unit × Bool) (g : Nat × Nat) =>
        let (m, p, bad) := r
        let (m, p, x) := pokeGranule m p g.1 ((d.drop (g.1 - a)).take g.2)
        (m, p, bad || x)) (m, p, false)
      = (m.writeN b (d.drop (b - a)), p, false) := by
  intro fuel
  induction fuel with
  | zero =>
    intro b m _ _ _ hf
    have : a + d.length - b = 0 := by rcases hf with hf | hf; exact hf; split at hf <;> omega
    have : d.drop (b - a) = [] := List.drop_eq_nil_of_le (by omega)
    simp [cutFrom, this, Memory.writeN]
  | succ fuel ih =>
    intro b m h1 h2 hp hf
    by_cases hn : a + d.length - b = 0
    · have : d.drop (b - a) = [] := List.drop_eq_nil_of_le (by omega)
      simp [cutFrom, hn, this, Memory.writeN]
    · have hk : 0 < min (a + d.length - b) (64 - b % 64) := by have := Nat.mod_lt b (show 0 < 64 by omega); omega
      have hle : min (a + d.length - b) (64 - b % 64) ≤ a + d.length - b := Nat.min_le_left _ _
      have hq := not_poisoned (anyPoison_mono hp h1 (show b + min (a + d.length - b) (64 - b % 64) ≤ a + d.length by omega) hk) (by omega)
      have hlen : ((d.drop (b - a)).take (min (a + d.length - b) (64 - b % 64))).length = min (a + d.length - b) (64 - b % 64) := by
        simp only [List.length_take, List.length_drop]; omega
      have hc : cutFrom 64 (fuel + 1) b (a + d.length - b)
          = (b, min (a + d.length - b) (64 - b % 64)) :: cutFrom 64 fuel (b + min (a + d.length - b) (64 - b % 64))
              (a + d.length - b - min (a + d.length - b) (64 - b % 64)) := by
        simp only [cutFrom, hn, if_false]
      have hg (l : List Byte) : pokeGranule m p b l = (m.writeN b l, p, false) := by simp [pokeGranule, hq]
      rw [hc, List.foldl_cons]
      simp only [hg, Bool.or_self]
      generalize hkk : min (a + d.length - b) (64 - b % 64) = k at *
      have step : a + d.length - b - k = a + d.length - (b + k) := by omega
      rw [step, ih (b + k) _ (by omega) (by omega) hp ?_]
      · congr 1
        have e : d.drop (b - a) = (d.drop (b - a)).take k ++ d.drop (b + k - a) := by
          have := List.take_append_drop k (d.drop (b - a))
          rw [List.drop_drop] at this
          rw [show b + k - a = b - a + k by omega]; exact this.symm
        conv => rhs; rw [e, Memory.writeN_append, hlen]
      · have hf := hf.resolve_left hn
        by_cases hfull : k = 64 - b % 64
        · have e0 : (b + k) % 64 = 0 := by omega
          rw [if_pos e0]
          split at hf <;> omega
        · left; omega

/-- R176: a write that meets no poisoned granule is the plain write. -/
theorem poke_clean (m : Memory) (p : Tab Unit) (a : Nat) (d : List Byte) (h : anyPoison p a d.length = false) :
    poke m p a d = (m.writeN a d, p, false) := by
  have := poke_fold p d a (d.length / 64 + 2) a m (Nat.le_refl _) (by omega) h (Or.inr (by rw [Nat.add_sub_cancel_left]; omega))
  simpa [poke, granules] using this

/-- The canonical form kept by a write granule by granule. -/
theorem poke_wf (m : Memory) (p : Tab Unit) (a : Nat) (d : List Byte) (hm : m.wf) (hp : p.wf) :
    (poke m p a d).1.wf ∧ (poke m p a d).2.1.wf := by
  unfold poke
  generalize granules a d.length = gs
  generalize false = bad
  induction gs generalizing m p bad with
  | nil => exact ⟨hm, hp⟩
  | cons g gs ih =>
    simp only [List.foldl_cons, pokeGranule]
    split
    · split
      · exact ih _ _ (Memory.wf_writeN _ _ _ hm) (Tab.wf_erase _ _ hp) _
      · exact ih _ _ hm hp _
    · exact ih _ _ (Memory.wf_writeN _ _ _ hm) hp _

end Sys2Proof.Machine
end

