-- ==== Sys2Proof/Laws/State.lean ====
section
/-! SUPPORT. Each field of the state after each plain update of the state. -/

namespace Sys2Proof.Machine

variable (s : State)

/-! `setReg` -/
@[simp] theorem State.pending_setReg (r : RegName) (i : Nat) (v : W64) : (s.setReg r i v).pending = s.pending := rfl
@[simp] theorem State.ctr_setReg (r : RegName) (i : Nat) (v : W64) : (s.setReg r i v).ctr = s.ctr := rfl
@[simp] theorem State.nextId_setReg (r : RegName) (i : Nat) (v : W64) : (s.setReg r i v).nextId = s.nextId := rfl
@[simp] theorem State.regs_setReg (r : RegName) (i : Nat) (v : W64) : (s.setReg r i v).regs = putReg s.regs r i v := rfl
@[simp] theorem State.spires_setReg (r : RegName) (i : Nat) (v : W64) : (s.setReg r i v).spires = s.spires := rfl
@[simp] theorem State.dev_setReg (r : RegName) (i : Nat) (v : W64) : (s.setReg r i v).dev = s.dev := rfl
@[simp] theorem State.devPoison_setReg (r : RegName) (i : Nat) (v : W64) : (s.setReg r i v).devPoison = s.devPoison := rfl
@[simp] theorem State.net_setReg (r : RegName) (i : Nat) (v : W64) : (s.setReg r i v).net = s.net := rfl
@[simp] theorem State.vds_setReg (r : RegName) (i : Nat) (v : W64) : (s.setReg r i v).vds = s.vds := rfl
@[simp] theorem State.evacs_setReg (r : RegName) (i : Nat) (v : W64) : (s.setReg r i v).evacs = s.evacs := rfl
@[simp] theorem State.objs_setReg (r : RegName) (i : Nat) (v : W64) : (s.setReg r i v).objs = s.objs := rfl
@[simp] theorem State.fabric_setReg (r : RegName) (i : Nat) (v : W64) : (s.setReg r i v).fabric = s.fabric := rfl
@[simp] theorem State.dispatches_setReg (r : RegName) (i : Nat) (v : W64) : (s.setReg r i v).dispatches = s.dispatches := rfl
@[simp] theorem State.tails_setReg (r : RegName) (i : Nat) (v : W64) : (s.setReg r i v).tails = s.tails := rfl
@[simp] theorem State.trans_setReg (r : RegName) (i : Nat) (v : W64) : (s.setReg r i v).trans = s.trans := rfl
@[simp] theorem State.basins_setReg (r : RegName) (i : Nat) (v : W64) : (s.setReg r i v).basins = s.basins := rfl
@[simp] theorem State.ports_setReg (r : RegName) (i : Nat) (v : W64) : (s.setReg r i v).ports = s.ports := rfl
@[simp] theorem State.fills_setReg (r : RegName) (i : Nat) (v : W64) : (s.setReg r i v).fills = s.fills := rfl
@[simp] theorem State.joins_setReg (r : RegName) (i : Nat) (v : W64) : (s.setReg r i v).joins = s.joins := rfl
@[simp] theorem State.engines_setReg (r : RegName) (i : Nat) (v : W64) : (s.setReg r i v).engines = s.engines := rfl
@[simp] theorem State.barges_setReg (r : RegName) (i : Nat) (v : W64) : (s.setReg r i v).barges = s.barges := rfl
@[simp] theorem State.sec_setReg (r : RegName) (i : Nat) (v : W64) : (s.setReg r i v).sec = s.sec := rfl
@[simp] theorem State.power_setReg (r : RegName) (i : Nat) (v : W64) : (s.setReg r i v).power = s.power := rfl
@[simp] theorem State.meter_setReg (r : RegName) (i : Nat) (v : W64) : (s.setReg r i v).meter = s.meter := rfl
@[simp] theorem State.fw_setReg (r : RegName) (i : Nat) (v : W64) : (s.setReg r i v).fw = s.fw := rfl
@[simp] theorem State.mons_setReg (r : RegName) (i : Nat) (v : W64) : (s.setReg r i v).mons = s.mons := rfl
@[simp] theorem State.unsampled_setReg (r : RegName) (i : Nat) (v : W64) : (s.setReg r i v).unsampled = s.unsampled := rfl
@[simp] theorem State.latches_setReg (r : RegName) (i : Nat) (v : W64) : (s.setReg r i v).latches = s.latches := rfl
@[simp] theorem State.bells_setReg (r : RegName) (i : Nat) (v : W64) : (s.setReg r i v).bells = s.bells := rfl
@[simp] theorem State.hostWrites_setReg (r : RegName) (i : Nat) (v : W64) : (s.setReg r i v).hostWrites = s.hostWrites := rfl
@[simp] theorem State.owed_setReg (r : RegName) (i : Nat) (v : W64) : (s.setReg r i v).owed = s.owed := rfl
@[simp] theorem State.shown_setReg (r : RegName) (i : Nat) (v : W64) : (s.setReg r i v).shown = s.shown := rfl
@[simp] theorem State.ep_setReg (r : RegName) (i : Nat) (v : W64) : (s.setReg r i v).ep = s.ep := rfl
@[simp] theorem State.hints_setReg (r : RegName) (i : Nat) (v : W64) : (s.setReg r i v).hints = s.hints := rfl
@[simp] theorem State.hot_setReg (r : RegName) (i : Nat) (v : W64) : (s.setReg r i v).hot = s.hot := rfl
@[simp] theorem State.hostMem_setReg (r : RegName) (i : Nat) (v : W64) : (s.setReg r i v).hostMem = s.hostMem := rfl
@[simp] theorem State.lost_setReg (r : RegName) (i : Nat) (v : W64) : (s.setReg r i v).lost = s.lost := rfl
@[simp] theorem State.msix_setReg (r : RegName) (i : Nat) (v : W64) : (s.setReg r i v).msix = s.msix := rfl

/-! `setSpire` -/
@[simp] theorem State.pending_setSpire (n : Nat) (x : Spire) : (s.setSpire n x).pending = s.pending := rfl
@[simp] theorem State.ctr_setSpire (n : Nat) (x : Spire) : (s.setSpire n x).ctr = s.ctr := rfl
@[simp] theorem State.nextId_setSpire (n : Nat) (x : Spire) : (s.setSpire n x).nextId = s.nextId := rfl
@[simp] theorem State.regs_setSpire (n : Nat) (x : Spire) : (s.setSpire n x).regs = s.regs := rfl
@[simp] theorem State.spires_setSpire (n : Nat) (x : Spire) : (s.setSpire n x).spires = s.spires.set n x := rfl
@[simp] theorem State.dev_setSpire (n : Nat) (x : Spire) : (s.setSpire n x).dev = s.dev := rfl
@[simp] theorem State.devPoison_setSpire (n : Nat) (x : Spire) : (s.setSpire n x).devPoison = s.devPoison := rfl
@[simp] theorem State.net_setSpire (n : Nat) (x : Spire) : (s.setSpire n x).net = s.net := rfl
@[simp] theorem State.vds_setSpire (n : Nat) (x : Spire) : (s.setSpire n x).vds = s.vds := rfl
@[simp] theorem State.evacs_setSpire (n : Nat) (x : Spire) : (s.setSpire n x).evacs = s.evacs := rfl
@[simp] theorem State.objs_setSpire (n : Nat) (x : Spire) : (s.setSpire n x).objs = s.objs := rfl
@[simp] theorem State.fabric_setSpire (n : Nat) (x : Spire) : (s.setSpire n x).fabric = s.fabric := rfl
@[simp] theorem State.dispatches_setSpire (n : Nat) (x : Spire) : (s.setSpire n x).dispatches = s.dispatches := rfl
@[simp] theorem State.tails_setSpire (n : Nat) (x : Spire) : (s.setSpire n x).tails = s.tails := rfl
@[simp] theorem State.trans_setSpire (n : Nat) (x : Spire) : (s.setSpire n x).trans = s.trans := rfl
@[simp] theorem State.basins_setSpire (n : Nat) (x : Spire) : (s.setSpire n x).basins = s.basins := rfl
@[simp] theorem State.ports_setSpire (n : Nat) (x : Spire) : (s.setSpire n x).ports = s.ports := rfl
@[simp] theorem State.fills_setSpire (n : Nat) (x : Spire) : (s.setSpire n x).fills = s.fills := rfl
@[simp] theorem State.joins_setSpire (n : Nat) (x : Spire) : (s.setSpire n x).joins = s.joins := rfl
@[simp] theorem State.engines_setSpire (n : Nat) (x : Spire) : (s.setSpire n x).engines = s.engines := rfl
@[simp] theorem State.barges_setSpire (n : Nat) (x : Spire) : (s.setSpire n x).barges = s.barges := rfl
@[simp] theorem State.sec_setSpire (n : Nat) (x : Spire) : (s.setSpire n x).sec = s.sec := rfl
@[simp] theorem State.power_setSpire (n : Nat) (x : Spire) : (s.setSpire n x).power = s.power := rfl
@[simp] theorem State.meter_setSpire (n : Nat) (x : Spire) : (s.setSpire n x).meter = s.meter := rfl
@[simp] theorem State.fw_setSpire (n : Nat) (x : Spire) : (s.setSpire n x).fw = s.fw := rfl
@[simp] theorem State.mons_setSpire (n : Nat) (x : Spire) : (s.setSpire n x).mons = s.mons := rfl
@[simp] theorem State.unsampled_setSpire (n : Nat) (x : Spire) : (s.setSpire n x).unsampled = s.unsampled := rfl
@[simp] theorem State.latches_setSpire (n : Nat) (x : Spire) : (s.setSpire n x).latches = s.latches := rfl
@[simp] theorem State.bells_setSpire (n : Nat) (x : Spire) : (s.setSpire n x).bells = s.bells := rfl
@[simp] theorem State.hostWrites_setSpire (n : Nat) (x : Spire) : (s.setSpire n x).hostWrites = s.hostWrites := rfl
@[simp] theorem State.owed_setSpire (n : Nat) (x : Spire) : (s.setSpire n x).owed = s.owed := rfl
@[simp] theorem State.shown_setSpire (n : Nat) (x : Spire) : (s.setSpire n x).shown = s.shown := rfl
@[simp] theorem State.ep_setSpire (n : Nat) (x : Spire) : (s.setSpire n x).ep = s.ep := rfl
@[simp] theorem State.hints_setSpire (n : Nat) (x : Spire) : (s.setSpire n x).hints = s.hints := rfl
@[simp] theorem State.hot_setSpire (n : Nat) (x : Spire) : (s.setSpire n x).hot = s.hot := rfl
@[simp] theorem State.hostMem_setSpire (n : Nat) (x : Spire) : (s.setSpire n x).hostMem = s.hostMem := rfl
@[simp] theorem State.lost_setSpire (n : Nat) (x : Spire) : (s.setSpire n x).lost = s.lost := rfl
@[simp] theorem State.msix_setSpire (n : Nat) (x : Spire) : (s.setSpire n x).msix = s.msix := rfl

/-! `setVd` -/
@[simp] theorem State.pending_setVd (v : Nat) (x : VdState) : (s.setVd v x).pending = s.pending := rfl
@[simp] theorem State.ctr_setVd (v : Nat) (x : VdState) : (s.setVd v x).ctr = s.ctr := rfl
@[simp] theorem State.nextId_setVd (v : Nat) (x : VdState) : (s.setVd v x).nextId = s.nextId := rfl
@[simp] theorem State.regs_setVd (v : Nat) (x : VdState) : (s.setVd v x).regs = s.regs := rfl
@[simp] theorem State.spires_setVd (v : Nat) (x : VdState) : (s.setVd v x).spires = s.spires := rfl
@[simp] theorem State.dev_setVd (v : Nat) (x : VdState) : (s.setVd v x).dev = s.dev := rfl
@[simp] theorem State.devPoison_setVd (v : Nat) (x : VdState) : (s.setVd v x).devPoison = s.devPoison := rfl
@[simp] theorem State.net_setVd (v : Nat) (x : VdState) : (s.setVd v x).net = s.net := rfl
@[simp] theorem State.vds_setVd (v : Nat) (x : VdState) : (s.setVd v x).vds = s.vds.set v x := rfl
@[simp] theorem State.evacs_setVd (v : Nat) (x : VdState) : (s.setVd v x).evacs = s.evacs := rfl
@[simp] theorem State.objs_setVd (v : Nat) (x : VdState) : (s.setVd v x).objs = s.objs := rfl
@[simp] theorem State.fabric_setVd (v : Nat) (x : VdState) : (s.setVd v x).fabric = s.fabric := rfl
@[simp] theorem State.dispatches_setVd (v : Nat) (x : VdState) : (s.setVd v x).dispatches = s.dispatches := rfl
@[simp] theorem State.tails_setVd (v : Nat) (x : VdState) : (s.setVd v x).tails = s.tails := rfl
@[simp] theorem State.trans_setVd (v : Nat) (x : VdState) : (s.setVd v x).trans = s.trans := rfl
@[simp] theorem State.basins_setVd (v : Nat) (x : VdState) : (s.setVd v x).basins = s.basins := rfl
@[simp] theorem State.ports_setVd (v : Nat) (x : VdState) : (s.setVd v x).ports = s.ports := rfl
@[simp] theorem State.fills_setVd (v : Nat) (x : VdState) : (s.setVd v x).fills = s.fills := rfl
@[simp] theorem State.joins_setVd (v : Nat) (x : VdState) : (s.setVd v x).joins = s.joins := rfl
@[simp] theorem State.engines_setVd (v : Nat) (x : VdState) : (s.setVd v x).engines = s.engines := rfl
@[simp] theorem State.barges_setVd (v : Nat) (x : VdState) : (s.setVd v x).barges = s.barges := rfl
@[simp] theorem State.sec_setVd (v : Nat) (x : VdState) : (s.setVd v x).sec = s.sec := rfl
@[simp] theorem State.power_setVd (v : Nat) (x : VdState) : (s.setVd v x).power = s.power := rfl
@[simp] theorem State.meter_setVd (v : Nat) (x : VdState) : (s.setVd v x).meter = s.meter := rfl
@[simp] theorem State.fw_setVd (v : Nat) (x : VdState) : (s.setVd v x).fw = s.fw := rfl
@[simp] theorem State.mons_setVd (v : Nat) (x : VdState) : (s.setVd v x).mons = s.mons := rfl
@[simp] theorem State.unsampled_setVd (v : Nat) (x : VdState) : (s.setVd v x).unsampled = s.unsampled := rfl
@[simp] theorem State.latches_setVd (v : Nat) (x : VdState) : (s.setVd v x).latches = s.latches := rfl
@[simp] theorem State.bells_setVd (v : Nat) (x : VdState) : (s.setVd v x).bells = s.bells := rfl
@[simp] theorem State.hostWrites_setVd (v : Nat) (x : VdState) : (s.setVd v x).hostWrites = s.hostWrites := rfl
@[simp] theorem State.owed_setVd (v : Nat) (x : VdState) : (s.setVd v x).owed = s.owed := rfl
@[simp] theorem State.shown_setVd (v : Nat) (x : VdState) : (s.setVd v x).shown = s.shown := rfl
@[simp] theorem State.ep_setVd (v : Nat) (x : VdState) : (s.setVd v x).ep = s.ep := rfl
@[simp] theorem State.hints_setVd (v : Nat) (x : VdState) : (s.setVd v x).hints = s.hints := rfl
@[simp] theorem State.hot_setVd (v : Nat) (x : VdState) : (s.setVd v x).hot = s.hot := rfl
@[simp] theorem State.hostMem_setVd (v : Nat) (x : VdState) : (s.setVd v x).hostMem = s.hostMem := rfl
@[simp] theorem State.lost_setVd (v : Nat) (x : VdState) : (s.setVd v x).lost = s.lost := rfl
@[simp] theorem State.msix_setVd (v : Nat) (x : VdState) : (s.setVd v x).msix = s.msix := rfl

/-! `setNet` -/
@[simp] theorem State.pending_setNet (x : Net) : (s.setNet x).pending = s.pending := rfl
@[simp] theorem State.ctr_setNet (x : Net) : (s.setNet x).ctr = s.ctr := rfl
@[simp] theorem State.nextId_setNet (x : Net) : (s.setNet x).nextId = s.nextId := rfl
@[simp] theorem State.regs_setNet (x : Net) : (s.setNet x).regs = s.regs := rfl
@[simp] theorem State.spires_setNet (x : Net) : (s.setNet x).spires = s.spires := rfl
@[simp] theorem State.dev_setNet (x : Net) : (s.setNet x).dev = s.dev := rfl
@[simp] theorem State.devPoison_setNet (x : Net) : (s.setNet x).devPoison = s.devPoison := rfl
@[simp] theorem State.net_setNet (x : Net) : (s.setNet x).net = x := rfl
@[simp] theorem State.vds_setNet (x : Net) : (s.setNet x).vds = s.vds := rfl
@[simp] theorem State.evacs_setNet (x : Net) : (s.setNet x).evacs = s.evacs := rfl
@[simp] theorem State.objs_setNet (x : Net) : (s.setNet x).objs = s.objs := rfl
@[simp] theorem State.fabric_setNet (x : Net) : (s.setNet x).fabric = s.fabric := rfl
@[simp] theorem State.dispatches_setNet (x : Net) : (s.setNet x).dispatches = s.dispatches := rfl
@[simp] theorem State.tails_setNet (x : Net) : (s.setNet x).tails = s.tails := rfl
@[simp] theorem State.trans_setNet (x : Net) : (s.setNet x).trans = s.trans := rfl
@[simp] theorem State.basins_setNet (x : Net) : (s.setNet x).basins = s.basins := rfl
@[simp] theorem State.ports_setNet (x : Net) : (s.setNet x).ports = s.ports := rfl
@[simp] theorem State.fills_setNet (x : Net) : (s.setNet x).fills = s.fills := rfl
@[simp] theorem State.joins_setNet (x : Net) : (s.setNet x).joins = s.joins := rfl
@[simp] theorem State.engines_setNet (x : Net) : (s.setNet x).engines = s.engines := rfl
@[simp] theorem State.barges_setNet (x : Net) : (s.setNet x).barges = s.barges := rfl
@[simp] theorem State.sec_setNet (x : Net) : (s.setNet x).sec = s.sec := rfl
@[simp] theorem State.power_setNet (x : Net) : (s.setNet x).power = s.power := rfl
@[simp] theorem State.meter_setNet (x : Net) : (s.setNet x).meter = s.meter := rfl
@[simp] theorem State.fw_setNet (x : Net) : (s.setNet x).fw = s.fw := rfl
@[simp] theorem State.mons_setNet (x : Net) : (s.setNet x).mons = s.mons := rfl
@[simp] theorem State.unsampled_setNet (x : Net) : (s.setNet x).unsampled = s.unsampled := rfl
@[simp] theorem State.latches_setNet (x : Net) : (s.setNet x).latches = s.latches := rfl
@[simp] theorem State.bells_setNet (x : Net) : (s.setNet x).bells = s.bells := rfl
@[simp] theorem State.hostWrites_setNet (x : Net) : (s.setNet x).hostWrites = s.hostWrites := rfl
@[simp] theorem State.owed_setNet (x : Net) : (s.setNet x).owed = s.owed := rfl
@[simp] theorem State.shown_setNet (x : Net) : (s.setNet x).shown = s.shown := rfl
@[simp] theorem State.ep_setNet (x : Net) : (s.setNet x).ep = s.ep := rfl
@[simp] theorem State.hints_setNet (x : Net) : (s.setNet x).hints = s.hints := rfl
@[simp] theorem State.hot_setNet (x : Net) : (s.setNet x).hot = s.hot := rfl
@[simp] theorem State.hostMem_setNet (x : Net) : (s.setNet x).hostMem = s.hostMem := rfl
@[simp] theorem State.lost_setNet (x : Net) : (s.setNet x).lost = s.lost := rfl
@[simp] theorem State.msix_setNet (x : Net) : (s.setNet x).msix = s.msix := rfl

/-! `setObjs` -/
@[simp] theorem State.pending_setObjs (x : Objs) : (s.setObjs x).pending = s.pending := rfl
@[simp] theorem State.ctr_setObjs (x : Objs) : (s.setObjs x).ctr = s.ctr := rfl
@[simp] theorem State.nextId_setObjs (x : Objs) : (s.setObjs x).nextId = s.nextId := rfl
@[simp] theorem State.regs_setObjs (x : Objs) : (s.setObjs x).regs = s.regs := rfl
@[simp] theorem State.spires_setObjs (x : Objs) : (s.setObjs x).spires = s.spires := rfl
@[simp] theorem State.dev_setObjs (x : Objs) : (s.setObjs x).dev = s.dev := rfl
@[simp] theorem State.devPoison_setObjs (x : Objs) : (s.setObjs x).devPoison = s.devPoison := rfl
@[simp] theorem State.net_setObjs (x : Objs) : (s.setObjs x).net = s.net := rfl
@[simp] theorem State.vds_setObjs (x : Objs) : (s.setObjs x).vds = s.vds := rfl
@[simp] theorem State.evacs_setObjs (x : Objs) : (s.setObjs x).evacs = s.evacs := rfl
@[simp] theorem State.objs_setObjs (x : Objs) : (s.setObjs x).objs = x := rfl
@[simp] theorem State.fabric_setObjs (x : Objs) : (s.setObjs x).fabric = s.fabric := rfl
@[simp] theorem State.dispatches_setObjs (x : Objs) : (s.setObjs x).dispatches = s.dispatches := rfl
@[simp] theorem State.tails_setObjs (x : Objs) : (s.setObjs x).tails = s.tails := rfl
@[simp] theorem State.trans_setObjs (x : Objs) : (s.setObjs x).trans = s.trans := rfl
@[simp] theorem State.basins_setObjs (x : Objs) : (s.setObjs x).basins = s.basins := rfl
@[simp] theorem State.ports_setObjs (x : Objs) : (s.setObjs x).ports = s.ports := rfl
@[simp] theorem State.fills_setObjs (x : Objs) : (s.setObjs x).fills = s.fills := rfl
@[simp] theorem State.joins_setObjs (x : Objs) : (s.setObjs x).joins = s.joins := rfl
@[simp] theorem State.engines_setObjs (x : Objs) : (s.setObjs x).engines = s.engines := rfl
@[simp] theorem State.barges_setObjs (x : Objs) : (s.setObjs x).barges = s.barges := rfl
@[simp] theorem State.sec_setObjs (x : Objs) : (s.setObjs x).sec = s.sec := rfl
@[simp] theorem State.power_setObjs (x : Objs) : (s.setObjs x).power = s.power := rfl
@[simp] theorem State.meter_setObjs (x : Objs) : (s.setObjs x).meter = s.meter := rfl
@[simp] theorem State.fw_setObjs (x : Objs) : (s.setObjs x).fw = s.fw := rfl
@[simp] theorem State.mons_setObjs (x : Objs) : (s.setObjs x).mons = s.mons := rfl
@[simp] theorem State.unsampled_setObjs (x : Objs) : (s.setObjs x).unsampled = s.unsampled := rfl
@[simp] theorem State.latches_setObjs (x : Objs) : (s.setObjs x).latches = s.latches := rfl
@[simp] theorem State.bells_setObjs (x : Objs) : (s.setObjs x).bells = s.bells := rfl
@[simp] theorem State.hostWrites_setObjs (x : Objs) : (s.setObjs x).hostWrites = s.hostWrites := rfl
@[simp] theorem State.owed_setObjs (x : Objs) : (s.setObjs x).owed = s.owed := rfl
@[simp] theorem State.shown_setObjs (x : Objs) : (s.setObjs x).shown = s.shown := rfl
@[simp] theorem State.ep_setObjs (x : Objs) : (s.setObjs x).ep = s.ep := rfl
@[simp] theorem State.hints_setObjs (x : Objs) : (s.setObjs x).hints = s.hints := rfl
@[simp] theorem State.hot_setObjs (x : Objs) : (s.setObjs x).hot = s.hot := rfl
@[simp] theorem State.hostMem_setObjs (x : Objs) : (s.setObjs x).hostMem = s.hostMem := rfl
@[simp] theorem State.lost_setObjs (x : Objs) : (s.setObjs x).lost = s.lost := rfl
@[simp] theorem State.msix_setObjs (x : Objs) : (s.setObjs x).msix = s.msix := rfl

/-! `setFabric` -/
@[simp] theorem State.pending_setFabric (x : Fabric) : (s.setFabric x).pending = s.pending := rfl
@[simp] theorem State.ctr_setFabric (x : Fabric) : (s.setFabric x).ctr = s.ctr := rfl
@[simp] theorem State.nextId_setFabric (x : Fabric) : (s.setFabric x).nextId = s.nextId := rfl
@[simp] theorem State.regs_setFabric (x : Fabric) : (s.setFabric x).regs = s.regs := rfl
@[simp] theorem State.spires_setFabric (x : Fabric) : (s.setFabric x).spires = s.spires := rfl
@[simp] theorem State.dev_setFabric (x : Fabric) : (s.setFabric x).dev = s.dev := rfl
@[simp] theorem State.devPoison_setFabric (x : Fabric) : (s.setFabric x).devPoison = s.devPoison := rfl
@[simp] theorem State.net_setFabric (x : Fabric) : (s.setFabric x).net = s.net := rfl
@[simp] theorem State.vds_setFabric (x : Fabric) : (s.setFabric x).vds = s.vds := rfl
@[simp] theorem State.evacs_setFabric (x : Fabric) : (s.setFabric x).evacs = s.evacs := rfl
@[simp] theorem State.objs_setFabric (x : Fabric) : (s.setFabric x).objs = s.objs := rfl
@[simp] theorem State.fabric_setFabric (x : Fabric) : (s.setFabric x).fabric = x := rfl
@[simp] theorem State.dispatches_setFabric (x : Fabric) : (s.setFabric x).dispatches = s.dispatches := rfl
@[simp] theorem State.tails_setFabric (x : Fabric) : (s.setFabric x).tails = s.tails := rfl
@[simp] theorem State.trans_setFabric (x : Fabric) : (s.setFabric x).trans = s.trans := rfl
@[simp] theorem State.basins_setFabric (x : Fabric) : (s.setFabric x).basins = s.basins := rfl
@[simp] theorem State.ports_setFabric (x : Fabric) : (s.setFabric x).ports = s.ports := rfl
@[simp] theorem State.fills_setFabric (x : Fabric) : (s.setFabric x).fills = s.fills := rfl
@[simp] theorem State.joins_setFabric (x : Fabric) : (s.setFabric x).joins = s.joins := rfl
@[simp] theorem State.engines_setFabric (x : Fabric) : (s.setFabric x).engines = s.engines := rfl
@[simp] theorem State.barges_setFabric (x : Fabric) : (s.setFabric x).barges = s.barges := rfl
@[simp] theorem State.sec_setFabric (x : Fabric) : (s.setFabric x).sec = s.sec := rfl
@[simp] theorem State.power_setFabric (x : Fabric) : (s.setFabric x).power = s.power := rfl
@[simp] theorem State.meter_setFabric (x : Fabric) : (s.setFabric x).meter = s.meter := rfl
@[simp] theorem State.fw_setFabric (x : Fabric) : (s.setFabric x).fw = s.fw := rfl
@[simp] theorem State.mons_setFabric (x : Fabric) : (s.setFabric x).mons = s.mons := rfl
@[simp] theorem State.unsampled_setFabric (x : Fabric) : (s.setFabric x).unsampled = s.unsampled := rfl
@[simp] theorem State.latches_setFabric (x : Fabric) : (s.setFabric x).latches = s.latches := rfl
@[simp] theorem State.bells_setFabric (x : Fabric) : (s.setFabric x).bells = s.bells := rfl
@[simp] theorem State.hostWrites_setFabric (x : Fabric) : (s.setFabric x).hostWrites = s.hostWrites := rfl
@[simp] theorem State.owed_setFabric (x : Fabric) : (s.setFabric x).owed = s.owed := rfl
@[simp] theorem State.shown_setFabric (x : Fabric) : (s.setFabric x).shown = s.shown := rfl
@[simp] theorem State.ep_setFabric (x : Fabric) : (s.setFabric x).ep = s.ep := rfl
@[simp] theorem State.hints_setFabric (x : Fabric) : (s.setFabric x).hints = s.hints := rfl
@[simp] theorem State.hot_setFabric (x : Fabric) : (s.setFabric x).hot = s.hot := rfl
@[simp] theorem State.hostMem_setFabric (x : Fabric) : (s.setFabric x).hostMem = s.hostMem := rfl
@[simp] theorem State.lost_setFabric (x : Fabric) : (s.setFabric x).lost = s.lost := rfl
@[simp] theorem State.msix_setFabric (x : Fabric) : (s.setFabric x).msix = s.msix := rfl

/-! `setTrans` -/
@[simp] theorem State.pending_setTrans (x : Trans) : (s.setTrans x).pending = s.pending := rfl
@[simp] theorem State.ctr_setTrans (x : Trans) : (s.setTrans x).ctr = s.ctr := rfl
@[simp] theorem State.nextId_setTrans (x : Trans) : (s.setTrans x).nextId = s.nextId := rfl
@[simp] theorem State.regs_setTrans (x : Trans) : (s.setTrans x).regs = s.regs := rfl
@[simp] theorem State.spires_setTrans (x : Trans) : (s.setTrans x).spires = s.spires := rfl
@[simp] theorem State.dev_setTrans (x : Trans) : (s.setTrans x).dev = s.dev := rfl
@[simp] theorem State.devPoison_setTrans (x : Trans) : (s.setTrans x).devPoison = s.devPoison := rfl
@[simp] theorem State.net_setTrans (x : Trans) : (s.setTrans x).net = s.net := rfl
@[simp] theorem State.vds_setTrans (x : Trans) : (s.setTrans x).vds = s.vds := rfl
@[simp] theorem State.evacs_setTrans (x : Trans) : (s.setTrans x).evacs = s.evacs := rfl
@[simp] theorem State.objs_setTrans (x : Trans) : (s.setTrans x).objs = s.objs := rfl
@[simp] theorem State.fabric_setTrans (x : Trans) : (s.setTrans x).fabric = s.fabric := rfl
@[simp] theorem State.dispatches_setTrans (x : Trans) : (s.setTrans x).dispatches = s.dispatches := rfl
@[simp] theorem State.tails_setTrans (x : Trans) : (s.setTrans x).tails = s.tails := rfl
@[simp] theorem State.trans_setTrans (x : Trans) : (s.setTrans x).trans = x := rfl
@[simp] theorem State.basins_setTrans (x : Trans) : (s.setTrans x).basins = s.basins := rfl
@[simp] theorem State.ports_setTrans (x : Trans) : (s.setTrans x).ports = s.ports := rfl
@[simp] theorem State.fills_setTrans (x : Trans) : (s.setTrans x).fills = s.fills := rfl
@[simp] theorem State.joins_setTrans (x : Trans) : (s.setTrans x).joins = s.joins := rfl
@[simp] theorem State.engines_setTrans (x : Trans) : (s.setTrans x).engines = s.engines := rfl
@[simp] theorem State.barges_setTrans (x : Trans) : (s.setTrans x).barges = s.barges := rfl
@[simp] theorem State.sec_setTrans (x : Trans) : (s.setTrans x).sec = s.sec := rfl
@[simp] theorem State.power_setTrans (x : Trans) : (s.setTrans x).power = s.power := rfl
@[simp] theorem State.meter_setTrans (x : Trans) : (s.setTrans x).meter = s.meter := rfl
@[simp] theorem State.fw_setTrans (x : Trans) : (s.setTrans x).fw = s.fw := rfl
@[simp] theorem State.mons_setTrans (x : Trans) : (s.setTrans x).mons = s.mons := rfl
@[simp] theorem State.unsampled_setTrans (x : Trans) : (s.setTrans x).unsampled = s.unsampled := rfl
@[simp] theorem State.latches_setTrans (x : Trans) : (s.setTrans x).latches = s.latches := rfl
@[simp] theorem State.bells_setTrans (x : Trans) : (s.setTrans x).bells = s.bells := rfl
@[simp] theorem State.hostWrites_setTrans (x : Trans) : (s.setTrans x).hostWrites = s.hostWrites := rfl
@[simp] theorem State.owed_setTrans (x : Trans) : (s.setTrans x).owed = s.owed := rfl
@[simp] theorem State.shown_setTrans (x : Trans) : (s.setTrans x).shown = s.shown := rfl
@[simp] theorem State.ep_setTrans (x : Trans) : (s.setTrans x).ep = s.ep := rfl
@[simp] theorem State.hints_setTrans (x : Trans) : (s.setTrans x).hints = s.hints := rfl
@[simp] theorem State.hot_setTrans (x : Trans) : (s.setTrans x).hot = s.hot := rfl
@[simp] theorem State.hostMem_setTrans (x : Trans) : (s.setTrans x).hostMem = s.hostMem := rfl
@[simp] theorem State.lost_setTrans (x : Trans) : (s.setTrans x).lost = s.lost := rfl
@[simp] theorem State.msix_setTrans (x : Trans) : (s.setTrans x).msix = s.msix := rfl

/-! `setPort` -/
@[simp] theorem State.pending_setPort (u : Nat) (x : PortSt) : (s.setPort u x).pending = s.pending := rfl
@[simp] theorem State.ctr_setPort (u : Nat) (x : PortSt) : (s.setPort u x).ctr = s.ctr := rfl
@[simp] theorem State.nextId_setPort (u : Nat) (x : PortSt) : (s.setPort u x).nextId = s.nextId := rfl
@[simp] theorem State.regs_setPort (u : Nat) (x : PortSt) : (s.setPort u x).regs = s.regs := rfl
@[simp] theorem State.spires_setPort (u : Nat) (x : PortSt) : (s.setPort u x).spires = s.spires := rfl
@[simp] theorem State.dev_setPort (u : Nat) (x : PortSt) : (s.setPort u x).dev = s.dev := rfl
@[simp] theorem State.devPoison_setPort (u : Nat) (x : PortSt) : (s.setPort u x).devPoison = s.devPoison := rfl
@[simp] theorem State.net_setPort (u : Nat) (x : PortSt) : (s.setPort u x).net = s.net := rfl
@[simp] theorem State.vds_setPort (u : Nat) (x : PortSt) : (s.setPort u x).vds = s.vds := rfl
@[simp] theorem State.evacs_setPort (u : Nat) (x : PortSt) : (s.setPort u x).evacs = s.evacs := rfl
@[simp] theorem State.objs_setPort (u : Nat) (x : PortSt) : (s.setPort u x).objs = s.objs := rfl
@[simp] theorem State.fabric_setPort (u : Nat) (x : PortSt) : (s.setPort u x).fabric = s.fabric := rfl
@[simp] theorem State.dispatches_setPort (u : Nat) (x : PortSt) : (s.setPort u x).dispatches = s.dispatches := rfl
@[simp] theorem State.tails_setPort (u : Nat) (x : PortSt) : (s.setPort u x).tails = s.tails := rfl
@[simp] theorem State.trans_setPort (u : Nat) (x : PortSt) : (s.setPort u x).trans = s.trans := rfl
@[simp] theorem State.basins_setPort (u : Nat) (x : PortSt) : (s.setPort u x).basins = s.basins := rfl
@[simp] theorem State.ports_setPort (u : Nat) (x : PortSt) : (s.setPort u x).ports = s.ports.set u x := rfl
@[simp] theorem State.fills_setPort (u : Nat) (x : PortSt) : (s.setPort u x).fills = s.fills := rfl
@[simp] theorem State.joins_setPort (u : Nat) (x : PortSt) : (s.setPort u x).joins = s.joins := rfl
@[simp] theorem State.engines_setPort (u : Nat) (x : PortSt) : (s.setPort u x).engines = s.engines := rfl
@[simp] theorem State.barges_setPort (u : Nat) (x : PortSt) : (s.setPort u x).barges = s.barges := rfl
@[simp] theorem State.sec_setPort (u : Nat) (x : PortSt) : (s.setPort u x).sec = s.sec := rfl
@[simp] theorem State.power_setPort (u : Nat) (x : PortSt) : (s.setPort u x).power = s.power := rfl
@[simp] theorem State.meter_setPort (u : Nat) (x : PortSt) : (s.setPort u x).meter = s.meter := rfl
@[simp] theorem State.fw_setPort (u : Nat) (x : PortSt) : (s.setPort u x).fw = s.fw := rfl
@[simp] theorem State.mons_setPort (u : Nat) (x : PortSt) : (s.setPort u x).mons = s.mons := rfl
@[simp] theorem State.unsampled_setPort (u : Nat) (x : PortSt) : (s.setPort u x).unsampled = s.unsampled := rfl
@[simp] theorem State.latches_setPort (u : Nat) (x : PortSt) : (s.setPort u x).latches = s.latches := rfl
@[simp] theorem State.bells_setPort (u : Nat) (x : PortSt) : (s.setPort u x).bells = s.bells := rfl
@[simp] theorem State.hostWrites_setPort (u : Nat) (x : PortSt) : (s.setPort u x).hostWrites = s.hostWrites := rfl
@[simp] theorem State.owed_setPort (u : Nat) (x : PortSt) : (s.setPort u x).owed = s.owed := rfl
@[simp] theorem State.shown_setPort (u : Nat) (x : PortSt) : (s.setPort u x).shown = s.shown := rfl
@[simp] theorem State.ep_setPort (u : Nat) (x : PortSt) : (s.setPort u x).ep = s.ep := rfl
@[simp] theorem State.hints_setPort (u : Nat) (x : PortSt) : (s.setPort u x).hints = s.hints := rfl
@[simp] theorem State.hot_setPort (u : Nat) (x : PortSt) : (s.setPort u x).hot = s.hot := rfl
@[simp] theorem State.hostMem_setPort (u : Nat) (x : PortSt) : (s.setPort u x).hostMem = s.hostMem := rfl
@[simp] theorem State.lost_setPort (u : Nat) (x : PortSt) : (s.setPort u x).lost = s.lost := rfl
@[simp] theorem State.msix_setPort (u : Nat) (x : PortSt) : (s.setPort u x).msix = s.msix := rfl

/-! `setPower` -/
@[simp] theorem State.pending_setPower (x : Power) : (s.setPower x).pending = s.pending := rfl
@[simp] theorem State.ctr_setPower (x : Power) : (s.setPower x).ctr = s.ctr := rfl
@[simp] theorem State.nextId_setPower (x : Power) : (s.setPower x).nextId = s.nextId := rfl
@[simp] theorem State.regs_setPower (x : Power) : (s.setPower x).regs = s.regs := rfl
@[simp] theorem State.spires_setPower (x : Power) : (s.setPower x).spires = s.spires := rfl
@[simp] theorem State.dev_setPower (x : Power) : (s.setPower x).dev = s.dev := rfl
@[simp] theorem State.devPoison_setPower (x : Power) : (s.setPower x).devPoison = s.devPoison := rfl
@[simp] theorem State.net_setPower (x : Power) : (s.setPower x).net = s.net := rfl
@[simp] theorem State.vds_setPower (x : Power) : (s.setPower x).vds = s.vds := rfl
@[simp] theorem State.evacs_setPower (x : Power) : (s.setPower x).evacs = s.evacs := rfl
@[simp] theorem State.objs_setPower (x : Power) : (s.setPower x).objs = s.objs := rfl
@[simp] theorem State.fabric_setPower (x : Power) : (s.setPower x).fabric = s.fabric := rfl
@[simp] theorem State.dispatches_setPower (x : Power) : (s.setPower x).dispatches = s.dispatches := rfl
@[simp] theorem State.tails_setPower (x : Power) : (s.setPower x).tails = s.tails := rfl
@[simp] theorem State.trans_setPower (x : Power) : (s.setPower x).trans = s.trans := rfl
@[simp] theorem State.basins_setPower (x : Power) : (s.setPower x).basins = s.basins := rfl
@[simp] theorem State.ports_setPower (x : Power) : (s.setPower x).ports = s.ports := rfl
@[simp] theorem State.fills_setPower (x : Power) : (s.setPower x).fills = s.fills := rfl
@[simp] theorem State.joins_setPower (x : Power) : (s.setPower x).joins = s.joins := rfl
@[simp] theorem State.engines_setPower (x : Power) : (s.setPower x).engines = s.engines := rfl
@[simp] theorem State.barges_setPower (x : Power) : (s.setPower x).barges = s.barges := rfl
@[simp] theorem State.sec_setPower (x : Power) : (s.setPower x).sec = s.sec := rfl
@[simp] theorem State.power_setPower (x : Power) : (s.setPower x).power = x := rfl
@[simp] theorem State.meter_setPower (x : Power) : (s.setPower x).meter = s.meter := rfl
@[simp] theorem State.fw_setPower (x : Power) : (s.setPower x).fw = s.fw := rfl
@[simp] theorem State.mons_setPower (x : Power) : (s.setPower x).mons = s.mons := rfl
@[simp] theorem State.unsampled_setPower (x : Power) : (s.setPower x).unsampled = s.unsampled := rfl
@[simp] theorem State.latches_setPower (x : Power) : (s.setPower x).latches = s.latches := rfl
@[simp] theorem State.bells_setPower (x : Power) : (s.setPower x).bells = s.bells := rfl
@[simp] theorem State.hostWrites_setPower (x : Power) : (s.setPower x).hostWrites = s.hostWrites := rfl
@[simp] theorem State.owed_setPower (x : Power) : (s.setPower x).owed = s.owed := rfl
@[simp] theorem State.shown_setPower (x : Power) : (s.setPower x).shown = s.shown := rfl
@[simp] theorem State.ep_setPower (x : Power) : (s.setPower x).ep = s.ep := rfl
@[simp] theorem State.hints_setPower (x : Power) : (s.setPower x).hints = s.hints := rfl
@[simp] theorem State.hot_setPower (x : Power) : (s.setPower x).hot = s.hot := rfl
@[simp] theorem State.hostMem_setPower (x : Power) : (s.setPower x).hostMem = s.hostMem := rfl
@[simp] theorem State.lost_setPower (x : Power) : (s.setPower x).lost = s.lost := rfl
@[simp] theorem State.msix_setPower (x : Power) : (s.setPower x).msix = s.msix := rfl

/-! `setSec` -/
@[simp] theorem State.pending_setSec (x : Sec) : (s.setSec x).pending = s.pending := rfl
@[simp] theorem State.ctr_setSec (x : Sec) : (s.setSec x).ctr = s.ctr := rfl
@[simp] theorem State.nextId_setSec (x : Sec) : (s.setSec x).nextId = s.nextId := rfl
@[simp] theorem State.regs_setSec (x : Sec) : (s.setSec x).regs = s.regs := rfl
@[simp] theorem State.spires_setSec (x : Sec) : (s.setSec x).spires = s.spires := rfl
@[simp] theorem State.dev_setSec (x : Sec) : (s.setSec x).dev = s.dev := rfl
@[simp] theorem State.devPoison_setSec (x : Sec) : (s.setSec x).devPoison = s.devPoison := rfl
@[simp] theorem State.net_setSec (x : Sec) : (s.setSec x).net = s.net := rfl
@[simp] theorem State.vds_setSec (x : Sec) : (s.setSec x).vds = s.vds := rfl
@[simp] theorem State.evacs_setSec (x : Sec) : (s.setSec x).evacs = s.evacs := rfl
@[simp] theorem State.objs_setSec (x : Sec) : (s.setSec x).objs = s.objs := rfl
@[simp] theorem State.fabric_setSec (x : Sec) : (s.setSec x).fabric = s.fabric := rfl
@[simp] theorem State.dispatches_setSec (x : Sec) : (s.setSec x).dispatches = s.dispatches := rfl
@[simp] theorem State.tails_setSec (x : Sec) : (s.setSec x).tails = s.tails := rfl
@[simp] theorem State.trans_setSec (x : Sec) : (s.setSec x).trans = s.trans := rfl
@[simp] theorem State.basins_setSec (x : Sec) : (s.setSec x).basins = s.basins := rfl
@[simp] theorem State.ports_setSec (x : Sec) : (s.setSec x).ports = s.ports := rfl
@[simp] theorem State.fills_setSec (x : Sec) : (s.setSec x).fills = s.fills := rfl
@[simp] theorem State.joins_setSec (x : Sec) : (s.setSec x).joins = s.joins := rfl
@[simp] theorem State.engines_setSec (x : Sec) : (s.setSec x).engines = s.engines := rfl
@[simp] theorem State.barges_setSec (x : Sec) : (s.setSec x).barges = s.barges := rfl
@[simp] theorem State.sec_setSec (x : Sec) : (s.setSec x).sec = x := rfl
@[simp] theorem State.power_setSec (x : Sec) : (s.setSec x).power = s.power := rfl
@[simp] theorem State.meter_setSec (x : Sec) : (s.setSec x).meter = s.meter := rfl
@[simp] theorem State.fw_setSec (x : Sec) : (s.setSec x).fw = s.fw := rfl
@[simp] theorem State.mons_setSec (x : Sec) : (s.setSec x).mons = s.mons := rfl
@[simp] theorem State.unsampled_setSec (x : Sec) : (s.setSec x).unsampled = s.unsampled := rfl
@[simp] theorem State.latches_setSec (x : Sec) : (s.setSec x).latches = s.latches := rfl
@[simp] theorem State.bells_setSec (x : Sec) : (s.setSec x).bells = s.bells := rfl
@[simp] theorem State.hostWrites_setSec (x : Sec) : (s.setSec x).hostWrites = s.hostWrites := rfl
@[simp] theorem State.owed_setSec (x : Sec) : (s.setSec x).owed = s.owed := rfl
@[simp] theorem State.shown_setSec (x : Sec) : (s.setSec x).shown = s.shown := rfl
@[simp] theorem State.ep_setSec (x : Sec) : (s.setSec x).ep = s.ep := rfl
@[simp] theorem State.hints_setSec (x : Sec) : (s.setSec x).hints = s.hints := rfl
@[simp] theorem State.hot_setSec (x : Sec) : (s.setSec x).hot = s.hot := rfl
@[simp] theorem State.hostMem_setSec (x : Sec) : (s.setSec x).hostMem = s.hostMem := rfl
@[simp] theorem State.lost_setSec (x : Sec) : (s.setSec x).lost = s.lost := rfl
@[simp] theorem State.msix_setSec (x : Sec) : (s.setSec x).msix = s.msix := rfl

/-! `setMeter` -/
@[simp] theorem State.pending_setMeter (x : Meter) : (s.setMeter x).pending = s.pending := rfl
@[simp] theorem State.ctr_setMeter (x : Meter) : (s.setMeter x).ctr = s.ctr := rfl
@[simp] theorem State.nextId_setMeter (x : Meter) : (s.setMeter x).nextId = s.nextId := rfl
@[simp] theorem State.regs_setMeter (x : Meter) : (s.setMeter x).regs = s.regs := rfl
@[simp] theorem State.spires_setMeter (x : Meter) : (s.setMeter x).spires = s.spires := rfl
@[simp] theorem State.dev_setMeter (x : Meter) : (s.setMeter x).dev = s.dev := rfl
@[simp] theorem State.devPoison_setMeter (x : Meter) : (s.setMeter x).devPoison = s.devPoison := rfl
@[simp] theorem State.net_setMeter (x : Meter) : (s.setMeter x).net = s.net := rfl
@[simp] theorem State.vds_setMeter (x : Meter) : (s.setMeter x).vds = s.vds := rfl
@[simp] theorem State.evacs_setMeter (x : Meter) : (s.setMeter x).evacs = s.evacs := rfl
@[simp] theorem State.objs_setMeter (x : Meter) : (s.setMeter x).objs = s.objs := rfl
@[simp] theorem State.fabric_setMeter (x : Meter) : (s.setMeter x).fabric = s.fabric := rfl
@[simp] theorem State.dispatches_setMeter (x : Meter) : (s.setMeter x).dispatches = s.dispatches := rfl
@[simp] theorem State.tails_setMeter (x : Meter) : (s.setMeter x).tails = s.tails := rfl
@[simp] theorem State.trans_setMeter (x : Meter) : (s.setMeter x).trans = s.trans := rfl
@[simp] theorem State.basins_setMeter (x : Meter) : (s.setMeter x).basins = s.basins := rfl
@[simp] theorem State.ports_setMeter (x : Meter) : (s.setMeter x).ports = s.ports := rfl
@[simp] theorem State.fills_setMeter (x : Meter) : (s.setMeter x).fills = s.fills := rfl
@[simp] theorem State.joins_setMeter (x : Meter) : (s.setMeter x).joins = s.joins := rfl
@[simp] theorem State.engines_setMeter (x : Meter) : (s.setMeter x).engines = s.engines := rfl
@[simp] theorem State.barges_setMeter (x : Meter) : (s.setMeter x).barges = s.barges := rfl
@[simp] theorem State.sec_setMeter (x : Meter) : (s.setMeter x).sec = s.sec := rfl
@[simp] theorem State.power_setMeter (x : Meter) : (s.setMeter x).power = s.power := rfl
@[simp] theorem State.meter_setMeter (x : Meter) : (s.setMeter x).meter = x := rfl
@[simp] theorem State.fw_setMeter (x : Meter) : (s.setMeter x).fw = s.fw := rfl
@[simp] theorem State.mons_setMeter (x : Meter) : (s.setMeter x).mons = s.mons := rfl
@[simp] theorem State.unsampled_setMeter (x : Meter) : (s.setMeter x).unsampled = s.unsampled := rfl
@[simp] theorem State.latches_setMeter (x : Meter) : (s.setMeter x).latches = s.latches := rfl
@[simp] theorem State.bells_setMeter (x : Meter) : (s.setMeter x).bells = s.bells := rfl
@[simp] theorem State.hostWrites_setMeter (x : Meter) : (s.setMeter x).hostWrites = s.hostWrites := rfl
@[simp] theorem State.owed_setMeter (x : Meter) : (s.setMeter x).owed = s.owed := rfl
@[simp] theorem State.shown_setMeter (x : Meter) : (s.setMeter x).shown = s.shown := rfl
@[simp] theorem State.ep_setMeter (x : Meter) : (s.setMeter x).ep = s.ep := rfl
@[simp] theorem State.hints_setMeter (x : Meter) : (s.setMeter x).hints = s.hints := rfl
@[simp] theorem State.hot_setMeter (x : Meter) : (s.setMeter x).hot = s.hot := rfl
@[simp] theorem State.hostMem_setMeter (x : Meter) : (s.setMeter x).hostMem = s.hostMem := rfl
@[simp] theorem State.lost_setMeter (x : Meter) : (s.setMeter x).lost = s.lost := rfl
@[simp] theorem State.msix_setMeter (x : Meter) : (s.setMeter x).msix = s.msix := rfl

/-! `setFw` -/
@[simp] theorem State.pending_setFw (x : Fw) : (s.setFw x).pending = s.pending := rfl
@[simp] theorem State.ctr_setFw (x : Fw) : (s.setFw x).ctr = s.ctr := rfl
@[simp] theorem State.nextId_setFw (x : Fw) : (s.setFw x).nextId = s.nextId := rfl
@[simp] theorem State.regs_setFw (x : Fw) : (s.setFw x).regs = s.regs := rfl
@[simp] theorem State.spires_setFw (x : Fw) : (s.setFw x).spires = s.spires := rfl
@[simp] theorem State.dev_setFw (x : Fw) : (s.setFw x).dev = s.dev := rfl
@[simp] theorem State.devPoison_setFw (x : Fw) : (s.setFw x).devPoison = s.devPoison := rfl
@[simp] theorem State.net_setFw (x : Fw) : (s.setFw x).net = s.net := rfl
@[simp] theorem State.vds_setFw (x : Fw) : (s.setFw x).vds = s.vds := rfl
@[simp] theorem State.evacs_setFw (x : Fw) : (s.setFw x).evacs = s.evacs := rfl
@[simp] theorem State.objs_setFw (x : Fw) : (s.setFw x).objs = s.objs := rfl
@[simp] theorem State.fabric_setFw (x : Fw) : (s.setFw x).fabric = s.fabric := rfl
@[simp] theorem State.dispatches_setFw (x : Fw) : (s.setFw x).dispatches = s.dispatches := rfl
@[simp] theorem State.tails_setFw (x : Fw) : (s.setFw x).tails = s.tails := rfl
@[simp] theorem State.trans_setFw (x : Fw) : (s.setFw x).trans = s.trans := rfl
@[simp] theorem State.basins_setFw (x : Fw) : (s.setFw x).basins = s.basins := rfl
@[simp] theorem State.ports_setFw (x : Fw) : (s.setFw x).ports = s.ports := rfl
@[simp] theorem State.fills_setFw (x : Fw) : (s.setFw x).fills = s.fills := rfl
@[simp] theorem State.joins_setFw (x : Fw) : (s.setFw x).joins = s.joins := rfl
@[simp] theorem State.engines_setFw (x : Fw) : (s.setFw x).engines = s.engines := rfl
@[simp] theorem State.barges_setFw (x : Fw) : (s.setFw x).barges = s.barges := rfl
@[simp] theorem State.sec_setFw (x : Fw) : (s.setFw x).sec = s.sec := rfl
@[simp] theorem State.power_setFw (x : Fw) : (s.setFw x).power = s.power := rfl
@[simp] theorem State.meter_setFw (x : Fw) : (s.setFw x).meter = s.meter := rfl
@[simp] theorem State.fw_setFw (x : Fw) : (s.setFw x).fw = x := rfl
@[simp] theorem State.mons_setFw (x : Fw) : (s.setFw x).mons = s.mons := rfl
@[simp] theorem State.unsampled_setFw (x : Fw) : (s.setFw x).unsampled = s.unsampled := rfl
@[simp] theorem State.latches_setFw (x : Fw) : (s.setFw x).latches = s.latches := rfl
@[simp] theorem State.bells_setFw (x : Fw) : (s.setFw x).bells = s.bells := rfl
@[simp] theorem State.hostWrites_setFw (x : Fw) : (s.setFw x).hostWrites = s.hostWrites := rfl
@[simp] theorem State.owed_setFw (x : Fw) : (s.setFw x).owed = s.owed := rfl
@[simp] theorem State.shown_setFw (x : Fw) : (s.setFw x).shown = s.shown := rfl
@[simp] theorem State.ep_setFw (x : Fw) : (s.setFw x).ep = s.ep := rfl
@[simp] theorem State.hints_setFw (x : Fw) : (s.setFw x).hints = s.hints := rfl
@[simp] theorem State.hot_setFw (x : Fw) : (s.setFw x).hot = s.hot := rfl
@[simp] theorem State.hostMem_setFw (x : Fw) : (s.setFw x).hostMem = s.hostMem := rfl
@[simp] theorem State.lost_setFw (x : Fw) : (s.setFw x).lost = s.lost := rfl
@[simp] theorem State.msix_setFw (x : Fw) : (s.setFw x).msix = s.msix := rfl

/-! `free` and `fresh` -/
@[simp] theorem State.free_value : s.free.1 = Config.free s.ctr := rfl
@[simp] theorem State.fresh_value : s.fresh.1 = s.nextId := rfl
@[simp] theorem State.pending_free : s.free.2.pending = s.pending := rfl
@[simp] theorem State.ctr_free : s.free.2.ctr = s.ctr + 1 := rfl
@[simp] theorem State.nextId_free : s.free.2.nextId = s.nextId := rfl
@[simp] theorem State.regs_free : s.free.2.regs = s.regs := rfl
@[simp] theorem State.spires_free : s.free.2.spires = s.spires := rfl
@[simp] theorem State.dev_free : s.free.2.dev = s.dev := rfl
@[simp] theorem State.devPoison_free : s.free.2.devPoison = s.devPoison := rfl
@[simp] theorem State.net_free : s.free.2.net = s.net := rfl
@[simp] theorem State.vds_free : s.free.2.vds = s.vds := rfl
@[simp] theorem State.evacs_free : s.free.2.evacs = s.evacs := rfl
@[simp] theorem State.objs_free : s.free.2.objs = s.objs := rfl
@[simp] theorem State.fabric_free : s.free.2.fabric = s.fabric := rfl
@[simp] theorem State.dispatches_free : s.free.2.dispatches = s.dispatches := rfl
@[simp] theorem State.tails_free : s.free.2.tails = s.tails := rfl
@[simp] theorem State.trans_free : s.free.2.trans = s.trans := rfl
@[simp] theorem State.basins_free : s.free.2.basins = s.basins := rfl
@[simp] theorem State.ports_free : s.free.2.ports = s.ports := rfl
@[simp] theorem State.fills_free : s.free.2.fills = s.fills := rfl
@[simp] theorem State.joins_free : s.free.2.joins = s.joins := rfl
@[simp] theorem State.engines_free : s.free.2.engines = s.engines := rfl
@[simp] theorem State.barges_free : s.free.2.barges = s.barges := rfl
@[simp] theorem State.sec_free : s.free.2.sec = s.sec := rfl
@[simp] theorem State.power_free : s.free.2.power = s.power := rfl
@[simp] theorem State.meter_free : s.free.2.meter = s.meter := rfl
@[simp] theorem State.fw_free : s.free.2.fw = s.fw := rfl
@[simp] theorem State.mons_free : s.free.2.mons = s.mons := rfl
@[simp] theorem State.unsampled_free : s.free.2.unsampled = s.unsampled := rfl
@[simp] theorem State.latches_free : s.free.2.latches = s.latches := rfl
@[simp] theorem State.bells_free : s.free.2.bells = s.bells := rfl
@[simp] theorem State.hostWrites_free : s.free.2.hostWrites = s.hostWrites := rfl
@[simp] theorem State.owed_free : s.free.2.owed = s.owed := rfl
@[simp] theorem State.shown_free : s.free.2.shown = s.shown := rfl
@[simp] theorem State.ep_free : s.free.2.ep = s.ep := rfl
@[simp] theorem State.hints_free : s.free.2.hints = s.hints := rfl
@[simp] theorem State.hot_free : s.free.2.hot = s.hot := rfl
@[simp] theorem State.hostMem_free : s.free.2.hostMem = s.hostMem := rfl
@[simp] theorem State.lost_free : s.free.2.lost = s.lost := rfl
@[simp] theorem State.msix_free : s.free.2.msix = s.msix := rfl
@[simp] theorem State.pending_fresh : s.fresh.2.pending = s.pending := rfl
@[simp] theorem State.ctr_fresh : s.fresh.2.ctr = s.ctr := rfl
@[simp] theorem State.nextId_fresh : s.fresh.2.nextId = s.nextId + 1 := rfl
@[simp] theorem State.regs_fresh : s.fresh.2.regs = s.regs := rfl
@[simp] theorem State.spires_fresh : s.fresh.2.spires = s.spires := rfl
@[simp] theorem State.dev_fresh : s.fresh.2.dev = s.dev := rfl
@[simp] theorem State.devPoison_fresh : s.fresh.2.devPoison = s.devPoison := rfl
@[simp] theorem State.net_fresh : s.fresh.2.net = s.net := rfl
@[simp] theorem State.vds_fresh : s.fresh.2.vds = s.vds := rfl
@[simp] theorem State.evacs_fresh : s.fresh.2.evacs = s.evacs := rfl
@[simp] theorem State.objs_fresh : s.fresh.2.objs = s.objs := rfl
@[simp] theorem State.fabric_fresh : s.fresh.2.fabric = s.fabric := rfl
@[simp] theorem State.dispatches_fresh : s.fresh.2.dispatches = s.dispatches := rfl
@[simp] theorem State.tails_fresh : s.fresh.2.tails = s.tails := rfl
@[simp] theorem State.trans_fresh : s.fresh.2.trans = s.trans := rfl
@[simp] theorem State.basins_fresh : s.fresh.2.basins = s.basins := rfl
@[simp] theorem State.ports_fresh : s.fresh.2.ports = s.ports := rfl
@[simp] theorem State.fills_fresh : s.fresh.2.fills = s.fills := rfl
@[simp] theorem State.joins_fresh : s.fresh.2.joins = s.joins := rfl
@[simp] theorem State.engines_fresh : s.fresh.2.engines = s.engines := rfl
@[simp] theorem State.barges_fresh : s.fresh.2.barges = s.barges := rfl
@[simp] theorem State.sec_fresh : s.fresh.2.sec = s.sec := rfl
@[simp] theorem State.power_fresh : s.fresh.2.power = s.power := rfl
@[simp] theorem State.meter_fresh : s.fresh.2.meter = s.meter := rfl
@[simp] theorem State.fw_fresh : s.fresh.2.fw = s.fw := rfl
@[simp] theorem State.mons_fresh : s.fresh.2.mons = s.mons := rfl
@[simp] theorem State.unsampled_fresh : s.fresh.2.unsampled = s.unsampled := rfl
@[simp] theorem State.latches_fresh : s.fresh.2.latches = s.latches := rfl
@[simp] theorem State.bells_fresh : s.fresh.2.bells = s.bells := rfl
@[simp] theorem State.hostWrites_fresh : s.fresh.2.hostWrites = s.hostWrites := rfl
@[simp] theorem State.owed_fresh : s.fresh.2.owed = s.owed := rfl
@[simp] theorem State.shown_fresh : s.fresh.2.shown = s.shown := rfl
@[simp] theorem State.ep_fresh : s.fresh.2.ep = s.ep := rfl
@[simp] theorem State.hints_fresh : s.fresh.2.hints = s.hints := rfl
@[simp] theorem State.hot_fresh : s.fresh.2.hot = s.hot := rfl
@[simp] theorem State.hostMem_fresh : s.fresh.2.hostMem = s.hostMem := rfl
@[simp] theorem State.lost_fresh : s.fresh.2.lost = s.lost := rfl
@[simp] theorem State.msix_fresh : s.fresh.2.msix = s.msix := rfl

end Sys2Proof.Machine
end

