-- ==== Sys2Proof/Laws/Word.lean ====
section
/-! SUPPORT. Bit fields of numbers and words: a field read after it is written, and the fields that a write leaves. -/

namespace Sys2Proof

/-- A number cut at a field. -/
theorem split_at_field (v hi lo : Nat) (h : lo ≤ hi) :
    v = v / 2 ^ (hi + 1) * 2 ^ (hi + 1) + bitsOf v hi lo * 2 ^ lo + v % 2 ^ lo := by
  have e : 2 ^ (hi + 1) = 2 ^ lo * 2 ^ (hi + 1 - lo) := by rw [← Nat.pow_add]; congr 1; omega
  simp only [bitsOf, Nat.shiftRight_eq_div_pow]
  rw [e, ← Nat.div_div_eq_div_mul]
  have h1 := Nat.div_add_mod v (2 ^ lo)
  have h2 := Nat.div_add_mod (v / 2 ^ lo) (2 ^ (hi + 1 - lo))
  calc v = 2 ^ lo * (v / 2 ^ lo) + v % 2 ^ lo := h1.symm
    _ = 2 ^ lo * (2 ^ (hi + 1 - lo) * (v / 2 ^ lo / 2 ^ (hi + 1 - lo)) + v / 2 ^ lo % 2 ^ (hi + 1 - lo)) + v % 2 ^ lo := by rw [h2]
    _ = _ := by rw [Nat.mul_add]; ac_rfl

/-- What a field write leaves of the three parts. -/
theorem setBits_eq (v hi lo x : Nat) (h : lo ≤ hi) :
    setBits v hi lo x = v / 2 ^ (hi + 1) * 2 ^ (hi + 1) + x % 2 ^ (hi + 1 - lo) * 2 ^ lo + v % 2 ^ lo := by
  have e := split_at_field v hi lo h
  simp only [setBits, Nat.shiftLeft_eq]
  omega

theorem bitsOf_lt (v hi lo : Nat) : bitsOf v hi lo < 2 ^ (hi + 1 - lo) := Nat.mod_lt _ (Nat.two_pow_pos _)

/-- The parts of a number put together are its fields. -/
theorem bitsOf_parts (q y r hi lo : Nat) (h : lo ≤ hi) (hy : y < 2 ^ (hi + 1 - lo)) (hr : r < 2 ^ lo) :
    bitsOf (q * 2 ^ (hi + 1) + y * 2 ^ lo + r) hi lo = y := by
  have e : 2 ^ (hi + 1) = 2 ^ (hi + 1 - lo) * 2 ^ lo := by rw [← Nat.pow_add]; congr 1; omega
  simp only [bitsOf, Nat.shiftRight_eq_div_pow]
  have e2 : q * 2 ^ (hi + 1) + y * 2 ^ lo + r = r + (q * 2 ^ (hi + 1 - lo) + y) * 2 ^ lo := by
    rw [e, Nat.add_mul, Nat.mul_assoc]; omega
  rw [e2, Nat.add_mul_div_right _ _ (Nat.two_pow_pos lo), Nat.div_eq_of_lt hr, Nat.zero_add, Nat.add_comm, Nat.add_mul_mod_self_right,
    Nat.mod_eq_of_lt hy]

theorem bitsOf_setBits_same (v hi lo x : Nat) (h : lo ≤ hi) : bitsOf (setBits v hi lo x) hi lo = x % 2 ^ (hi + 1 - lo) := by
  rw [setBits_eq v hi lo x h]
  exact bitsOf_parts _ _ _ hi lo h (Nat.mod_lt _ (Nat.two_pow_pos _)) (Nat.mod_lt _ (Nat.two_pow_pos _))

/-- A field above the one written. -/
theorem bitsOf_setBits_above (v hi lo x h2 l2 : Nat) (h : lo ≤ hi) (d : hi < l2) : bitsOf (setBits v hi lo x) h2 l2 = bitsOf v h2 l2 := by
  have hlow : x % 2 ^ (hi + 1 - lo) * 2 ^ lo + v % 2 ^ lo < 2 ^ (hi + 1) := by
    have e : 2 ^ (hi + 1) = 2 ^ (hi + 1 - lo) * 2 ^ lo := by rw [← Nat.pow_add]; congr 1; omega
    have h1 : x % 2 ^ (hi + 1 - lo) + 1 ≤ 2 ^ (hi + 1 - lo) := Nat.mod_lt _ (Nat.two_pow_pos _)
    have h2 : v % 2 ^ lo < 2 ^ lo := Nat.mod_lt _ (Nat.two_pow_pos _)
    have h3 := Nat.mul_le_mul_right (2 ^ lo) h1
    rw [Nat.add_mul] at h3
    rw [e]; omega
  have key : setBits v hi lo x / 2 ^ (hi + 1) = v / 2 ^ (hi + 1) := by
    rw [setBits_eq v hi lo x h, Nat.add_assoc, Nat.add_comm, Nat.add_mul_div_right _ _ (Nat.two_pow_pos _), Nat.div_eq_of_lt hlow, Nat.zero_add]
  have e : 2 ^ l2 = 2 ^ (hi + 1) * 2 ^ (l2 - (hi + 1)) := by rw [← Nat.pow_add]; congr 1; omega
  simp only [bitsOf, Nat.shiftRight_eq_div_pow]
  rw [e, ← Nat.div_div_eq_div_mul, ← Nat.div_div_eq_div_mul, key]

/-- A field below the one written. -/
theorem bitsOf_setBits_below (v hi lo x h2 l2 : Nat) (h : lo ≤ hi) (d : h2 < lo) : bitsOf (setBits v hi lo x) h2 l2 = bitsOf v h2 l2 := by
  have e2 : 2 ^ (hi + 1) = 2 ^ (hi + 1 - lo) * 2 ^ lo := by rw [← Nat.pow_add]; congr 1; omega
  have key : setBits v hi lo x % 2 ^ lo = v % 2 ^ lo := by
    rw [setBits_eq v hi lo x h, e2, ← Nat.mul_assoc, ← Nat.add_mul, Nat.add_comm, Nat.add_mul_mod_self_right, Nat.mod_mod]
  have low (w : Nat) : bitsOf w h2 l2 = bitsOf (w % 2 ^ lo) h2 l2 := by
    by_cases hl : l2 ≤ h2 + 1
    · simp only [bitsOf, Nat.shiftRight_eq_div_pow]
      have f1 : 2 ^ lo = 2 ^ l2 * 2 ^ (lo - l2) := by rw [← Nat.pow_add]; congr 1; omega
      have f2 : 2 ^ (lo - l2) = 2 ^ (h2 + 1 - l2) * 2 ^ (lo - (h2 + 1)) := by rw [← Nat.pow_add]; congr 1; omega
      rw [f1, Nat.mod_mul_right_div_self, f2, Nat.mod_mul_right_mod]
    · have : h2 + 1 - l2 = 0 := by omega
      simp [bitsOf, this, Nat.mod_one]
  rw [low, key, ← low]

theorem setBits_lt (v hi lo x : Nat) (h : lo ≤ hi) (hh : hi < 64) (hv : v < 2 ^ 64) : setBits v hi lo x < 2 ^ 64 := by
  have e : (2 : Nat) ^ 64 = 2 ^ (63 - hi) * 2 ^ (hi + 1) := by rw [← Nat.pow_add]; congr 1; omega
  have hq : v / 2 ^ (hi + 1) < 2 ^ (63 - hi) := by
    rw [Nat.div_lt_iff_lt_mul (Nat.two_pow_pos _), ← e]; exact hv
  have hlow : x % 2 ^ (hi + 1 - lo) * 2 ^ lo + v % 2 ^ lo < 2 ^ (hi + 1) := by
    have e : 2 ^ (hi + 1) = 2 ^ (hi + 1 - lo) * 2 ^ lo := by rw [← Nat.pow_add]; congr 1; omega
    have h1 : x % 2 ^ (hi + 1 - lo) + 1 ≤ 2 ^ (hi + 1 - lo) := Nat.mod_lt _ (Nat.two_pow_pos _)
    have h2 : v % 2 ^ lo < 2 ^ lo := Nat.mod_lt _ (Nat.two_pow_pos _)
    have h3 := Nat.mul_le_mul_right (2 ^ lo) h1
    rw [Nat.add_mul] at h3
    rw [e]; omega
  rw [setBits_eq v hi lo x h, e]
  have h4 := Nat.mul_le_mul_right (2 ^ (hi + 1)) (show v / 2 ^ (hi + 1) + 1 ≤ 2 ^ (63 - hi) from hq)
  rw [Nat.add_mul] at h4
  omega

theorem W64.toNat_put (w : W64) (hi lo x : Nat) (h : lo ≤ hi) (hh : hi < 64) : (W64.put w hi lo x).toNat = setBits w.toNat hi lo x := by
  simp only [W64.put, BitVec.toNat_ofNat]
  exact Nat.mod_eq_of_lt (setBits_lt _ _ _ _ h hh w.isLt)

/-- A field read after it is written. -/
theorem W64.get_put_same (w : W64) (hi lo x : Nat) (h : lo ≤ hi) (hh : hi < 64) :
    W64.get (W64.put w hi lo x) hi lo = x % 2 ^ (hi + 1 - lo) := by
  rw [W64.get, W64.toNat_put w hi lo x h hh, bitsOf_setBits_same _ _ _ _ h]

/-- A field apart from the one written. -/
theorem W64.get_put_ne (w : W64) (hi lo x h2 l2 : Nat) (h : lo ≤ hi) (hh : hi < 64) (d : hi < l2 ∨ h2 < lo) :
    W64.get (W64.put w hi lo x) h2 l2 = W64.get w h2 l2 := by
  rw [W64.get, W64.toNat_put w hi lo x h hh]
  rcases d with d | d
  · exact bitsOf_setBits_above _ _ _ _ _ _ h d
  · exact bitsOf_setBits_below _ _ _ _ _ _ h d

/-- A bit is a field of its own. -/
theorem W64.getLsbD_eq_get (w : W64) (k : Nat) : w.getLsbD k = decide (W64.get w k k = 1) := by
  simp only [BitVec.getLsbD, W64.get, bitsOf, Nat.testBit, Nat.shiftRight_eq_div_pow]
  have : k + 1 - k = 1 := by omega
  rw [this, Nat.and_comm, Nat.and_one_is_mod]
  rcases Nat.mod_two_eq_zero_or_one (w.toNat / 2 ^ k) with h | h <;> simp [h]

end Sys2Proof
end

