-- ==== Sys2Proof/Laws/Regs.lean ====
section
/-! SUPPORT. Registers, spires and virtual devices after an update; fields of words; what posting an event, counting and retiring an
instruction can change. -/

namespace Sys2Proof.Machine

/-! ## Registers -/

theorem regKey_inj {r q : RegName} {i j : Nat} (hi : i < 2 ^ 20) (hj : j < 2 ^ 20) (h : regKey r i = regKey q j) :
    r.code = q.code ∧ i = j := by
  simp only [regKey] at h
  omega

@[simp] theorem State.reg_setReg_same (s : State) (r : RegName) (i : Nat) (v : W64) : (s.setReg r i v).reg r i = v := by
  simp only [State.setReg, State.reg, putReg]
  split
  · next h => simp [h]
  · simp

theorem State.reg_setReg_ne (s : State) {r q : RegName} {i j : Nat} (v : W64) (h : regKey q j ≠ regKey r i) :
    (s.setReg r i v).reg q j = s.reg q j := by
  simp only [State.setReg, State.reg, putReg]
  split
  · rw [Tab.get_erase_ne _ _ h]
  · rw [Tab.get_set_ne _ _ h]

/-- A field of a register read after it is set. -/
theorem State.fld_setFld_same (s : State) (r : RegName) (i hi lo x : Nat) (h : lo ≤ hi) (hh : hi < 64) :
    (s.setFld r i hi lo x).fld r i hi lo = x % 2 ^ (hi + 1 - lo) := by
  simp only [State.setFld, State.fld, State.reg_setReg_same]
  exact W64.get_put_same _ _ _ _ h hh

/-- Another field of the same register. -/
theorem State.fld_setFld_apart (s : State) (r : RegName) (i hi lo x h2 l2 : Nat) (h : lo ≤ hi) (hh : hi < 64) (d : hi < l2 ∨ h2 < lo) :
    (s.setFld r i hi lo x).fld r i h2 l2 = s.fld r i h2 l2 := by
  simp only [State.setFld, State.fld, State.reg_setReg_same]
  exact W64.get_put_ne _ _ _ _ _ _ h hh d

/-- A field of another register. -/
theorem State.fld_setReg_ne (s : State) {r q : RegName} {i j : Nat} (v : W64) (hi lo : Nat) (h : regKey q j ≠ regKey r i) :
    (s.setReg r i v).fld q j hi lo = s.fld q j hi lo := by
  simp only [State.fld, State.reg_setReg_ne s v h]

theorem State.fld_setFld_ne (s : State) {r q : RegName} {i j : Nat} (hi lo x h2 l2 : Nat) (h : regKey q j ≠ regKey r i) :
    (s.setFld r i hi lo x).fld q j h2 l2 = s.fld q j h2 l2 := State.fld_setReg_ne s _ h2 l2 h

/-- A bit of a register is a field of one bit. -/
theorem State.bit_eq_fld (s : State) (r : RegName) (i k : Nat) : s.bit r i k = decide (s.fld r i k k = 1) :=
  W64.getLsbD_eq_get _ _

variable (s : State)

@[simp] theorem State.reg_setSpire (n : Nat) (x : Spire) (r : RegName) (i : Nat) : (s.setSpire n x).reg r i = s.reg r i := rfl
@[simp] theorem State.reg_setVd (n : Nat) (x : VdState) (r : RegName) (i : Nat) : (s.setVd n x).reg r i = s.reg r i := rfl
@[simp] theorem State.reg_setNet (x : Net) (r : RegName) (i : Nat) : (s.setNet x).reg r i = s.reg r i := rfl
@[simp] theorem State.reg_setObjs (x : Objs) (r : RegName) (i : Nat) : (s.setObjs x).reg r i = s.reg r i := rfl
@[simp] theorem State.reg_setFabric (x : Fabric) (r : RegName) (i : Nat) : (s.setFabric x).reg r i = s.reg r i := rfl
@[simp] theorem State.reg_setTrans (x : Trans) (r : RegName) (i : Nat) : (s.setTrans x).reg r i = s.reg r i := rfl
@[simp] theorem State.reg_setPort (u : Nat) (x : PortSt) (r : RegName) (i : Nat) : (s.setPort u x).reg r i = s.reg r i := rfl
@[simp] theorem State.reg_setPower (x : Power) (r : RegName) (i : Nat) : (s.setPower x).reg r i = s.reg r i := rfl
@[simp] theorem State.reg_setSec (x : Sec) (r : RegName) (i : Nat) : (s.setSec x).reg r i = s.reg r i := rfl
@[simp] theorem State.reg_setMeter (x : Meter) (r : RegName) (i : Nat) : (s.setMeter x).reg r i = s.reg r i := rfl
@[simp] theorem State.reg_setFw (x : Fw) (r : RegName) (i : Nat) : (s.setFw x).reg r i = s.reg r i := rfl
@[simp] theorem State.reg_free (r : RegName) (i : Nat) : s.free.2.reg r i = s.reg r i := rfl
@[simp] theorem State.reg_fresh (r : RegName) (i : Nat) : s.fresh.2.reg r i = s.reg r i := rfl

/-! ## Spires and virtual devices -/

@[simp] theorem State.spire_setSpire_same (n : Nat) (x : Spire) : (s.setSpire n x).spire n = x := by
  simp [State.spire, State.setSpire]
theorem State.spire_setSpire_ne {m n : Nat} (h : m ≠ n) (x : Spire) : (s.setSpire n x).spire m = s.spire m := by
  simp [State.spire, State.setSpire, Tab.get_set_ne _ _ h]
@[simp] theorem State.spire_setReg (r : RegName) (i : Nat) (v : W64) (n : Nat) : (s.setReg r i v).spire n = s.spire n := rfl
@[simp] theorem State.spire_setFld (r : RegName) (i hi lo x n : Nat) : (s.setFld r i hi lo x).spire n = s.spire n := rfl
@[simp] theorem State.spire_setVd (v : Nat) (x : VdState) (n : Nat) : (s.setVd v x).spire n = s.spire n := rfl
@[simp] theorem State.spire_setNet (x : Net) (n : Nat) : (s.setNet x).spire n = s.spire n := rfl
@[simp] theorem State.spire_free (n : Nat) : s.free.2.spire n = s.spire n := rfl
@[simp] theorem State.spire_fresh (n : Nat) : s.fresh.2.spire n = s.spire n := rfl

@[simp] theorem State.vd_setVd_same (v : Nat) (x : VdState) : (s.setVd v x).vd v = x := by simp [State.vd, State.setVd]
theorem State.vd_setVd_ne {u v : Nat} (h : u ≠ v) (x : VdState) : (s.setVd v x).vd u = s.vd u := by
  simp [State.vd, State.setVd, Tab.get_set_ne _ _ h]
@[simp] theorem State.vd_setReg (r : RegName) (i : Nat) (w : W64) (v : Nat) : (s.setReg r i w).vd v = s.vd v := rfl
@[simp] theorem State.vd_setFld (r : RegName) (i hi lo x v : Nat) : (s.setFld r i hi lo x).vd v = s.vd v := rfl
@[simp] theorem State.vd_setSpire (n : Nat) (x : Spire) (v : Nat) : (s.setSpire n x).vd v = s.vd v := rfl

/-! ## Host memory, status rings and counters (R322, R505) -/

/-- Writing a status entry changes host memory, FSPROD and the messages sent. -/
theorem State.writeStatus_eq (fn : Nat) (e : Event) :
    ∃ r h m, s.writeStatus fn e = { s with regs := r, hostMem := h, msix := m } := ⟨_, _, _, rfl⟩

/-- Counting a dropped entry changes FSLOST and the entries lost. -/
theorem State.countLost_eq (fn : Nat) : ∃ r l, s.countLost fn = { s with regs := r, lost := l } := ⟨_, _, rfl⟩

/-- One function told of an overflow: an entry written, or one more dropped. -/
theorem State.tellOrLose_eq (f : Nat) (e : Event) :
    ∃ r h l m, (if s.statusRoom f then s.writeStatus f e else s.countLost f) = { s with regs := r, hostMem := h, lost := l, msix := m } := by
  split
  · obtain ⟨r, h, m, e⟩ := s.writeStatus_eq f e
    exact ⟨r, h, s.lost, m, by rw [e]⟩
  · obtain ⟨r, l, e⟩ := s.countLost_eq f
    exact ⟨r, s.hostMem, l, s.msix, by rw [e]⟩

/-- Dropping an entry changes registers, host memory, the messages sent and the entries lost, and nothing else. -/
theorem State.dropStatus_eq (fn : Nat) :
    ∃ r h l m, s.dropStatus fn = { s with regs := r, hostMem := h, lost := l, msix := m } := by
  unfold State.dropStatus
  dsimp only
  obtain ⟨r, l, e⟩ := s.countLost_eq fn
  rw [e]
  split
  · simp only [List.foldl_cons, List.foldl_nil]
    obtain ⟨r1, h1, l1, m1, e1⟩ := State.tellOrLose_eq { s with regs := r, lost := l } 0
      { code := 0x010C, vdid := 0x3F, arg0 := (bar0Offset .fslost fn).getD 0, arg1 := 0, arg2 := 0 }
    rw [e1]
    obtain ⟨r2, h2, l2, m2, e2⟩ := State.tellOrLose_eq { s with regs := r1, hostMem := h1, lost := l1, msix := m1 } 64
      { code := 0x010C, vdid := 0x3F, arg0 := (bar0Offset .fslost fn).getD 0, arg1 := 0, arg2 := 0 }
    exact ⟨r2, h2, l2, m2, e2⟩
  · exact ⟨r, s.hostMem, l, s.msix, rfl⟩

/-- Posting an event changes registers, host memory, the messages sent and the entries lost, and nothing else. -/
theorem State.post_eq (fn : Nat) (e : Event) :
    ∃ r h l m, s.post fn e = { s with regs := r, hostMem := h, lost := l, msix := m } := by
  unfold State.post
  split
  · exact s.dropStatus_eq fn
  · dsimp only
    generalize ht : (if s.lost.get 0 fn = 0 then s else _ : State) = t
    have h1 : ∃ r h l m, t = { s with regs := r, hostMem := h, lost := l, msix := m } := by
      rw [← ht]
      split
      · exact ⟨_, _, _, _, rfl⟩
      · obtain ⟨r, h, m, e⟩ := s.writeStatus_eq fn { code := 0x0007, vdid := 0x3F, arg0 := s.lost.get 0 fn, arg1 := 0, arg2 := 0 }
        exact ⟨r, h, _, m, by rw [e]⟩
    obtain ⟨r, h, l, m, rfl⟩ := h1
    split
    · obtain ⟨r', h', m', e'⟩ := State.writeStatus_eq { s with regs := r, hostMem := h, lost := l, msix := m } fn e
      exact ⟨r', h', l, m', by rw [e']⟩
    · exact State.dropStatus_eq { s with regs := r, hostMem := h, lost := l, msix := m } fn

theorem State.postPFs_eq (e : Event) :
    ∃ r h l m, s.postPFs e = { s with regs := r, hostMem := h, lost := l, msix := m } := by
  obtain ⟨r, h, l, m, h1⟩ := s.post_eq 0 e
  obtain ⟨r', h', l', m', h2⟩ := (s.post 0 e).post_eq 64 e
  exact ⟨r', h', l', m', by rw [State.postPFs, h2, h1]⟩

/-- A counter stepped: its own register, and an event when its overflow is watched. -/
theorem State.bump_eq (r : RegName) (i n : Nat) :
    ∃ g h l m, s.bump r i n = { s with regs := g, hostMem := h, lost := l, msix := m } := by
  unfold State.bump
  dsimp only
  split
  · obtain ⟨g, h, l, m, e⟩ := (s.bumpQuiet r i n).postPFs_eq { code := 0x010C, vdid := 0x3F, arg0 := (bar0Offset r i).getD 0, arg1 := 0, arg2 := 0 }
    exact ⟨g, h, l, m, by rw [e]; rfl⟩
  · exact ⟨_, _, _, _, rfl⟩

/-- Without RLCFG.OVFEV a counter steps and nothing else changes. -/
theorem State.bump_quiet (r : RegName) (i n : Nat) (h : (s.bumpQuiet r i n).bit .rlcfg 0 0 = false) :
    s.bump r i n = s.bumpQuiet r i n := by
  simp [State.bump, h]

/-! ## Retiring a spire instruction -/

/-- One performance counter stepped changes that counter, and what posting an event changes. -/
theorem State.countOne_eq (n evt k i : Nat) :
    ∃ v c r h l m, s.countOne n evt k i
      = { s with spires := s.spires.set n { s.spire n with pcval := v }, ctr := c, regs := r, hostMem := h, lost := l, msix := m }
        ∨ s.countOne n evt k i = s := by
  unfold State.countOne
  dsimp only
  split
  · split
    · obtain ⟨r, h, l, m, e⟩ := (((s.setSpire n { s.spire n with pcval := (s.spire n).pcval.set i (bumpCount ((s.spire n).pcval.get 0 i) k) }).free).2).postPFs_eq
        { code := 0x010C, vdid := 0x3F, arg0 := ((s.setSpire n { s.spire n with pcval := (s.spire n).pcval.set i (bumpCount ((s.spire n).pcval.get 0 i) k) }).free).1 % 2 ^ 32, arg1 := 0, arg2 := 0 }
      exact ⟨_, _, r, h, l, m, Or.inl (by rw [e]; rfl)⟩
    · exact ⟨_, _, _, _, _, _, Or.inl rfl⟩
  · exact ⟨.empty, 0, .empty, .empty, .empty, .empty, Or.inr rfl⟩

/-- The state with a spire replaced and what counting and posting may change. -/
def State.counted (s : State) (sp : Tab Spire) (c : Nat) (r : Tab W64) (h : Tab Memory) (l m : Tab Nat) : State :=
  { s with spires := sp, ctr := c, regs := r, hostMem := h, lost := l, msix := m }

/-- Counting an event steps performance counters of one spire only. -/
theorem State.countPerf_eq (n evt k : Nat) :
    (∃ sp c r h l m, s.countPerf n evt k = s.counted sp c r h l m)
      ∧ (∃ v, (s.countPerf n evt k).spire n = { s.spire n with pcval := v })
      ∧ (∀ j, j ≠ n → (s.countPerf n evt k).spire j = s.spire j) := by
  unfold State.countPerf
  generalize upFrom 0 8 = is
  induction is generalizing s with
  | nil => exact ⟨⟨_, _, _, _, _, _, rfl⟩, ⟨_, rfl⟩, fun _ _ => rfl⟩
  | cons i is ih =>
    simp only [List.foldl_cons]
    obtain ⟨⟨sp, c, r, h, l, m, e1⟩, ⟨v, e2⟩, e3⟩ := ih (s.countOne n evt k i)
    rcases State.countOne_eq s n evt k i with ⟨w, c', r', h', l', m', e | e⟩
    · refine ⟨⟨sp, c, r, h, l, m, by rw [e1, e]; rfl⟩, ⟨v, ?_⟩, ?_⟩
      · rw [e2, e]; simp [State.spire]
      · intro j hj; rw [e3 j hj, e]; simp [State.spire, Tab.get_set_ne _ _ hj]
    · rw [e] at e1 e2 e3 ⊢; exact ⟨⟨sp, c, r, h, l, m, e1⟩, ⟨v, e2⟩, e3⟩

/-- What retiring an instruction leaves: the spire given, with PC, the program order and performance counters moved on; no other
spire; and outside the spires only what counting and posting may change. -/
theorem State.advance_eq (n : Nat) (sp : Spire) (size : Nat) :
    (∃ t c r h l m, s.advance n sp size = s.counted t c r h l m)
      ∧ (∃ v, (s.advance n sp size).spire n = { sp with pc := (sp.pc + size) % 2 ^ 64, seq := sp.seq + 1, pcval := v })
      ∧ (∀ j, j ≠ n → (s.advance n sp size).spire j = s.spire j) := by
  unfold State.advance
  obtain ⟨⟨t, c, r, h, l, m, e1⟩, ⟨v, e2⟩, e3⟩ :=
    State.countPerf_eq (s.setSpire n { sp with pc := (sp.pc + size) % 2 ^ 64, seq := sp.seq + 1 }) n evRetired 1
  refine ⟨⟨t, c, r, h, l, m, by rw [e1]; rfl⟩, ⟨v, by rw [e2]; simp⟩, ?_⟩
  intro j hj
  rw [e3 j hj, State.spire_setSpire_ne _ hj]

/-- While RLCFG.OVFEV is 0, counting changes the spires only. -/
theorem State.countOne_quiet (n evt k i : Nat) (h : s.bit .rlcfg 0 0 = false) : ∃ t, s.countOne n evt k i = { s with spires := t } := by
  unfold State.countOne
  dsimp only
  split
  · have h' : (s.setSpire n { s.spire n with pcval := (s.spire n).pcval.set i (bumpCount ((s.spire n).pcval.get 0 i) k) }).bit .rlcfg 0 0 = false := h
    simp only [h', Bool.and_false, Bool.false_eq_true, if_false]
    exact ⟨_, rfl⟩
  · exact ⟨_, rfl⟩

theorem State.countPerf_quiet (n evt k : Nat) (h : s.bit .rlcfg 0 0 = false) : ∃ t, s.countPerf n evt k = { s with spires := t } := by
  unfold State.countPerf
  generalize upFrom 0 8 = is
  induction is generalizing s with
  | nil => exact ⟨_, rfl⟩
  | cons i is ih =>
    obtain ⟨t, e⟩ := s.countOne_quiet n evt k i h
    simp only [List.foldl_cons, e]
    exact ih { s with spires := t } h

theorem State.advance_quiet (n : Nat) (sp : Spire) (size : Nat) (h : s.bit .rlcfg 0 0 = false) :
    ∃ t, s.advance n sp size = { s with spires := t } := by
  obtain ⟨u, e⟩ := State.countPerf_quiet (s.setSpire n { sp with pc := (sp.pc + size) % 2 ^ 64, seq := sp.seq + 1 }) n evRetired 1 h
  exact ⟨u, by rw [State.advance, e]; rfl⟩

/-- The single step of a debugger is over. -/
theorem State.stepped_spire (n : Nat) : (s.stepped n).spire n = { s.spire n with step := false } := by
  unfold State.stepped
  split
  · simp
  · next h => simp at h; simp [← h]

theorem State.stepped_spire_ne {m n : Nat} (h : m ≠ n) : (s.stepped n).spire m = s.spire m := by
  unfold State.stepped
  split
  · rw [State.spire_setSpire_ne _ h]
  · rfl

theorem State.stepped_eq (n : Nat) : ∃ t, s.stepped n = { s with spires := t } := by
  unfold State.stepped
  split <;> exact ⟨_, rfl⟩

/-- R92, R93: an instruction whose fetch, encoding, guard and operands let it issue does its own work. -/
theorem issue_runs (n size : Nat) (ill : Bool) (gp : BitVec 3) (gn : BitVec 1) (stall : Spire → Bool) (body : Spire → State) (q : Nat)
    (h1 : (s.spire n).issuing = true) (h2 : (s.spire n).fetchFault size = false)
    (h3 : anyPoison (s.spire n).poison (s.spire n).pc size = false) (h4 : (s.spire n).guard gp gn = true)
    (hi : ill = false) (hs : stall (s.spire n) = false) :
    issue s n size ill gp gn stall body q = .next ((body (s.spire n)).stepped n) := by
  simp [issue, h1, h2, h3, h4, hi, hs]

end Sys2Proof.Machine
end

