-- ==== Sys2Proof/WellFormed.lean ====
section
/-! DEFINITION. Which commands are well formed: what comes from outside with a command has the size and the place that the spec gives it. What a
command means is not defined by this: the machine answers an ill-formed command too. -/

namespace Sys2Proof

/-- R247, R248: a packet's payload is as long as its LEN says, at most 512 bytes. -/
def Packet.wf (p : Packet) : Bool := p.payload.length = 8 * p.len.toNat && decide (p.payload.length ≤ 512)

/-- R248: a READ has no payload; its LEN is what it reads. -/
def Packet.bare (p : Packet) : Bool := p.payload = [] && decide (p.len.toNat ≤ 64)

/-- R242: a stream flit holds 64 bytes. -/
def Flit.wf (f : Flit) : Bool := match f with | .stream b => b.length = 64 | _ => true

/-- R241: a codeword holds ten flits. -/
def Codeword.wf (c : Codeword) : Bool := c.flits.length = 10 && c.flits.all Flit.wf

/-- A host's answer of exactly `n` bytes, or a bus error. -/
def HostAns.exactly (a : HostAns) (n : Nat) : Bool := match a with | .data b => b.length = n | .busError => true

/-- A host's answer of at most `n` bytes, or a bus error. -/
def HostAns.upTo (n : Nat) (a : HostAns) : Bool := match a with | .data b => decide (b.length ≤ n) | .busError => true

/-- R441: there are seven rails. -/
def Telemetry.wf (t : Telemetry) : Bool := t.railW.length = 7 && t.warn.length = 7 && t.railOff.length = 7

/-- R453: seven rails, and activity by group 0 to 3 and virtual device. -/
def MeterReading.wf (m : MeterReading) : Bool :=
  m.railUJ.length = 7 && m.silent.length = 7 && m.activity.all (fun (a : Nat × Nat × Nat) => decide (a.1 < 4) && decide (a.2.1 < 64))

/-- Units by their numbers: spires with the eight spares, ports (R10, R13). -/
def BringUp.wf (b : BringUp) : Bool := b.failedSpires.all (fun n => decide (n < 264)) && b.failedPorts.all (fun n => decide (n < 264))

/-- What each command brings with it. -/
def Instr.wf (i : Instr) : Bool :=
  match i with
  | .add _ _ => true
  | .sub _ _ => true
  | .andS _ _ => true
  | .orS _ _ => true
  | .xor _ _ => true
  | .sll _ _ => true
  | .srl _ _ => true
  | .sra _ _ => true
  | .minS _ _ => true
  | .maxS _ _ => true
  | .minu _ _ => true
  | .maxu _ _ => true
  | .mul _ _ => true
  | .mulh _ _ => true
  | .mulhu _ _ => true
  | .sel _ _ => true
  | .div _ _ => true
  | .divu _ _ => true
  | .rem _ _ => true
  | .remu _ _ => true
  | .cmp _ _ => true
  | .plog _ _ => true
  | .pmov _ _ => true
  | .fadd _ _ => true
  | .fsub _ _ => true
  | .fmul _ _ => true
  | .ffma _ _ => true
  | .fmin _ _ => true
  | .fmax _ _ => true
  | .fcmp _ _ => true
  | .fcvt _ _ => true
  | .ld _ _ => true
  | .st _ _ => true
  | .lda _ _ => true
  | .cinv _ _ => true
  | .fset _ _ => true
  | .br _ _ => true
  | .jal _ _ => true
  | .tdr _ _ => true
  | .tdw _ _ => true
  | .csrr _ _ => true
  | .csrw _ _ => true
  | .aget _ _ => true
  | .aput _ _ => true
  | .vexpr _ _ => true
  | .mma _ _ => true
  | .tmove _ _ => true
  | .vgather _ _ => true
  | .bcmd _ _ => true
  | .twait _ _ => true
  | .waitf _ _ => true
  | .fsignal _ _ => true
  | .fwait _ _ => true
  | .bar _ _ => true
  | .phase _ _ => true
  | .epoch _ _ => true
  | .nop _ _ => true
  | .eok _ _ => true
  | .brk _ _ => true
  | .ext _ => true
  | .tileStart _ _ => true
  | .tileComplete _ _ _ host => host.all (HostAns.upTo 512)
  | .loadDataReturn _ => true
  | .writeAckArrival _ => true
  | .waitfPoll _ => true
  | .waitfTimeout _ => true
  | .fwaitComplete _ => true
  | .fwaitTimeout _ => true
  | .spireHalt _ => true
  | .spireSave _ => true
  | .spireMoor _ => true
  | .unitWake _ => true
  | .basinAppend _ => true
  | .basinNop _ => true
  | .basinFill _ => true
  | .basinCopy _ => true
  | .convert _ => true
  | .checksum _ => true
  | .gather _ => true
  | .scatter _ => true
  | .opt _ => true
  | .opttab _ => true
  | .wincfg _ => true
  | .repair _ _ => true
  | .basinCommandComplete _ => true
  | .reducingWriteLand _ => true
  | .basinMoor _ => true
  | .replicaRepair _ _ _ => true
  | .memoryRead _ _ => true
  | .memoryWrite _ _ => true
  | .mergeEntryClose _ _ => true
  | .fillDone _ => true
  | .refresh _ => true
  | .refreshRateChange _ _ => true
  | .refreshManagement _ _ => true
  | .retrainingWindow _ => true
  | .retrainingEnd _ _ => true
  | .dramScrub _ _ => true
  | .sramScrub _ _ _ _ => true
  | .scrubWake _ => true
  | .channelMoor _ => true
  | .tgStart _ => true
  | .tgStop _ => true
  | .tgRunEnd _ _ => true
  | .scratchpadWriteArrival _ => true
  | .landingAdd _ => true
  | .routerCombine _ _ _ => true
  | .combineWaitExpiry _ => true
  | .combinedAck _ => true
  | .multicastDeliver _ off data => decide (off + data.length ≤ 2 ^ 22)
  | .lockReplay _ _ n => decide (1 ≤ n)
  | .lockCrossingOut _ => true
  | .barrierArrival _ => true
  | .codewordReceive _ w => w.wf
  | .controlFlitSend _ => true
  | .controlFlitReceive _ _ => true
  | .writePacket _ p => p.wf
  | .writeRedPacket _ p => p.wf
  | .readPacket _ p => p.bare
  | .readRspPacket _ p => p.wf
  | .basinPacket _ p => p.wf
  | .fencePacket _ p => p.wf
  | .ackPacket _ p => p.wf
  | .nakPacket _ p => p.wf
  | .resyncPacket _ p => p.wf
  | .packetForward _ t p => if t = 3 then p.bare else p.wf
  | .ackTimer _ => true
  | .retransmitTimeout _ _ => true
  | .holdTimeout _ _ => true
  | .recalibration _ _ => true
  | .recalDone _ _ => true
  | .canalTrainingRetry _ => true
  | .cableRemoved _ => true
  | .poolStage _ => true
  | .poolCommit _ => true
  | .poolAbort _ => true
  | .poolGet _ => true
  | .poolReturn _ => true
  | .poolFree _ => true
  | .pdata _ p => p.wf
  | .paccept _ p => p.wf
  | .prule _ p => p.wf
  | .pstatus _ p => p.wf
  | .poolResponseTimeout _ _ => true
  | .poolProbe _ _ => true
  | .poolLoss _ _ => true
  | .vdCreate _ => true
  | .vdSet _ => true
  | .vdDestroy _ => true
  | .sliceBind _ => true
  | .sliceUnbind _ => true
  | .carveBind _ => true
  | .carveSeal _ => true
  | .evac _ => true
  | .evacAbort _ => true
  | .vdPeer _ => true
  | .vdBarrier _ => true
  | .graceExpiry _ _ => true
  | .evacChunkDone _ _ => true
  | .evacSwitch _ => true
  | .doorbell _ _ off w _ => (w = 4 || w = 8) && off % w = 0
  | .commandFetch _ a => a.exactly 64
  | .commandRetire _ => true
  | .completionConsumerWrite _ _ w _ => w = 4 || w = 8
  | .statusRingEnable _ off _ => off = 0 || off = 8
  | .statusConsumerWrite _ _ => true
  | .controlQueueCreate _ off _ => off = 0x28 || off = 0x30 || off = 0x38
  | .fwRequestProducer _ _ => true
  | .fwResponseConsumer _ _ => true
  | .bar0ReadLatch _ off w => (w = 4 || w = 8) && off % w = 0
  | .bar4Read _ _ n => decide (1 ≤ n)
  | .bar4Write _ _ d => decide (1 ≤ d.length)
  | .msixModerationExpiry _ => true
  | .functionLevelReset _ => true
  | .linkDown _ => true
  | .regWrite _ => true
  | .peerReset _ => true
  | .chargeMove _ => true
  | .registerWrite _ off _ => off % 8 = 0
  | .ctxCreate _ => true
  | .ctxDestroy _ => true
  | .teardownDrainExpiry _ => true
  | .qCreate _ => true
  | .qStop _ => true
  | .qStart _ => true
  | .qReset _ => true
  | .memCreate _ => true
  | .memMap _ => true
  | .memUnmap _ => true
  | .fenceCreate _ => true
  | .fenceLink _ => true
  | .fenceReset _ => true
  | .eventCreate _ => true
  | .fenceNotify _ => true
  | .exportObj _ => true
  | .importObj _ => true
  | .releaseObj _ => true
  | .vdGrant _ => true
  | .vdFreeze _ => true
  | .vdSave _ => true
  | .vdRestore _ _ => true
  | .vdThaw _ => true
  | .workNop _ => true
  | .fenceSignalApply _ => true
  | .fenceAck _ => true
  | .inval _ => true
  | .invalAbort _ => true
  | .invalComplete _ => true
  | .translationWalk _ => true
  | .walkReadReturn _ a => a.exactly 8
  | .hostReadTimeout _ => true
  | .brun _ => true
  | .bargeChannelAssign _ a => a.exactly 64
  | .bargeNop _ host => host.all (HostAns.upTo 512)
  | .bargeCopy _ host => host.all (HostAns.upTo 512)
  | .bargeReduce _ host => host.all (HostAns.upTo 512)
  | .bargeBasin _ host => host.all (HostAns.upTo 512)
  | .descriptorRecord _ => true
  | .dispatch _ => true
  | .jobBegin _ => true
  | .jobEnd _ => true
  | .queueEpoch _ => true
  | .certRead _ => true
  | .attest _ => true
  | .sessionOpen _ a => a.exactly 1568
  | .sessionClose _ => true
  | .bounceIn _ a => a.upTo (2 ^ 24 + 16)
  | .bounceOut _ => true
  | .migrateTarget _ a => a.exactly 6336
  | .debugChallenge _ => true
  | .debugOpen _ a => a.exactly 3200
  | .lcAdvance _ a b => a.exactly 3200 && b.wf
  | .ownerSet _ a => a.exactly 1793
  | .debugMailbox c => c.length = 3200
  | .powerControlTick t b => t.wf && b.wf
  | .droopStretch _ n => decide (1 ≤ n)
  | .hintExpiry _ => true
  | .thermalTrip => true
  | .meterInterval m => m.wf
  | .meterInterim _ => true
  | .meterSign => true
  | .meterRead _ => true
  | .meterAck _ => true
  | .meterInspectRead _ n => decide (1 ≤ n)
  | .meterCalibrationWrite _ _ => true
  | .moduleMoor => true
  | .moduleWake _ => true
  | .statusWord => true
  | .readEin => true
  | .readVin => true
  | .readIin => true
  | .readPin => true
  | .readTemperature1 => true
  | .readTemperature2 => true
  | .readTemperature3 => true
  | .mfrPowerCap w => decide (w.getD 0 < 2 ^ 16)
  | .sensorCalibration => true
  | .wearLevelling => true
  | .powerUp b => b.wf
  | .fwInfo _ => true
  | .flashWrite _ a _ => a.upTo 65536
  | .flashActivate _ => true
  | .fwUpdate _ => true
  | .procRestart _ => true
  | .logLevel _ => true
  | .restartAlone _ => true
  | .watchdogWrite _ => true
  | .watchdogExpiry _ => true
  | .logicCheckFail _ b => b.wf
  | .spireReset _ => true
  | .clusterReset _ => true
  | .sliceReset _ _ => true
  | .vdReset _ => true
  | .sampleAbandon _ => true
  | .towerReset _ => true
  | .warmDeviceReset b => b.wf
  | .coldDeviceReset b => b.wf
  | .resetCommand _ b => b.wf
  | .commandTimeout _ => true
  | .monitorSnap _ _ _ => true
  | .modRstAssert => true
  | .modRstRelease b => b.wf
  | .perstAssert _ => true
  | .perstRelease _ => true
  | .undervoltage => true
  | .overvoltage _ => true
  | .v54Removed => true
  | .overcurrent => true
  | .cableSeated _ => true
  | .v54Restored b => b.wf
  | .droopRecover _ => true
  | .hostLinkUp _ => true
  | .canalTrainingDone _ _ => true
  | .vfEnable _ _ => true
  | .flashProgrammerAccess _ => true
  | .debugTapAccess _ => true

end Sys2Proof
end

