-- ==== Sys2Proof/Tests/Slice0.lean ====
section
/-! SUPPORT. Tests of the model: what is ill formed is refused, words and records written out from the spec read as the spec says, every command
does something of what the spec gives it, and the hypotheses of every statement can be met. -/

open Sys2Proof Sys2Proof.Machine Sys2Proof.Claims

namespace Sys2Proof.Tests

set_option Elab.async false

/-! ## Small states -/

/-- What holds of the state after a command. -/
def after (i : Instr) (s : State) (p : State → Bool) : Bool :=
  match exec i s with | .next t => p t | _ => false

/-- Spire 0 with a kernel that runs at the start of a code region of 4 KiB. -/
def kern : Kernel := { queue := 0, cseq := 0, ctx := 0, inst := 0, epoch := 0, code := 0 }
def sp0 : Spire := { Spire.reset 0 with run := .running, kernel := some kern, codeLen := 0x1000, vdid := 1 }
def on (x : Spire) : State := State.reset.setSpire 0 x

/-- Format S with no field in use. -/
def f0 : FmtS := { gp := 0, gn := 0, rd := 0, rs1 := 0, rs2 := 0, rs3 := 0, rm := 0, pd := 0, sz := 0, im := 0, x := 0, aux := 0, rsv := 0, imm := 0 }
def regs3 (a b c : W64) : Spire := (((sp0.setS 1 a).setS 2 b).setS 3 c)
/-- rd = s4 of s1 and s2. -/
def fab : FmtS := { f0 with rd := 4, rs1 := 1, rs2 := 2 }

/-- Channel 3 plain in a carve-out of virtual device 1, and its first bytes. -/
def ch3 (s : State) : State := s.setReg .chcfg 3 5
def a3 : Nat := 3 * 2 ^ 32

/-- A live object in context 0. -/
def hd : Head := { gen := 0, href := 1, dref := 0, key := 0, owner := 0, imports := [], freed := false, farewell := [] }
def ctx0 : Ctx := { head := hd, fn := 0, vd := 1, priv := none, drain := 0, root := 0, dying := false, killer := none, doom := 0 }
def fence7 : FenceObj := { head := hd, value := 7, status := 0, mirror := 0, fwd := .empty }
/-- Context 0 of virtual device 1 and the fence of slot 5, whose handle is 0x40000005 (R335). -/
def fenced (s : State) : State :=
  s.setObjs { s.objs with ctxs := { s.objs.ctxs with live := s.objs.ctxs.live.set 0 ctx0 }, fences := { s.objs.fences with live := s.objs.fences.live.set 5 fence7 } }

/-- A local tile descriptor (R29): address, format code, rows, columns, stride, and LAYOUT. -/
def tile (addr fmt rows cols stride layout : Nat) : TDesc :=
  ⟨BitVec.ofNat 64 (addr + fmt * 2 ^ 60), BitVec.ofNat 64 (rows + cols * 2 ^ 16 + stride * 2 ^ 32), BitVec.ofNat 64 (layout * 2 ^ 13)⟩
/-- A tile instruction in flight. -/
def running (e : QEntry) : QEntry := { e with started := true }
/-- What `after` sees of spire 0. -/
def then0 (i : Instr) (x : Spire) (p : Spire → Bool) : Bool := after i (on x) (fun t => p (t.spire 0))

/-- A 64-byte command or descriptor: byte offset, size in bytes, value of each field that is not zero (R3). -/
def words (l : List (Nat × Nat × Nat)) : W512 := BitVec.ofNat 512 (l.foldl (fun v f => v + f.2.2 % 256 ^ f.2.1 * 256 ^ f.1) 0)
/-- A fetched command, and a queue of function 0 that holds it: a control queue, or one of context 0. -/
def cmd (l : List (Nat × Nat × Nat)) : Cmd :=
  { seq := 1, raw := words l, gen := 0, holds := [], stage := .waiting, fetched := 0, checked := false, sigf := none, waitf := none, awaits := none }
def qobj (kind : Nat) (c : Cmd) : QueueObj :=
  { head := hd, kind := kind, ctx := if kind = 0 then none else some 0, fn := 0, cmds := [c], epoch := 0, moderating := false, owed := false }
def queued (q kind : Nat) (l : List (Nat × Nat × Nat)) (s : State) : State :=
  s.setObjs { s.objs with queues := { s.objs.queues with live := s.objs.queues.live.set q (qobj kind (cmd l)) } }
/-- The stage that the command of queue `q` has come to. -/
def stageOf (q : Nat) (t : State) : Option CmdStage := (t.objs.queues.live.find? q).bind (fun o => (o.cmds.head?).map (·.stage))
/-- The queue's command has ended OK. -/
def okCmd (q : Nat) (t : State) : Bool := match stageOf q t with | some (.done d) => decide (d.status = 0) | _ => false
def failed (q st : Nat) (t : State) : Bool := match stageOf q t with | some (.done d) => decide (d.status = st) | _ => false

/-! ## What is ill formed is refused -/

def shortPkt : Packet := { Packet.blank with len := 2, payload := [1] }
def okRail : Telemetry :=
  { inputW := 1, railW := List.replicate 7 0, warn := List.replicate 7 false, railOff := List.replicate 7 false, die := 40, dieTowerN := 40, dieTowerS := 40, hbm := 40, car := 40, statusWord := 0, vin := 1, iin := 1 }
def badUp : BringUp :=
  { failedSpires := [264], failedPorts := [], failedTests := [], failedCrossings := [], firstTry := true, flashOk := true, flHoldLow := false, boot := 7 }

theorem test_wf_packets :
    [Instr.writePacket 0 shortPkt, .writeRedPacket 0 shortPkt, .readPacket 0 { Packet.blank with payload := [1] }, .readRspPacket 0 shortPkt, .basinPacket 0 shortPkt, .fencePacket 0 shortPkt,
      .ackPacket 0 shortPkt, .nakPacket 0 shortPkt, .resyncPacket 0 shortPkt, .packetForward 0 3 shortPkt, .packetForward 0 1 shortPkt, .pdata 0 shortPkt, .paccept 0 shortPkt,
      .prule 0 shortPkt, .pstatus 0 shortPkt, .codewordReceive 0 ⟨false, false, false, [.idle]⟩, .codewordReceive 0 ⟨false, false, false, .stream [] :: List.replicate 9 .idle⟩].all (fun i => ! i.wf) = true := by decide +kernel

theorem test_wf_host :
    [Instr.tileComplete 0 .mq 0 [.data (List.replicate 513 0)], .commandFetch 0 (.data [1]), .walkReadReturn 0 (.data [1]), .bargeChannelAssign 0 (.data []), .bargeNop 0 [.data (List.replicate 513 0)],
      .bargeCopy 0 [.data (List.replicate 513 0)], .bargeReduce 0 [.data (List.replicate 513 0)], .bargeBasin 0 [.data (List.replicate 513 0)], .sessionOpen 0 (.data []), .migrateTarget 0 (.data []),
      .debugOpen 0 (.data []), .lcAdvance 0 (.data []) { badUp with failedSpires := [] }, .ownerSet 0 (.data []), .debugMailbox []].all (fun i => ! i.wf) = true := by decide +kernel

theorem test_wf_places :
    [Instr.multicastDeliver 0 (2 ^ 22) [1], .lockReplay true 0 0, .doorbell 0 0 0 2 1, .doorbell 0 0 4 8 1, .completionConsumerWrite 0 0 1 1, .statusRingEnable 0 4 1, .controlQueueCreate 0 0 1,
      .bar0ReadLatch 0 4 8, .bar0ReadLatch 0 0 1, .bar4Read 0 0 0, .bar4Write 0 0 [], .registerWrite .firmware 4 0].all (fun i => ! i.wf) = true := by decide +kernel

theorem test_wf_power :
    (Instr.powerControlTick { okRail with railW := [] } { badUp with failedSpires := [] }).wf = false ∧ (Instr.powerControlTick okRail badUp).wf = false
    ∧ (Instr.meterInterval ⟨[1], 0, List.replicate 7 false, []⟩).wf = false ∧ (Instr.meterInterval ⟨List.replicate 7 0, 0, List.replicate 7 false, [(4, 0, 1)]⟩).wf = false
    ∧ (Instr.meterInspectRead 0 0).wf = false ∧ (Instr.mfrPowerCap (some 65536)).wf = false ∧ (Instr.droopStretch 0 0).wf = false ∧ (Instr.powerUp badUp).wf = false
    ∧ (Instr.warmDeviceReset badUp).wf = false ∧ (Instr.coldDeviceReset badUp).wf = false ∧ (Instr.modRstRelease badUp).wf = false ∧ (Instr.v54Restored badUp).wf = false
    ∧ (Instr.logicCheckFail (.tower 0) badUp).wf = false ∧ (Instr.resetCommand 0 badUp).wf = false := by decide +kernel

theorem test_wf_passes :
    (Instr.writePacket 0 { shortPkt with payload := List.replicate 16 0 }).wf = true ∧ (Instr.commandFetch 0 .busError).wf = true ∧ (Instr.codewordReceive 0 ⟨false, false, false, List.replicate 10 .idle⟩).wf = true
    ∧ (Instr.powerControlTick okRail { badUp with failedSpires := [] }).wf = true ∧ (Instr.doorbell 0 0 0 8 1).wf = true := by decide +kernel

theorem test_wf_long (b : List Byte) :
    (65536 < b.length → (Instr.flashWrite 0 (.data b) true).wf = false) ∧ (2 ^ 24 + 16 < b.length → (Instr.bounceIn 0 (.data b)).wf = false) := by
  constructor <;> intro h <;> simp only [Instr.wf, HostAns.upTo, decide_eq_false_iff_not] <;> omega

/-! ## Scalar instructions -/

/-- Every condition of `Ready` and the encoding and stall conditions of `IntegerInstructions` at once. -/
theorem witness_IntegerInstructions :
    Ready ((on (regs3 5 7 0)).spire 0) 16 fab.gp fab.gn ∧ illegalS usesAlu fab = false ∧ stallS usesAlu fab ((on (regs3 5 7 0)).spire 0) = false
      ∧ ((on (regs3 5 7 0)).spire 0).vexprHolds fab.rd = false := by
  unfold Ready; decide

/-- R98, R100, by hand, for s1 = −7 and s2 = 3. -/
theorem test_integer :
    integerRows.map (fun row => after (row.1 0 fab) (on (regs3 (BitVec.ofInt 64 (-7)) 3 0)) (fun t => (t.spire 0).pc = 16)) = List.replicate 19 true
    ∧ (integerRows.zip [-4, -10, 1, -5, -6, -56, 0x1FFFFFFFFFFFFFFF, -1, -7, 3, 3, -7, -21, -1, 2, -2, 0x5555555555555553, -1, 0]).all
        (fun (row : ((Sp → FmtS → Instr) × (W64 → W64 → W64)) × Int) =>
          after (row.1.1 0 fab) (on (regs3 (BitVec.ofInt 64 (-7)) 3 0)) (fun t => (t.spire 0).getS 4 = BitVec.ofInt 64 row.2)) = true := by
  decide +kernel

/-- R100: division by zero, and −2⁶³ by −1. -/
theorem test_division :
    ([(Instr.div 0 fab, -1), (.divu 0 fab, -1), (.rem 0 fab, 9), (.remu 0 fab, 9)].all
      (fun (r : Instr × Int) => after r.1 (on (regs3 9 0 0)) (fun t => (t.spire 0).getS 4 = BitVec.ofInt 64 r.2))) = true
    ∧ ([(Instr.div 0 fab, -2 ^ 63), (.rem 0 fab, 0)].all
      (fun (r : Instr × Int) => after r.1 (on (regs3 (BitVec.ofInt 64 (-2 ^ 63)) (BitVec.ofInt 64 (-1)) 0))
        (fun t => (t.spire 0).getS 4 = BitVec.ofInt 64 r.2))) = true := by decide +kernel

/-- R26: a guard p1 that is false: the instruction only moves on; the queue of a tile instruction stays empty. -/
theorem witness_GuardedOff :
    (on sp0).spire 0 = sp0 ∧ sp0.issuing = true ∧ sp0.fetchFault 32 = false ∧ anyPoison sp0.poison sp0.pc 32 = false ∧ sp0.guard 1 0 = false
    ∧ after (.add 0 { fab with gp := 1 }) (on (regs3 5 7 0)) (fun t => (t.spire 0).getS 4 = 0 && (t.spire 0).pc = 16) = true
    ∧ after (.fsignal 0 { f0 with gp := 1, rs1 := 1, rs2 := 2 }) (on sp0) (fun t => (t.spire 0).tq = [] && (t.spire 0).pc = 16) = true := by decide

/-- R101: SEL, CMP, PLOG and both forms of PMOV. -/
theorem witness_PredicateInstructions :
    let x := (regs3 5 7 0).setP 1 true
    Ready ((on x).spire 0) 16 0 0 ∧ illegalS { usesAlu with pd := true } { fab with pd := 1 } = false
      ∧ illegalS { rs1 := true, rs2 := true, im := true, pd := true, aux := 7 } { f0 with rs1 := 1, rs2 := 2, pd := 2, aux := 2 } = false
      ∧ illegalS { rs1 := true, rs2 := true, pd := true, aux := 3 } { f0 with rs1 := 1, rs2 := 2, pd := 2, aux := 3 } = false
      ∧ illegalS { rd := true, rs1 := true, aux := 1 } { f0 with rd := 4, rs1 := 1 } = false
      ∧ illegalS { rs1 := true, pd := true, aux := 1 } { f0 with rs1 := 1, pd := 2, aux := 1 } = false := by
  unfold Ready; decide

theorem test_predicates :
    let s := on ((regs3 5 7 0).setP 1 true)
    after (.sel 0 { fab with pd := 1 }) s (fun t => (t.spire 0).getS 4 = 5) = true
    ∧ after (.sel 0 { fab with pd := 2 }) s (fun t => (t.spire 0).getS 4 = 7) = true
    ∧ after (.cmp 0 { f0 with rs1 := 1, rs2 := 2, pd := 2, aux := 2 }) s (fun t => (t.spire 0).getP 2) = true
    ∧ after (.cmp 0 { f0 with rs1 := 1, rs2 := 2, pd := 2, aux := 3 }) s (fun t => ! (t.spire 0).getP 2) = true
    ∧ after (.plog 0 { f0 with rs1 := 1, rs2 := 2, pd := 2, aux := 3 }) s (fun t => (t.spire 0).getP 2) = true
    ∧ after (.pmov 0 { f0 with rd := 4, rs1 := 1 }) s (fun t => (t.spire 0).getS 4 = 1) = true
    ∧ after (.pmov 0 { f0 with rs1 := 1, pd := 2, aux := 1 }) s (fun t => (t.spire 0).getP 2) = true := by decide

/-- Scalar FP32: RM 0 is RNE. -/
theorem witness_FloatInstructions :
    Ready ((on (regs3 5 7 0)).spire 0) 16 0 0 ∧ RM.ofCode (fab.rm).toNat = some .rne
      ∧ illegalS { rd := true, rs1 := true, rs2 := true, rm := true, x := true } fab = false
      ∧ illegalS { rd := true, rs1 := true, rs2 := true, rs3 := true, rm := true, x := true } { fab with rs3 := 3 } = false
      ∧ illegalS { rd := true, rs1 := true, rs2 := true, x := true } fab = false
      ∧ illegalS { rs1 := true, rs2 := true, pd := true, x := true, aux := 3 } { f0 with rs1 := 1, rs2 := 2, pd := 1, aux := 1 } = false
      ∧ illegalS { rd := true, rs1 := true, rm := true, x := true, aux := 7 } { f0 with rd := 4, rs1 := 1, aux := 3 } = false := by
  unfold Ready; decide

/-- R102 by hand, in FP32: 1.5 and 2 give 3.5, −0.5, 3, 1.5 × 2 + 1 = 4, 1.5, 2, 1.5 < 2, and 1.5 as an integer by RNE is 2 (NX). -/
theorem test_float :
    let s := on (regs3 0x3FC00000 0x40000000 0x3F800000)
    (([(Instr.fadd 0 fab, 0x40600000), (.fsub 0 fab, 0xBF000000), (.fmul 0 fab, 0x40400000), (.ffma 0 { fab with rs3 := 3 }, 0x40800000),
      (.fmin 0 fab, 0x3FC00000), (.fmax 0 fab, 0x40000000), (.fcvt 0 { f0 with rd := 4, rs1 := 1, aux := 3 }, 2)] : List (Instr × Nat)).all
      (fun (r : Instr × Nat) => after r.1 s (fun t => (t.spire 0).getS 4 = BitVec.ofNat 64 r.2))) = true
    ∧ after (.fcmp 0 { f0 with rs1 := 1, rs2 := 2, pd := 1, aux := 1 }) s (fun t => (t.spire 0).getP 1) = true := by decide +kernel

/-! ## The scratchpad, device memory, branches and control registers -/

/-- LD, ST and LDA of the scratchpad: s1 = 0x2000, s2 = 0x1122334455667788; 4 bytes, least significant first (R3). -/
theorem witness_ScratchpadAccess :
    let x := regs3 0x2000 0x1122334455667788 0
    Ready ((on x).spire 0) 16 0 0 ∧ anyPoison x.poison 0x2000 4 = false
      ∧ illegalS { rd := true, rs1 := true, sz := true, x := true, aux := 1, imm := BitVec.allOnes 64 } { f0 with rd := 4, rs1 := 1, sz := 2 } = false
      ∧ illegalS { rs1 := true, rs2 := true, sz := true, aux := 1, imm := BitVec.allOnes 64 } { f0 with rs1 := 1, rs2 := 2, sz := 2 } = false
      ∧ x.codeBase + x.codeLen ≤ 0x2000 := by
  unfold Ready; decide

theorem test_scratchpad :
    let x := regs3 0x2000 0x1122334455667788 0
    after (.st 0 { f0 with rs1 := 1, rs2 := 2, sz := 2 }) (on x) (fun t => (t.spire 0).spad.readN 0x1FFF 6 = [0, 0x88, 0x77, 0x66, 0x55, 0]) = true
    ∧ after (.ld 0 { f0 with rd := 4, rs1 := 1, sz := 0, x := 1 }) (on { x with spad := Memory.zero.write 0x2000 0x80#8 })
        (fun t => (t.spire 0).getS 4 = 0xFFFFFFFFFFFFFF80) = true := by decide +kernel

/-! ## Device memory, branches, control registers, waits -/

/-- A store and a flag write to channel 3, which VD 1 holds: s1 = 0x3_0000_0100. -/
theorem witness_DeviceStoresArePosted :
    let s := ch3 (on (regs3 0x300000100 0xAB 0))
    Ready (s.spire 0) 16 0 0 ∧ s.rangeCheck 1 (a3 + 0x100) true = .at (a3 + 0x100)
      ∧ illegalS { rs1 := true, rs2 := true, sz := true, aux := 1, imm := BitVec.allOnes 64 } { f0 with rs1 := 1, rs2 := 2, sz := 1, aux := 1 } = false
      ∧ illegalS { rs1 := true, rs2 := true, aux := 3, imm := BitVec.allOnes 64 } { f0 with rs1 := 1, rs2 := 2, aux := 3 } = false := by
  unfold Ready; decide +kernel

theorem test_deviceStores :
    let s := ch3 (on (regs3 0x300000100 0xAB 0))
    after (.st 0 { f0 with rs1 := 1, rs2 := 2, sz := 1, aux := 1 }) s
      (fun t => (t.spire 0).stores = [⟨1, 0, 0, a3 + 0x100, true⟩] && t.dev = Memory.zero
        && t.net.reqs.any (fun r => r.target = .dev (a3 + 0x100) && r.kind = .write [0xAB, 0])) = true
    ∧ after (.fset 0 { f0 with rs1 := 1, rs2 := 2, aux := 3 }) s
      (fun t => t.net.reqs.any (fun r => r.target = .dev (a3 + 0x100) && r.kind = .write [0xAB, 0, 0, 0, 0, 0, 0, 0])) = true := by decide +kernel

theorem witness_AcquireInstructions :
    let s := ch3 (on (regs3 0x300000100 0xAB 0))
    Ready (s.spire 0) 16 0 0 ∧ illegalS { rs3 := true, imm := 0xFFFFFFFF00000000#64 } { f0 with rs3 := 1, imm := 0x4000000000 } = false
      ∧ illegalS { rd := true, rs1 := true, rs3 := true, sz := true, x := true, aux := 1, imm := BitVec.allOnes 64 } { f0 with rd := 4, rs1 := 1, sz := 2, aux := 1 } = false
      ∧ s.rangeCheck 1 (a3 + 0x100) false = .at (a3 + 0x100) := by
  unfold Ready; decide +kernel

/-- CINV of 64 B from 0x3_0000_0100 drops line 0xC000004 and keeps the next; LDA drops its own line and asks memory. -/
theorem test_acquire :
    let x := { regs3 0x300000100 0xAB 0 with cache := ⟨[(0xC000004, List.replicate 64 1), (0xC000005, List.replicate 64 2)]⟩ }
    let s := ch3 (on x)
    after (.cinv 0 { f0 with rs3 := 1, imm := 0x4000000000 }) s (fun t => (t.spire 0).cache.keys = [0xC000005]) = true
    ∧ after (.lda 0 { f0 with rd := 4, rs1 := 1, sz := 2, aux := 1 }) s
      (fun t => (t.spire 0).cache.keys = [0xC000005] && t.net.reqs.any (fun r => r.target = .dev (a3 + 0x100) && r.kind = .read 4)) = true := by
  decide +kernel

/-- BR by +0x40, JAL, a target that is not a multiple of 16, NOP, BRK and EXT. -/
theorem witness_ControlFlow :
    Ready ((on (regs3 0x100 0 0)).spire 0) 16 0 0 ∧ illegalS { imm := BitVec.allOnes 64 } { f0 with imm := 0x40 } = false
      ∧ illegalS { rd := true, rs1 := true, imm := BitVec.allOnes 64 } { f0 with rd := 4, rs1 := 1, imm := 0x20 } = false
      ∧ illegalS {} f0 = false ∧ illegalS { imm := 0xFFFF } { f0 with imm := 9 } = false := by
  unfold Ready; decide

theorem test_controlFlow :
    let s := on (regs3 0x100 0 0)
    after (.br 0 { f0 with imm := 0x40 }) s (fun t => (t.spire 0).pc = 0x40) = true
    ∧ after (.jal 0 { f0 with rd := 4, rs1 := 1, imm := 0x20 }) s (fun t => (t.spire 0).pc = 0x120 && (t.spire 0).getS 4 = 16) = true
    ∧ after (.br 0 { f0 with imm := 0x44 }) s (fun t => ((t.spire 0).fault.map (·.cause)) = some Cause.pcAlign && (t.spire 0).run = .draining) = true
    ∧ after (.nop 0 f0) s (fun t => (t.spire 0).pc = 16) = true
    ∧ after (.brk 0 { f0 with imm := 9 }) s (fun t => ((t.spire 0).fault.map (fun f => (f.cause, f.detail))) = some (Cause.brk, 9)) = true
    ∧ after (.ext 0) s (fun t => ((t.spire 0).fault.map (·.cause)) = some Cause.illegal) = true := by decide +kernel

/-- EOK with an instruction queued, and with none. -/
theorem witness_EndOfKernel :
    Ready ((on sp0).spire 0) 16 0 0 ∧ illegalS {} f0 = false ∧ sp0.kernel.isSome = true ∧ (on sp0).dispatches = [] ∧ ((on sp0).vd 1).saves = []
    ∧ after (.eok 0 f0) (on sp0) (fun t => (t.spire 0).run = .free && (t.spire 0).kernel = none) = true
    ∧ after (.eok 0 f0) (on { sp0 with tq := [sp0.entry (.fsignal f0) [] []] }) (fun t => (t.spire 0).run = .ending && (t.spire 0).tq.length = 1) = true := by
  unfold Ready; decide +kernel

/-- CSRR of RIDENT's number 0 to 0xC, CSRW of SEED, TDR, TDW, AGET and APUT. -/
theorem witness_SpecialRegisters :
    Ready ((on (regs3 9 77 0)).spire 0) 16 0 0 ∧ illegalS { rd := true, imm := 0xFFF } { f0 with rd := 4, imm := 3 } = false
      ∧ illegalS { rs1 := true, imm := 0xFFF } { f0 with rs1 := 2, imm := 3 } = false ∧ illegalS { rd := true, aux := 0x3F } { f0 with rd := 4, aux := 18 } = false
      ∧ illegalS { rs1 := true, aux := 0x3F } { f0 with rs1 := 2, aux := 18 } = false
      ∧ illegalS { rd := true, rs1 := true, aux := 3 } { f0 with rd := 4, rs1 := 1, aux := 3 } = false
      ∧ illegalS { rs1 := true, rs2 := true, aux := 3 } { f0 with rs1 := 1, rs2 := 2, aux := 3 } = false := by
  unfold Ready; decide

theorem test_specialRegisters :
    let x := { regs3 9 77 0 with a1 := { Accum.reset with entries := ⟨[(9, 0x5#128 <<< 64 ||| 6#128)]⟩ }, tds := ⟨[(2, ⟨1, 2, 3⟩)]⟩ }
    after (.csrr 0 { f0 with rd := 4, imm := 0 }) (on x) (fun t => (t.spire 0).getS 4 = x.csr 0 0) = true
    ∧ after (.csrw 0 { f0 with rs1 := 2, imm := 3 }) (on x) (fun t => (t.spire 0).csr 0 3 = (x.setCsr 3 77).csr 0 3) = true
    ∧ after (.tdr 0 { f0 with rd := 4, aux := 18 }) (on x) (fun t => (t.spire 0).getS 4 = 2) = true
    ∧ after (.tdw 0 { f0 with rs1 := 2, aux := 34 }) (on x) (fun t => (t.spire 0).td 2 = ⟨1, 2, 77⟩) = true
    ∧ after (.aget 0 { f0 with rd := 4, rs1 := 1, aux := 3 }) (on x) (fun t => (t.spire 0).getS 4 = 5) = true
    ∧ after (.aput 0 { f0 with rs1 := 1, rs2 := 2, aux := 3 }) (on x) (fun t => (t.spire 0).a1.entries.get 0 9 = (77#128 <<< 64 ||| 6#128)) = true := by
  decide +kernel

/-- TWAIT of TQ with k = 0 while TQ holds an instruction, and with none. -/
theorem witness_TwaitHoldsIssue :
    Ready ((on sp0).spire 0) 16 0 0 ∧ illegalS { aux := 0xF, imm := 0x1F } { f0 with aux := 0xC } = false
    ∧ after (.twait 0 { f0 with aux := 0xC }) (on sp0) (fun t => (t.spire 0).pc = 16) = true
    ∧ after (.twait 0 { f0 with aux := 4 }) (on { sp0 with tq := [sp0.entry (.fsignal f0) [] []] }) (fun t => (t.spire 0).pc = 0) = true := by
  unfold Ready; decide +kernel

/-- WAITF of the word at 0x2000 for EQ 77, FWAIT of the fence 0x40000005 for 8, BAR of barrier 3 of VD 1. -/
theorem witness_WaitInstructions :
    let x := regs3 0x2000 77 0
    Ready ((on x).spire 0) 16 0 0
      ∧ illegalS { rd := true, rs1 := true, rs2 := true, rs3 := false, pd := true, aux := 0x1F, imm := 0xFFFFFFFF }
          { f0 with rd := 4, rs1 := 1, rs2 := 2, pd := 1 } = false
      ∧ illegalS { rd := true, rs1 := true, rs2 := true, pd := true, imm := 0xFFFFFFFF } { f0 with rd := 4, rs1 := 1, rs2 := 2, pd := 1 } = false
      ∧ (fenced (on (regs3 0x40000005 8 0))).named tyFence 0x40000005 (fun c => c = 0) = some 5
      ∧ ((on x).setReg .nbar 0 (1 + 2 + 3 * 128 + 2 ^ 15)).barrierEntry 1 3 = some 0 ∧ illegalS { aux := 2, imm := 0xFF } { f0 with imm := 3 } = false := by
  unfold Ready; decide +kernel

theorem test_waits :
    let w : FmtS := { f0 with rd := 4, rs1 := 1, rs2 := 2, pd := 1 }
    after (.waitf 0 w) (on { regs3 0x2000 77 0 with spad := Memory.zero.write 0x2000 77#8 })
      (fun t => (t.spire 0).getS 4 = 77 && (t.spire 0).getP 1 && (t.spire 0).pc = 16) = true
    ∧ after (.waitf 0 w) (on (regs3 0x2000 77 0)) (fun t => (t.spire 0).wait = .waitf w 0 0x2000 false 77 0 0 false false && (t.spire 0).pc = 0) = true
    ∧ after (.fwait 0 w) (fenced (on (regs3 0x40000005 8 0))) (fun t => (t.spire 0).wait = .fwait w 5 0 8 false none) = true
    ∧ after (.fwait 0 w) (fenced (on (regs3 0x40000005 7 0))) (fun t => (t.spire 0).wait = .fwait w 5 0 7 true (some 0)) = true
    ∧ after (.bar 0 { f0 with imm := 3 }) ((on sp0).setReg .nbar 0 (1 + 2 + 3 * 128 + 2 ^ 15)) (fun t => t.net.arrivals = [0]) = true := by
  decide +kernel

/-- PHASE with LEVEL 5 and LEAD 7, which counts as 20; EPOCH with a later value. -/
theorem witness_HintInstructions :
    Ready ((on (regs3 4 0 0)).spire 0) 16 0 0 ∧ illegalS { imm := 0xFFFF000F } { f0 with imm := 0x70005 } = false ∧ illegalS { rs1 := true } { f0 with rs1 := 1 } = false
    ∧ (on (regs3 4 0 0)).fld .fwproc 1 1 0 < 2
    ∧ after (.phase 0 { f0 with imm := 0x70005 }) (on sp0) (fun t => t.hints.find? 0 = some (5, 20)) = true
    ∧ after (.epoch 0 { f0 with rs1 := 1 }) (on (regs3 4 0 0)) (fun t => ((t.spire 0).kernel.map (·.epoch)) = some 4) = true := by
  unfold Ready; decide +kernel

/-! ## Tile instructions -/

/-- MMA of t0 and t1 into a0, INIT 1 (from zero), K = 1. -/
def fm : FmtM := { gp := 0, gn := 0, acc := 0, init := 1, ta := 0, tb := 1, tp := 0, ks := 0, ki := 1, frame := 0, rsv := 0 }
def fx : FmtX := { gp := 0, gn := 0, td := 1, ts := 0, ti := 0, rb := 0, sc := 0, pan := 0, fin := 0, red := 0, frame := 0, grp := 0, rsv := 0 }
/-- A fused expression with one input t1, one stage, I0 + I0, into t0. -/
def fv : FmtV := { gp := 0, gn := 0, td := 0, in0 := 1, in1 := 31, in2 := 31, sc0 := 0, sc1 := 0, sc2 := 0, sc3 := 0, str := 0, rm := 0, red := 0, tr := 0,
                   noout := 0, wframe := 0, rsv := 0, ext := 0xFF, stages := 0x111 }
/-- INT8 panels of one K-step at 0x2000 and 0x3000 (R41: STRIDE 256). -/
def da : TDesc := tile 0x2000 9 1 32 256 1
def db : TDesc := tile 0x3000 9 1 32 256 1
def spM : Spire := { sp0 with tds := ⟨[(0, da), (1, db)]⟩ }
/-- INT8 row-major tiles, 1 × 4, at 0x2000 and 0x3000, an FP64 and an INT32 tile of one row. -/
def spX : Spire := { sp0 with tds := ⟨[(0, tile 0x2000 9 1 4 4 0), (1, tile 0x3000 9 1 4 4 0), (2, tile 0x2000 1 1 4 32 0), (3, tile 0x4000 11 1 4 16 0)]⟩ }
def eM : QEntry := spM.entry (.mma fm) [da, db] [1]
def memM : Memory := (Memory.zero.writeN 0x2000 (List.replicate 1 2#8)).writeN 0x3000 (List.replicate 1 3#8)

/-- Every tile instruction may enter its queue. -/
theorem witness_TileInstructionsEnterQueues :
    Ready ((on spM).spire 0) 16 0 0 ∧ illegalM fm = false ∧ firstFault (mmaChecks spM fm) = none
      ∧ Ready ((on spX).spire 0) 32 0 0 ∧ illegalV fv = false ∧ firstFault (vexprChecks spX fv) = none
      ∧ firstFault (tmoveChecks spX fx) = none ∧ firstFault (vgatherChecks spX { fx with ti := 3 }) = none
      ∧ illegalS { rs1 := true, rs2 := true, imm := 0xF } { f0 with rs1 := 1, rs2 := 2 } = false := by
  unfold Ready; decide +kernel

theorem test_enterQueues :
    then0 (.mma 0 fm) spM (fun x => x.mq = [spM.entry (.mma fm) [da, db] [1]] && x.pc = 16) = true
    ∧ then0 (.vexpr 0 fv) spX (fun x => x.vq.length = 1 && x.pc = 32) = true
    ∧ then0 (.tmove 0 fx) spX (fun x => x.tq.length = 1 && x.pc = 16) = true
    ∧ then0 (.vgather 0 { fx with ti := 3 }) spX (fun x => x.tq.length = 1 && x.pc = 16) = true
    ∧ then0 (.bcmd 0 { f0 with rs1 := 1, rs2 := 2 }) { spX with regs := ⟨[(1, 3), (2, 0x2000)]⟩ } (fun x => x.tq.length = 1 && x.pc = 16) = true
    ∧ then0 (.fsignal 0 { f0 with rs1 := 1, rs2 := 2 }) { spX with tq := List.replicate 16 (spX.entry (.fsignal f0) [] []) } (fun x => x.tq.length = 16 && x.pc = 0) = true := by
  decide +kernel

/-- An MMA starts, and a VEXPR starts (R99). -/
theorem witness_TileStart :
    spM.waking = false ∧ ({ spM with mq := [eM] } : Spire).nextStart .mq = some eM
    ∧ then0 (.tileStart 0 .mq) { spM with mq := [eM], spad := memM } (fun x => x.mq = [{ running eM with snap := memM }] && x.a0.cls = .wide && x.a0.frame = 56) = true
    ∧ then0 (.tileStart 0 .vq) { spX with vq := [spX.entry (.vexpr fv) [tile 0x2000 9 1 4 4 0, tile 0x3000 9 1 4 4 0] []] }
        (fun x => x.vq.map (·.late) = [[0, 0, 0, 0, 0, 0, 0]] && x.vq.all (·.started)) = true := by
  decide +kernel

/-- R108: 2 × 3 in the entry (0, 0), WIDE with FRAME 56: 6 × 2³² (R75). -/
theorem witness_MmaCompletes :
    eM.descs = [da, db] ∧ da.mx = false ∧ db.mx = false ∧ eM.waiting = [] ∧ eM.met = []
    ∧ then0 (.tileComplete 0 .mq 0 []) { spM with mq := [{ running eM with snap := memM }], a0 := { Accum.reset with cls := .wide, frame := 56 } }
        (fun x => x.mq = [] && x.a0.entries.find? 0 = some (6#128 <<< 32)) = true := by decide +kernel

/-! ## What reaches a spire, and how it stops -/

def netOf (f : Net → Net) (s : State) : State := s.setNet (f s.net)
def line : List Byte := (upFrom 0 64).map (fun i => BitVec.ofNat 8 (i + 0x80))
def ld9 : Load := { id := 9, use := .load, seq := 0, pc := 0, addr := a3 + 4, rd := 6, size := 2, signed := true, install := true, patch := [] }
/-- An LD of 2 signed bytes at offset 4 of its line is answered, and one that failed. -/
def answered (st : AccStatus) : State := netOf (fun n => { n with resps := [⟨9, .spire 0, line, st⟩] }) (on { sp0 with loads := [ld9] })

theorem witness_LoadDataReturns :
    (answered .ok).net.resps.find? (fun y => y.id = 9) = some ⟨9, .spire 0, line, .ok⟩ ∧ ((answered .ok).spire 0).loads.find? (fun y => y.id = 9) = some ld9
      ∧ ((answered .poison).spire 0).fault = none
    ∧ after (.loadDataReturn 9) (answered .ok)
        (fun t => (t.spire 0).getS 6 = 0xFFFFFFFFFFFF8584 && (t.spire 0).loads = [] && (t.spire 0).cache.find? ((a3 + 4) / 64) = some line) = true
    ∧ after (.loadDataReturn 9) (answered .poison)
        (fun t => ((t.spire 0).fault.map (fun f => (f.cause, f.addr))) = some (Cause.poison, a3 + 4) && (t.spire 0).getS 6 = 0) = true := by decide +kernel

def wf : FmtS := { f0 with rd := 4, rs1 := 1, rs2 := 2, pd := 1, imm := 50 }
def fw (r : Option W64) : Spire := { sp0 with wait := .fwait wf 5 0 8 false r }

theorem witness_WaitsEnd :
    (ch3 (on { sp0 with wait := .waitf wf 0 a3 true 1 0 0 false false })).rangeCheck 1 a3 false = .at a3
    ∧ after (.waitfPoll 0) (ch3 (on { sp0 with wait := .waitf wf 0 a3 true 1 0 0 false false }))
        (fun t => (t.spire 0).wait = .waitf wf 0 a3 true 1 0 0 true false && t.net.reqs.any (fun r => r.target = .dev a3 && r.kind = .read 8)) = true
    ∧ then0 (.waitfTimeout 0) { sp0 with wait := .waitf wf 0 a3 true 1 0 0 true false } (fun x => x.wait = .waitf wf 0 a3 true 1 0 0 true true) = true
    ∧ then0 (.waitfTimeout 0) { sp0 with wait := .waitf wf 0 0x2000 false 1 0 0 false false } (fun x => x.wait = .none && ! x.getP 1 && x.getS 4 = 0) = true
    ∧ then0 (.fwaitComplete 0) (fw (some 0)) (fun x => x.wait = .none && x.getP 1 && x.getS 4 = 0 && x.pc = 16) = true
    ∧ then0 (.fwaitComplete 0) (fw (some 0x0C05)) (fun x => x.wait = .none && ! x.getP 1 && x.getS 4 = 0x0C05) = true
    ∧ then0 (.fwaitTimeout 0) (fw none) (fun x => x.wait = .none && ! x.getP 1 && x.getS 4 = BitVec.allOnes 64) = true := by decide +kernel

def flt : FaultRec := ⟨0, Cause.brk, .issue, 0, 0, 0, 0, 0, 9⟩

theorem witness_SpireHaltsAndMoors :
    ({ sp0 with run := .draining, fault := some flt } : Spire).drained = true
    ∧ then0 (.spireHalt 0) { sp0 with run := .draining, fault := some flt } (fun x => x.run = .halted && x.fault = some flt) = true
    ∧ then0 (.spireHalt 0) { sp0 with run := .draining, fault := some flt, tq := [running (sp0.entry (.fsignal f0) [] [])] } (fun x => x.run = .draining) = true
    ∧ after (.spireMoor 0) State.reset (fun t => (t.spire 0).moored) = true
    ∧ after (.unitWake (.spire 0)) (on { Spire.reset 0 with moored := true }) (fun t => ! (t.spire 0).moored && ! (t.spire 0).waking) = true := by
  decide +kernel

/-- A pre-empted spire of VD 1, frozen, with one save slot. -/
def saving : State := (on { sp0 with run := .preempted, regs := ⟨[(3, 9)]⟩ }).setVd 1 { VdState.reset with slots := 1, frozen := true }

theorem witness_SpireIsSaved :
    (saving.vd 1).freeSlot = some 0 ∧ (saving.spire 0).drained = true ∧ saving.leavingSpire 0 = false := by decide +kernel

def st9 : Store := ⟨9, 4, 0x40, a3, true⟩
def acked (st : AccStatus) : State := netOf (fun n => { n with acks := [⟨9, .spire 0, st⟩] }) (on { sp0 with stores := [st9] })

theorem witness_WriteAcknowledged :
    (acked .ok).net.acks.find? (fun b => b.id = 9) = some ⟨9, .spire 0, .ok⟩ ∧ (acked .ok).net.combined = []
    ∧ ((acked .ok).spire 0).stores.find? (fun b => b.id = 9) = some st9
    ∧ after (.writeAckArrival 9) (acked .ok) (fun t => (t.spire 0).stores = [] && (t.spire 0).fault = none) = true
    ∧ after (.writeAckArrival 9) (acked .bus) (fun t => ((t.spire 0).fault.map (fun f => (f.seq, f.cause, f.pc, f.addr))) = some (4, Cause.bus, 0x40, a3)) = true := by
  decide +kernel

/-- R346: the fence of slot 5 stands at 7. -/
def signalled (v : W64) : State := netOf (fun n => { n with signals := [⟨9, .spire 0, 1, 5, 0, v, false, []⟩] }) (fenced State.reset)
def fenceIs (v : W64) (st : BitVec 32) (t : State) : Bool := (t.fence 5).map (fun f => (f.value, f.status)) = some (v, st)

theorem witness_FenceSignalApplied :
    (signalled 9).fence 5 = some fence7
    ∧ after (.fenceSignalApply 9) (signalled 9) (fun t => fenceIs 9 0 t && t.net.sigAcks = [⟨9, .spire 0, 0, 0⟩]) = true
    ∧ after (.fenceSignalApply 9) (signalled 6) (fun t => fenceIs 7 0 t && t.net.sigAcks.map (·.result) = [2]) = true
    ∧ after (.fenceSignalApply 9) (signalled 0xFFFFFFFF0C050D05) (fun t => fenceIs 7 0x0C050D05 t && t.net.sigAcks.map (·.result) = [0]) = true
    ∧ after (.fenceSignalApply 9) (signalled 0xFFFFFFFF00000100) (fun t => fenceIs 7 0 t && t.net.sigAcks.map (·.result) = [2]) = true
    ∧ after (.fenceSignalApply 9) ((signalled 9).setFence 5 { fence7 with status := 1 }) (fun t => fenceIs 7 1 t && t.net.sigAcks.map (·.result) = [0]) = true := by
  decide +kernel

def eF : QEntry := { running (sp0.entry (.fsignal f0) [] [0, 0]) with waiting := [9] }
def fenceAnswer (r : Nat) : State := netOf (fun n => { n with sigAcks := [⟨9, .spire 0, r, 0⟩] }) (on { sp0 with tq := [eF] })

theorem witness_FenceAnswerReachesSignaller :
    ((fenceAnswer 0).spire 0).tq.find? (fun y => y.waiting.contains 9) = some eF
    ∧ after (.fenceAck 9) (fenceAnswer 0) (fun t => (t.spire 0).tq = [] && (t.spire 0).fault = none) = true
    ∧ after (.fenceAck 9) (fenceAnswer 1) (fun t => ((t.spire 0).fault.map (·.cause)) = some Cause.handle) = true
    ∧ after (.fenceAck 9) (fenceAnswer 2) (fun t => ((t.spire 0).fault.map (·.cause)) = some Cause.fenceOrder) = true := by decide +kernel

/-! ## Memory ports -/

def req (id : Nat) (tg : Target) (k : ReqKind) : Req :=
  { id := id, agent := .spire 0, vd := 1, cls := 0, target := tg, named := a3, kind := k, grp := 0, fin := false, deps := [], tdeps := [], strict := false,
    stage := .net, srcs := [], passed := none }
def asked (k : ReqKind) : State :=
  netOf (fun n => { n with reqs := [req 9 (.dev a3) k] }) (ch3 { State.reset with dev := Memory.zero.writeN a3 [1, 2, 3, 4, 5, 6, 7, 8] })

theorem witness_MemoryRead :
    (asked (.read 4)).net.reqs.find? (fun y => y.id = 9) = some (req 9 (.dev a3) (.read 4)) ∧ (req 9 (.dev a3) (.read 4)).port = some 3
      ∧ (asked (.read 4)).closed 3 = false
    ∧ after (.memoryRead 9 .clean) (asked (.read 4)) (fun t => t.net.merges = [⟨3, a3, 4, 1, [(9, .spire 0)], [1, 2, 3, 4], .ok⟩] && t.net.reqs = []) = true
    ∧ after (.mergeEntryClose 3 0) (netOf (fun n => { n with merges := [⟨3, a3, 4, 1, [(9, .spire 0)], [1, 2, 3, 4], .ok⟩] }) State.reset)
        (fun t => t.net.resps = [⟨9, .spire 0, [1, 2, 3, 4], .ok⟩] && t.net.merges = []) = true := by decide +kernel

theorem witness_MemoryWrite :
    (asked (.write [9, 8])).keyOf a3 = 0 ∧ portOf a3 = 3 ∧ anyPoison (asked (.write [9, 8])).devPoison a3 2 = false
    ∧ after (.memoryWrite 9 .clean) (asked (.write [9, 8]))
        (fun t => t.dev.readN a3 8 = [9, 8, 3, 4, 5, 6, 7, 8] && t.net.acks = [⟨9, .spire 0, .ok⟩] && t.net.reqs = []) = true := by decide +kernel

def filling (init : Bool) : State :=
  { (State.reset.setReg .chcfg 3 (if init then 5 else 0)) with fills := [⟨3, init⟩], dev := (Memory.zero.write a3 1#8).write 5 2#8, devPoison := ⟨[(a3 / 64, ())]⟩ }

theorem witness_FillEnds :
    (filling true).fills.find? (fun f => decide (portOfUnit f.unit = 3)) = some ⟨3, true⟩ ∧ (filling true).unitPending 3 = false
    ∧ after (.fillDone (.channel 3)) (filling true)
        (fun t => t.dev.read a3 = 0 && t.dev.read 5 = 2#8 && t.devPoison.cells = [] && t.fills = [] && t.fld .chcfg 3 1 0 = 1) = true
    ∧ after (.fillDone (.channel 3)) (filling false) (fun t => t.reg .chcfg 3 = rstAt .chcfg 3 && t.fills = []) = true := by decide +kernel

/-- R186: 96 °C gives rate 2 to every channel of the sensor's stack; CHTEMP shows the rate from the next refresh on. -/
theorem witness_RefreshRates :
    after (.refreshRateChange 3 96) State.reset (fun t => (t.port 3).rate = 2 && (t.port 7).rate = 2 && (t.port 40).rate = 0 && t.fld .chtemp 3 7 0 = 96 && t.fld .chtemp 3 9 8 = 0) = true
    ∧ after (.refresh 3) (State.reset.setPort 3 { State.reset.port 3 with rate := 2 }) (fun t => t.fld .chtemp 3 9 8 = 2) = true
    ∧ after (.refreshManagement 3 17) State.reset (fun t => t = State.reset) = true := by decide +kernel

theorem witness_Retraining :
    State.reset.inTest 3 = false ∧ State.reset.portFilling 3 = false
    ∧ after (.retrainingWindow 3) State.reset (fun t => (t.port 3).window) = true
    ∧ after (.retrainingEnd 3 true) (State.reset.setPort 3 { State.reset.port 3 with window := true }) (fun t => ! (t.port 3).window && t.fld .chtrn 3 47 0 = 1) = true
    ∧ after (.retrainingEnd 3 false) ((State.reset.setPort 3 { State.reset.port 3 with window := true }).setReg .chtrs 3 3)
        (fun t => ! (t.port 3).window && t.reg .chtrs 3 = 12) = true := by decide +kernel

theorem witness_ScrubAndMooring :
    State.reset.portHeld 3 = false
    ∧ after (.dramScrub 3 .clean) State.reset (fun t => (t.port 3).scrub = 64 && t.fld .chscrp 3 31 6 = 1) = true
    ∧ after (.scrubWake 3) (State.reset.setPort 3 { State.reset.port 3 with moored := true }) (fun t => (t.port 3).waking && (t.port 3).catchUp && ! (t.port 3).moored) = true
    ∧ after (.channelMoor 3) State.reset (fun t => (t.port 3).moored) = true
    ∧ after (.unitWake (.port 3)) (State.reset.setPort 3 { State.reset.port 3 with waking := true }) (fun t => ! (t.port 3).waking) = true := by decide +kernel

/-- Channel 3 out of service (STATE 0b10), a range of 2 KiB at 0x1000. -/
def testable (state : W64) : State := ((State.reset.setReg .chcfg 3 state).setReg .tgbase 3 0x1000).setReg .tglen 3 2048

theorem witness_TrafficGenerator :
    (testable 2).rangeInTest 3 0x1000 2048 = true ∧ (testable 1).rangeInTest 3 0x1000 2048 = false
    ∧ after (.tgStart 3) (testable 2) (fun t => t.bit .tgstat 3 0 && ((t.port 3).run.map (fun r => (r.base, r.len))) = some (0x1000, 2048)) = true
    ∧ after (.tgStart 3) (testable 1) (fun t => t.fld .tgstat 3 5 3 = 1 && ! t.bit .tgstat 3 0) = true
    ∧ after (.tgStart 3) ((testable 2).setReg .tglen 3 2049) (fun t => t.fld .tgstat 3 5 3 = 2) = true
    ∧ after (.tgStart 3) ((testable 2).setReg .tgstat 3 1) (fun t => t.fld .tgstat 3 5 3 = 3) = true
    ∧ after (.tgStop 3) ((testable 2).setPort 3 { State.reset.port 3 with run := some ⟨0x1000, 2048, 1, 0, 3, false, 0, none⟩ })
        (fun t => ((t.port 3).run.map (fun r => r.stopAt.isSome)) = some true) = true := by decide +kernel

/-! ## Basins -/

 
def bcmd (l : List (Nat × Nat × Nat)) : BCmd :=
  { num := 0, raw := words l, vd := 1, gen := 0, checked := false, sigf := none, waitf := none, since := 0, poisoned := false }
/-- Basin 3 of VD 1 with a command at the head of its ring and bytes at channel offset 0. -/
def atHead (l : List (Nat × Nat × Nat)) (bytes : List Byte) : State :=
  ch3 { State.reset with basins := ⟨[(3, { Basin.reset with ring := [bcmd l] })]⟩, dev := Memory.zero.writeN a3 bytes }
def goes (op : Nat) (body : List (Nat × Nat)) (l : List (Nat × Nat × Nat)) : Prop :=
  HeadGoes (atHead l []) ((atHead l []).checkHead 3 (bcmd l)).2 3 (bcmd l) op body
def ranOk (t : State) : Bool := (t.basin 3).run = some ⟨0, []⟩
/-- The 64 bytes of a hyperparameter block: LR 0.5, BETA1 0, GSCALE 1 in FP32 (R145). -/
def fillB : List (Nat × Nat × Nat) := [(0, 1, 1), (32, 4, 64), (36, 4, 64), (40, 8, 0x0807060504030201)]
def copyB : List (Nat × Nat × Nat) := [(0, 1, 2), (32, 4, 0), (36, 4, 64), (40, 8, a3 + 128)]
def sumB : List (Nat × Nat × Nat) := [(0, 1, 4), (32, 4, 0), (36, 4, 64), (48, 8, a3 + 128)]
def convB : List (Nat × Nat × Nat) := [(0, 1, 3), (32, 4, 0), (36, 4, 64), (40, 4, 1), (44, 1, 0x30)]

theorem witness_BasinDataCommands :
    goes 0 [] [] ∧ goes 1 [(32, 16)] fillB ∧ goes 2 [(32, 16)] copyB ∧ goes 4 [(32, 9), (48, 8)] sumB
      ∧ convertFormat 0 = some .fp32 ∧ convertFormat 3 = some .bf16 ∧ RM.ofCode 0 = some .rne
      ∧ (atHead copyB []).rangeCheck 1 (a3 + 128) true = .at (a3 + 128) := by
  unfold goes HeadGoes; decide +kernel

/-- R155's CRC-32C of "123456789" would be 0xE3069283 (Castagnoli); here of 64 zero bytes, 0xFF…F inverted and so on, by R155. -/
theorem test_basinData :
    after (.basinNop 3) (atHead [] []) ranOk = true
    ∧ after (.basinFill 3) (atHead fillB []) (fun t => ranOk t && t.dev.readN (a3 + 62) 4 = [0, 0, 1, 2] && t.dev.read (a3 + 127) = 8 && t.dev.read (a3 + 128) = 0) = true
    ∧ after (.basinCopy 3) (atHead copyB [1, 2, 3]) (fun t => ranOk t && t.dev.readN (a3 + 128) 4 = [1, 2, 3, 0]) = true
    ∧ crc32c [0x31, 0x32, 0x33, 0x34, 0x35, 0x36, 0x37, 0x38, 0x39] = 0xE3069283
    ∧ after (.checksum 3) (atHead sumB [7]) (fun t => ranOk t && t.dev.readLE (a3 + 128) 8 = crc32c (7#8 :: List.replicate 63 0#8)) = true
    ∧ after (.convert 3) (atHead convB [0, 0, 0xC0, 0x3F]) (fun t => ranOk t && t.dev.readN (a3 + 64) 2 = [0xC0, 0x3F]) = true := by decide +kernel

def appended (gen : W64) (vd : Nat) : State :=
  netOf (fun n => { n with appends := [⟨9, .spire 0, vd, gen, 3, [words fillB]⟩] }) (ch3 State.reset)

theorem witness_BasinRing :
    (appended 0 1).holdsBasin 1 3 = true ∧ (appended 0 2).holdsBasin 2 3 = false
    ∧ after (.basinAppend 9) (appended 0 1) (fun t => (t.basin 3).ring.map (·.raw) = [words fillB] && t.reg .bseqa 3 = 1 && t.net.acks = [⟨9, .spire 0, .ok⟩]) = true
    ∧ after (.basinAppend 9) (appended 0 2) (fun t => (t.basin 3).ring = [] && t.net.acks = [⟨9, .spire 0, .range⟩]) = true
    ∧ after (.basinAppend 9) (appended 1 1) (fun t => (t.basin 3).ring = [] && t.net.acks = [⟨9, .spire 0, .aborted⟩]) = true
    ∧ after (.basinCommandComplete 3) ((atHead [] []).setBasin 3 { Basin.reset with ring := [{ bcmd fillB with checked := true, num := 4 }], run := some ⟨5, []⟩ })
        (fun t => (t.basin 3).ring = [] && t.reg .bseqr 3 = 1 && t.reg .berr 3 = 0x105 && t.reg .berrseq 3 = 4) = true
    ∧ after (.basinMoor 3) State.reset (fun t => (t.basin 3).moored) = true
    ∧ after (.unitWake (.basin 3)) (State.reset.setBasin 3 { Basin.reset with moored := true }) (fun t => ! (t.basin 3).moored) = true := by decide +kernel

def gatherB : List (Nat × Nat × Nat) := [(0, 1, 5), (32, 4, 0), (36, 4, 2), (40, 4, 64), (45, 1, 1), (46, 1, 0), (48, 8, 0x2000)]
def scatterB : List (Nat × Nat × Nat) := [(0, 1, 6), (32, 4, 128), (36, 4, 1), (40, 4, 256), (48, 8, 0)]

theorem witness_NarrowRows :
    goes 5 [(32, 15), (48, 8)] gatherB ∧ goes 6 [(32, 13), (48, 4)] scatterB
    ∧ after (.gather 3) ((atHead gatherB ([1, 0, 0, 0] ++ List.replicate 60 0 ++ List.replicate 32 5 ++ List.replicate 32 6)).setSpire 0 { Spire.reset 0 with vdid := 1 })
        (fun t => t.net.reqs.map (fun r => (r.target, r.kind))
          = [(.spad 0 0x2000, .write (List.replicate 32 6)), (.spad 0 0x2020, .write (List.replicate 32 5))]) = true
    ∧ after (.scatter 3) (atHead scatterB ([2, 0, 0, 0] ++ List.replicate 124 0 ++ List.replicate 32 5))
        (fun t => ranOk t && t.dev.readN (a3 + 256 + 63) 34 = [0] ++ List.replicate 32 5 ++ [0]) = true := by
  unfold goes HeadGoes; decide +kernel

/-- AdamW in FP32, all formats code 0, rounding RNE; and an entry with the reserved KIND 3. -/
def opttabB (kind : Nat) : List (Nat × Nat × Nat) := [(0, 1, 8), (3, 1, 2), (32, 1, kind)]
def wincfgB (len : Nat) : List (Nat × Nat × Nat) := [(0, 1, 9), (3, 1, 1), (32, 4, 0), (36, 4, len), (40, 4, 4096)]

theorem witness_BasinTables :
    goes 8 [(32, 23)] (opttabB 0) ∧ (optEntry (words (opttabB 0))).isSome = true ∧ optEntry (words (opttabB 3)) = none ∧ goes 9 [(32, 12)] (wincfgB 128)
    ∧ after (.opttab 3) (atHead (opttabB 0) []) (fun t => ranOk t && (t.basin 3).ops.find? 2 = some (words (opttabB 0))) = true
    ∧ after (.opttab 3) (atHead (opttabB 3) []) (fun t => (t.basin 3).run = some ⟨6, []⟩ && (t.basin 3).ops.cells = []) = true
    ∧ after (.wincfg 3) (atHead (wincfgB 128) []) (fun t => ranOk t && (t.basin 3).wins.find? 1 = some ⟨0, 128, 4096⟩) = true := by
  unfold goes HeadGoes; decide +kernel

/-- SGD of one FP32 element by R147: momentum m' = BETA1 × m + g, weight w − LR × m'. Weight 4 at 0, m 0 at 64, gradient 2 at 128, LR 0.5, BETA1 0.5. -/
def optB : List (Nat × Nat × Nat) := [(0, 1, 7), (3, 1, 2), (32, 4, 1), (36, 4, 0), (40, 4, 64), (48, 4, 128), (56, 8, a3 + 192)]
def optS : State :=
  (atHead optB ([0, 0, 0x80, 0x40] ++ List.replicate 124 0 ++ [0, 0, 0, 0x40] ++ List.replicate 60 0
    ++ [0, 0, 0, 0x3F, 0, 0, 0, 0x3F] ++ List.replicate 20 0 ++ [0, 0, 0x80, 0x3F])).setBasin 3
    { Basin.reset with ring := [bcmd optB], ops := ⟨[(2, words (opttabB 1))]⟩ }

theorem witness_OptimizerStep :
    ((optS.basin 3).ops.find? 2).bind optEntry = optEntry (words (opttabB 1)) ∧ ((optEntry (words (opttabB 1))).map (·.kind)) = some 1
    ∧ optS.basinReady 3 = some (bcmd optB) ∧ (hyperOf (optS.dev.readN (a3 + 192) 64)).isSome = true ∧ optS.readAt 1 (a3 + 192) = some (a3 + 192)
    ∧ after (.opt 3) optS (fun t => ranOk t && t.dev.readN a3 4 = [0, 0, 0x40, 0x40] && t.dev.readN (a3 + 64) 4 = [0, 0, 0, 0x40]) = true := by
  decide +kernel

/-- A replica of the first 128 B in channel 4. -/
def replicated : State :=
  { (ch3 State.reset).setBasin 3 { Basin.reset with replicas := ⟨[(0, ⟨0, 128, 4 * 2 ^ 32⟩)]⟩, ring := [bcmd [(0, 1, 10), (32, 4, 64), (36, 4, 64)]] } with
    dev := Memory.zero.write (4 * 2 ^ 32 + 64) 9#8, devPoison := ⟨[(a3 / 64 + 1, ())]⟩ }

theorem witness_ReplicaRepair :
    (replicated.basin 3).replicaOf 64 64 = some ⟨0, 128, 4 * 2 ^ 32⟩ ∧ anyPoison replicated.devPoison (4 * 2 ^ 32 + 64) 64 = false
      ∧ goes 10 [(32, 8)] [(0, 1, 10), (32, 4, 64), (36, 4, 64)]
    ∧ after (.replicaRepair 3 64 false) replicated (fun t => t.dev.read (a3 + 64) = 9 && t.devPoison.cells = []) = true
    ∧ after (.replicaRepair 3 64 true) replicated (fun t => t.devPoison.find? (a3 / 64 + 1) = some ()) = true
    ∧ after (.repair 3 [64]) replicated (fun t => ranOk t && t.dev.read (a3 + 64) = 9) = true := by
  unfold goes HeadGoes; decide +kernel

/-- 1.5 arrives at an FP32 element that holds 2 (R138). -/
def landing : State :=
  (atHead [] [0, 0, 0, 0x40]).setBasin 3 { Basin.reset with land := [req 9 (.dev a3) (.reduce ⟨.fp32, 0, .fp32, [0x3FC00000], [0]⟩)] }

theorem witness_ReduceOnLand :
    landing.portHeld 3 = false ∧ (landing.basin 3).land.map (·.id) = [9]
    ∧ after (.reducingWriteLand 3) landing (fun t => t.dev.readN a3 4 = [0, 0, 0x60, 0x40] && t.net.acks = [⟨9, .spire 0, .ok⟩] && (t.basin 3).land = []) = true := by
  decide +kernel

/-! ## Errors, resets, the network -/

def bringUp : BringUp :=
  { failedSpires := [], failedPorts := [], failedTests := [], failedCrossings := [], firstTry := true, flashOk := true, flHoldLow := false, boot := 7 }

theorem witness_SramErrors :
    after (.sramScrub .scratchpad 0 0x2040 .clean) State.reset (fun t => t = State.reset) = true
    ∧ after (.sramScrub .scratchpad 0 0x2040 .corrected) State.reset (fun t => t.reg .rlsce = 1 && t.reg .rlsue = 0) = true
    ∧ after (.sramScrub .scratchpad 0 0x2040 .uncorrectable) State.reset (fun t => t.reg .rlsue = 1 && (t.spire 0).poison.find? 0x81 = some ()) = true := by
  decide +kernel

/-- VD 1, active, with a slice of spire 0. -/
def vdOne : State :=
  ((on { Spire.reset 0 with vdid := 1 }).setReg .vdcfg 1 1).setVd 1 { VdState.reset with slices := [⟨4, [0], 0, none⟩] }
def resetB (domain target : Nat) : List (Nat × Nat × Nat) := [(0, 1, 0x23), (8, 1, domain), (9, 1, target)]

theorem witness_ResetsByDomain :
    vdOne.vdActive 1 = true ∧ vdOne.sliceOwner 4 = some 1 ∧ (State.reset.bit .rlcfg 0 1) = true
      ∧ (queued 0 0 (resetB 0 0) vdOne).turn 0 0 0x23 = some (qobj 0 (cmd (resetB 0 0)), cmd (resetB 0 0)) ∧ (qobj 0 (cmd [])).vf = false
      ∧ strayBits (words (resetB 0 0)) (0xFF ||| byteMask [(8, 2)]) = false
    ∧ after (.resetCommand 0 bringUp) (queued 0 0 (resetB 0 0) vdOne) (fun t => okCmd 0 t && (t.spire 0).run = .free) = true
    ∧ after (.resetCommand 0 bringUp) (queued 0 0 (resetB 9 0) vdOne) (fun t => ! okCmd 0 t) = true
    ∧ after (.spireReset 0) (on { sp0 with regs := ⟨[(3, 9)]⟩ }) (fun t => (t.spire 0).regs.cells = [] && (t.spire 0).run = .free) = true
    ∧ after (.logicCheckFail (.spire 0) bringUp) (on { sp0 with regs := ⟨[(3, 9)]⟩ }) (fun t => (t.spire 0).regs.cells = [] && (t.spire 0).errors.map (·.1) = [2]) = true := by
  decide +kernel

theorem witness_MonitorSnapshot :
    State.reset.bit .mncfg 5 22 = false
    ∧ after (.monitorSnap 0 5 true) { State.reset with mons := ⟨[(5, ⟨3, 9, 12, ⟨[(2, 4)]⟩⟩)]⟩ }
        (fun t => t.reg .mnmin 5 = 3 && t.reg .mnmax 5 = 9 && t.reg .mncnt 5 = 12 && t.reg .mnhist (32 * 5 + 2) = 4 && t.mons.get .reset 5 = .reset) = true := by decide +kernel

def arriving (k : ReqKind) : State :=
  netOf (fun n => { n with reqs := [{ req 9 (.spad 0 0x2000) k with agent := .spire 1 }] }) (on { sp0 with spad := Memory.zero.writeN 0x2000 [0, 0, 0, 0x40] })

theorem witness_ScratchpadArrivals :
    sp0.inCode 0x2000 4 = false ∧ sp0.inCode 0x100 4 = true ∧ (arriving (.write [1, 2])).net.reqs.find? (fun y => y.id = 9) ≠ none
    ∧ after (.scratchpadWriteArrival 9) (arriving (.write [1, 2])) (fun t => (t.spire 0).spad.readN 0x2000 4 = [1, 2, 0, 0x40] && t.net.acks = [⟨9, .spire 1, .ok⟩]) = true
    ∧ after (.scratchpadWriteArrival 9) (netOf (fun n => { n with reqs := [req 9 (.spad 0 0x100) (.write [1])] }) (on sp0))
        (fun t => (t.spire 0).spad.cells = [] && t.net.acks.map (·.status) = [.bus]) = true
    ∧ after (.landingAdd 9) (arriving (.reduce ⟨.fp32, 0, .fp32, [0x3FC00000], [0]⟩)) (fun t => (t.spire 0).spad.readN 0x2000 4 = [0, 0, 0x60, 0x40]) = true
    ∧ after (.multicastDeliver 0 0x2000 [5]) (on sp0) (fun t => (t.spire 0).spad.cells = [] && t.reg .nmcdrop = 1) = true
    ∧ after (.multicastDeliver 0 0x2000 [5]) ((on sp0).setFld .nvdcfg 1 30 30 1) (fun t => (t.spire 0).spad.read 0x2000 = 5) = true := by decide +kernel

def red (id : Nat) (v : Nat) (st : Stage) : Req := { req id (.spad 0 0x2000) (.reduce ⟨.fp32, 0, .fp32, [v], [0]⟩) with stage := st }
def combining (st : Stage) : State := netOf (fun n => { n with reqs := [red 9 0x3FC00000 st, red 10 0x40000000 .net] }) (State.reset.setReg .nvdcfg 1 (0x1000000 + 0x100))

theorem witness_Combining :
    (red 9 0x3FC00000 .net).mates (red 10 0x40000000 .net) = true ∧ (combining .net).combines 1 0 = true ∧ (combining .net).buffered 0 < 16
      ∧ (combining .net).fld .nvdcfg 1 29 24 ≠ 0
    ∧ after (.routerCombine 9 9 0) (combining .net) (fun t => t.net.reqs.any (fun r => r.id = 9 && r.stage = .router 0)) = true
    ∧ after (.combineWaitExpiry 9) (combining (.router 0)) (fun t => t.net.reqs.any (fun r => r.id = 9 && r.stage = .net)) = true
    ∧ after (.routerCombine 10 9 0) (combining (.router 0))
        (fun t => t.net.reqs.map (fun r => (r.id, r.kind)) = [(1, .reduce ⟨.fp32, 0, .fp32, [0x40600000], [0]⟩)] && t.reg .ncomb = 1) = true
    ∧ after (.combinedAck 1) (netOf (fun n => { n with acks := [⟨1, .spire 0, .bus⟩], combined := [(1, [(9, .spire 0), (10, .spire 1)])] }) State.reset)
        (fun t => t.net.acks = [⟨9, .spire 0, .bus⟩, ⟨10, .spire 1, .bus⟩] && t.net.combined = []) = true := by decide +kernel

/-- Entry 0: configured, VD 1, barrier 3, EXPECT 1 or 2. -/
def arriveS (expect : Nat) : State :=
  netOf (fun n => { n with arrivals := [0] }) ((on { sp0 with wait := .bar 3 [] [] true none }).setReg .nbar 0 (BitVec.ofNat 64 (1 + 2 + 3 * 128 + expect * 2 ^ 15)))

theorem witness_BarriersAndLock :
    (arriveS 2).bit .nbar 0 0 = true ∧ (arriveS 2).fld .nbar 0 6 1 = 1 ∧ (arriveS 2).fld .nbar 0 23 15 = 2 ∧ ((arriveS 2).round 0).arrived = []
    ∧ after (.barrierArrival 0) (arriveS 2) (fun t => (t.round 0).arrived = [0] && t.fld .nbar 0 32 24 = 1 && (t.spire 0).wait = .bar 3 [] [] true (some 0)) = true
    ∧ after (.barrierArrival 0) (arriveS 1) (fun t => (t.round 0).arrived = [] && (t.spire 0).wait = .none && (t.spire 0).pc = 16) = true
    ∧ after (.lockReplay true 2 3) State.reset (fun t => t.reg .lkretry 1 = 3 && (t.recentReplays 2).length = 1) = true
    ∧ after (.lockCrossingOut 2) (netOf (fun n => { n with replays := ⟨[(2, List.replicate 65 0)]⟩ }) State.reset)
        (fun t => t.reg .lkstat 0 = 0xFFFB && t.reg .lkstat 1 = 0xFFFB) = true
    ∧ after (.lockCrossingOut 2) (netOf (fun n => { n with replays := ⟨[(2, List.replicate 64 0)]⟩ }) State.reset) (fun t => t.reg .lkstat 0 = 0xFFFF) = true := by
  decide +kernel

/-! ## Canals -/

/-- Canal 0 in a state, with all lanes. -/
def canal (st : Nat) : State := State.reset.setReg .cnstat 0 (BitVec.ofNat 64 (st + 15 * 8))
def lanes (t : State) : Nat × Nat := (t.fld .cnstat 0 2 0, t.fld .cnstat 0 6 3)
def link0 (l : Link) (s : State) : State := s.setLink 0 l

theorem witness_CanalStates :
    (canal 1).canalState 0 = 1 ∧ (canal 2).canalState 0 = 2 ∧ ((canal 2).link 5).recal = none
    ∧ after (.canalTrainingDone 0 0xF) (canal 1) (fun t => lanes t = (2, 15)) = true ∧ after (.canalTrainingDone 0 0xB) (canal 1) (fun t => lanes t = (4, 11)) = true
    ∧ after (.canalTrainingDone 0 3) (canal 1) (fun t => lanes t = (0, 0)) = true ∧ after (.canalTrainingRetry 0) (canal 1) (fun t => lanes t = (1, 0)) = true
    ∧ after (.recalibration 0 2) (canal 2) (fun t => (t.link 0).recal = some (2, 1)) = true
    ∧ after (.recalDone 0 true) (link0 { Link.reset with recal := some (2, 2) } (canal 3)) (fun t => lanes t = (2, 15) && (t.link 0).recal = some (2, 3)) = true
    ∧ after (.recalDone 0 false) (link0 { Link.reset with recal := some (2, 2) } (canal 3)) (fun t => lanes t = (4, 11) && (t.link 0).recal = none) = true := by
  decide +kernel

/-- The header of the manual's reducing write across the fabric (R247). -/
def hdrBytes : List Byte := bytesLE 8 0x12050C051F224002 ++ bytesLE 8 0x063004C100003A7F ++ bytesLE 8 0x000000C801000000

theorem test_packetHeader :
    Pkt.ofHeader hdrBytes []
      = ⟨2, { Packet.blank with len := 64, dst := 0x1F22, src := 0x0C05, agent := 517, cls := 2, seq := 0x3A7F, tag := 0x4C1, red := 3, frame := 24, addr := 0xC801000000 }⟩
    ∧ (Pkt.ofHeader hdrBytes []).header = hdrBytes := by decide +kernel

def pkt16 : Pkt := ⟨1, { Packet.blank with dst := 0, src := 7, len := 2, payload := (upFrom 1 16).map (BitVec.ofNat 8) }⟩
/-- A stream flit that holds the packet whole: 24 + 16 + 4 bytes and the rest of the flit. -/
def flit16 : List Byte := pkt16.bytes ++ List.replicate 20 0
def ctl (ok : Bool) : ControlFlit :=
  { fnum := 0, rxok := 5, rplf := 0, rplq := 0, rsv7 := 0, credit0 := 3, credit1 := 0, credit2 := 0, credit3 := 0, rcl := 0, crcOk := ok }

theorem witness_LinkFlits :
    (canal 2).canalUsable 0 = true ∧ flit16.length = 64 ∧ ((canal 2).link 0).discarding = false ∧ ((canal 2).link 0).credits.length = 4
      ∧ natLE ((flit16.drop 40).take 4) = crc32c (flit16.take 40)
    ∧ after (.codewordReceive 0 ⟨false, false, true, []⟩) (canal 2) (fun t => (t.link 0).discarding && (t.link 0).askReplay && t.reg .cnfecu 0 = 1) = true
    ∧ after (.codewordReceive 0 ⟨false, false, false, [.stream flit16]⟩) (canal 2) (fun t => (t.link 0).rxBuf.map (·.1) = [pkt16] && (t.link 0).rxNum = 1 && t.reg .cnrxb 0 = 16) = true
    ∧ after (.controlFlitReceive 0 (ctl false)) (canal 2) (fun t => (t.link 0).discarding) = true
    ∧ after (.controlFlitReceive 0 (ctl true)) (link0 { Link.reset with replay := [(4, .idle), (6, .idle)] } (canal 2))
        (fun t => (t.link 0).replay = [(6, .idle)] && (t.link 0).credits = [1027, 1024, 1024, 1024] && (t.link 0).rxNum = 1) = true
    ∧ after (.controlFlitSend 0) (link0 { Link.reset with owed := [9, 0, 0, 0], txNum := 4 } (canal 2)) (fun t => (t.link 0).txNum = 5 && (t.link 0).owed = [0, 0, 0, 0]) = true := by
  decide +kernel

def far7 (hops : BitVec 4) : Packet := { pkt16.p with dst := 9, hops := hops }
/-- The module is node 0; canal 3 is UP and fixed for node 9 (CNMBT: mask, FIXED). -/
def routed : State := ((canal 2).setReg .cnstat 3 (2 + 15 * 8)).setReg .cnmbt 9 (8 + 3 * 2 ^ 24)

theorem witness_PacketForwarding :
    routed.usable ⟨1, far7 0⟩ none (some 0) = [3] ∧ routed.node = 0 ∧ (routed.routeEntry 9) = (.cnmbt, 9) ∧ 3 ≤ routed.fld .cnmbt 9 26 24
    ∧ after (.packetForward 0 1 (far7 0)) routed (fun t => (t.link 3).replay.length = 0 && (t.link 3).txTail.length = 44) = true
    ∧ after (.packetForward 0 1 (far7 14)) routed (fun t => t.reg .cndrop 0 = 1 && (t.link 3).txTail = []) = true := by decide +kernel

/-- Fabric tag 77 belongs to VD 1; the next packet expected from node 7 is number 0. -/
def tagged (s : State) : State := let t := ch3 s; (t.setVd 1 { t.vd 1 with peers := [(7, 7)] }).setReg .cnvdt 1 (1 + 77 * 2)
def wr (tag : BitVec 20) (seq : BitVec 32) : Packet := { pkt16.p with tag := tag, seq := seq, addr := BitVec.ofNat 48 a3 }
def bas : Packet := { Packet.blank with src := 7, tag := 77, len := 8, addr := 3, payload := List.replicate 64 0 }
def fenP : Packet := { Packet.blank with src := 7, tag := 77, len := 2, payload := bytesLE 8 0x40000005 ++ bytesLE 8 9 }
def redP : Packet := { Packet.blank with src := 7, tag := 77, len := 1, red := 1, addr := BitVec.ofNat 48 a3, payload := [0, 0, 0xC0, 0x3F, 0, 0, 0, 0] }

theorem witness_SequencedPackets :
    rebuildSeq ((tagged State.reset).frontier 7) 0 = (tagged State.reset).frontier 7 ∧ (tagged State.reset).deliveryStatus ⟨1, wr 77 0⟩ = (.ok, 1)
      ∧ (tagged State.reset).deliveryStatus ⟨1, wr 78 0⟩ = (.tag, 0) ∧ (tagged State.reset).deliveryStatus ⟨5, bas⟩ = (.ok, 1)
      ∧ (tagged (fenced State.reset)).deliveryStatus ⟨6, fenP⟩ = (.ok, 1) ∧ (tagged State.reset).deliveryStatus ⟨2, redP⟩ = (.ok, 1)
      ∧ seqBehind (rebuildSeq ((tagged State.reset).frontier 7) 0xFFFFFFFF) ((tagged State.reset).frontier 7) = true
    ∧ after (.writePacket 0 (wr 77 0)) (tagged State.reset)
        (fun t => t.net.reqs.map (fun r => (r.target, r.kind)) = [(.dev a3, .write pkt16.p.payload)] && ((t.inbound 7).busy.map (·.ids)) = [[1]] && t.frontier 7 = 0) = true
    ∧ after (.writePacket 0 (wr 78 0)) (tagged State.reset) (fun t => t.net.reqs = [] && t.frontier 7 = 1) = true
    ∧ after (.writePacket 0 (wr 77 0xFFFFFFFF)) (tagged State.reset) (fun t => t.net.reqs = [] && t.frontier 7 = 0) = true
    ∧ after (.basinPacket 0 bas) (tagged State.reset) (fun t => t.net.appends.map (fun a => (a.basin, a.cmds.length)) = [(3, 1)]) = true
    ∧ after (.fencePacket 0 fenP) (tagged (fenced State.reset)) (fun t => t.net.signals.map (fun g => (g.slot, g.value)) = [(5, 9)]) = true
    ∧ after (.writeRedPacket 0 redP) (tagged State.reset) (fun t => t.net.reqs.map (·.kind) = [.reduce ⟨.fp32, 0, .fp32, [0x3FC00000, 0], [0, 0]⟩]) = true := by
  decide +kernel

/-- Module 7 is no peer of virtual device 1, and a confidential device takes no packet but the pool types (R287, R288). -/
def unpeered : State := (tagged (fenced State.reset)).setVd 1 { (tagged (fenced State.reset)).vd 1 with peers := [(9, 9)] }
def secret : State := (tagged (fenced State.reset)).setReg .vdcfg 1 5

theorem witness_PeersOnly :
    reservedBad ⟨1, wr 77 0⟩ = false ∧ unpeered.vdOfTag 77 = some 1 ∧ unpeered.vdState 1 ≠ 2 ∧ unpeered.isPeer 1 7 = false ∧ secret.confidential 1 = true ∧ secret.vdOfTag 77 = some 1
    ∧ unpeered.deliveryStatus ⟨1, wr 77 0⟩ = (.range, 1) ∧ secret.deliveryStatus ⟨5, bas⟩ = (.range, 1)
    ∧ after (.writePacket 0 (wr 77 0)) unpeered (fun t => t.frontier 7 = 1 && t.net = unpeered.net) = true
    ∧ after (.writeRedPacket 0 redP) unpeered (fun t => t.frontier 7 = 1 && t.net = unpeered.net) = true
    ∧ after (.basinPacket 0 bas) secret (fun t => t.frontier 7 = 1 && t.net = secret.net) = true
    ∧ after (.fencePacket 0 fenP) secret (fun t => t.frontier 7 = 1 && t.net = secret.net) = true := by decide +kernel

/-! ## Ends of packets, pools -/

def unret (sends : Nat) : Unretired := ⟨9, 0, ⟨1, wr 77 0⟩, .barge 3, 1, sends, 0⟩
/-- A WRITE with number 0 to node 7 is not retired. -/
def sent (sends : Nat) : State := State.reset.setPeer 7 { Peer.reset with unretired := [unret sends] }
def from7 (payload : List Byte) : Packet := { Packet.blank with src := 7, payload := payload }
def readU : Unretired := ⟨9, 5, ⟨3, { Packet.blank with seq := 5 }⟩, .spire 0, 1, 1, 0⟩
def heldS : State :=
  State.reset.setInbound 7 { Inbound.reset with held := [⟨0, ⟨1, { wr 77 0 with fin := 1 }⟩, 0, 0, [], .ok⟩] }

theorem witness_EndsOfPackets :
    (unret 1).acked 1 0 = true ∧ ((sent 1).peer 7).unretired = [unret 1] ∧ AccStatus.ofNum 4 = .range ∧ AccStatus.ofNum 10 = .busy
      ∧ ((heldS).inbound 7).held.map (·.pkt.p.fin) = [1] ∧ seqBehind 0 (heldS.frontier 7) = false
    ∧ after (.ackPacket 0 (from7 (bytesLE 16 1))) (sent 1) (fun t => (t.peer 7).unretired = [] && t.net.acks = [⟨9, .barge 3, .ok⟩]) = true
    ∧ after (.nakPacket 0 (from7 (bytesLE 8 0 ++ bytesLE 8 4))) (sent 1) (fun t => (t.peer 7).unretired = [] && t.net.acks = [⟨9, .barge 3, .range⟩]) = true
    ∧ after (.nakPacket 0 (from7 (bytesLE 8 0 ++ bytesLE 8 10))) (sent 1) (fun t => (t.peer 7).unretired = [unret 1] && t.net.acks = []) = true
    ∧ after (.readRspPacket 0 { from7 [1] with seq := 5 }) (State.reset.setPeer 7 { Peer.reset with unretired := [readU] }) (fun t => (t.peer 7).unretired = []) = true
    ∧ after (.resyncPacket 0 (from7 (bytesLE 8 12))) heldS (fun t => t.frontier 7 = 12 && (t.inbound 7).held = []) = true
    ∧ after (.ackTimer 7) (State.reset.setInbound 7 { Inbound.reset with sinceAck := 3 }) (fun t => (t.inbound 7).sinceAck = 0) = true
    ∧ after (.retransmitTimeout 7 0) (sent 1) (fun t => (t.peer 7).unretired.map (·.sends) = [2]) = true
    ∧ after (.retransmitTimeout 7 0) (sent 8) (fun t => t.reg .cnpdown 7 = 1 && (t.peer 7).unretired = [] && t.net.acks.map (·.status) = [.down]) = true
    ∧ after (.holdTimeout 7 0) heldS (fun t => (t.inbound 7).held = [] && t.frontier 7 = 1) = true := by decide +kernel

def sid9 : Packet := { Packet.blank with src := 7, seq := 0 }
def led (ph : PoolPhase) : Ledger :=
  { sid := 9, xid := 1, owner := 0, dest := 7, phase := ph, vdid := 1, laddr := a3, len := 64, fence := 0, crc := 0, staged := 3, slen := 64, mem := none, opener := none }
/-- VD 1 has a job and a pool queue 130 of context 0; engine N holds the state 9. -/
def pool (l : List Ledger) (c : List (Nat × Nat × Nat)) : State :=
  queued 130 3 c (((tagged (fenced { State.reset with dev := Memory.zero.write a3 5#8 })).setReg .scvd 1 1).setEngine 0 { Engine.reset with ledger := l })
def entryIs (t : State) (p : Ledger → Bool) : Bool := match t.entryOf 0 1 9 with | some l => p l | none => false
/-- STAGE, COMMIT, ABORT, GET, RETURN and FREE of state 9. -/
def stageB : List (Nat × Nat × Nat) := [(0, 1, 1), (16, 8, 9), (24, 2, 7), (28, 4, 64), (32, 8, a3)]
def moveB (op : Nat) : List (Nat × Nat × Nat) := [(0, 1, op), (16, 8, 9), (28, 4, 64), (32, 8, a3 + 64)]
def bareB (op : Nat) : List (Nat × Nat × Nat) := [(0, 1, op), (16, 8, 9)]

theorem witness_PoolCommands :
    let s := pool [] stageB
    s.turn 130 3 1 = some (qobj 3 (cmd stageB), cmd stageB) ∧ s.vdOfQueue (qobj 3 (cmd stageB)) = 1 ∧ s.hasJob 1 = true ∧ poolStray (cmd stageB) = false
      ∧ (s.acceptCmd 130 (qobj 3 (cmd stageB)) (cmd stageB) none none).1 = true ∧ s.engineOf 1 = 0 ∧ s.rangeIn 1 a3 64 false = true ∧ s.privSlot 0 = none
      ∧ poolStray (cmd (moveB 4)) = false ∧ poolStray (cmd (moveB 5)) = false ∧ poolStray (cmd (bareB 2)) = false ∧ s.rangeIn 1 (a3 + 64) 64 true = true
    ∧ after (.poolStage 130) s (fun t => entryIs t (fun l => l.phase = .staging && l.dest = 7 && l.owner = 0 && l.staged = BitVec.ofNat 64 (crc64 (5#8 :: List.replicate 63 0#8)))) = true
    ∧ after (.poolCommit 130) (pool [led .staged] (bareB 2)) (fun t => entryIs t (fun l => l.phase = .committing) && (t.engine 0).asks.map (fun k => (k.typ, k.node)) = [(tyPcommit, 7)]) = true
    ∧ after (.poolAbort 130) (pool [led .staged] (bareB 3)) (fun t => entryIs t (fun l => l.phase = .settled) && okCmd 130 t && t.reg .plfail 0 = 1) = true
    ∧ after (.poolGet 130) (pool [led .settled] (moveB 4)) (fun t => t.dev.read (a3 + 64) = 5 && okCmd 130 t) = true
    ∧ after (.poolReturn 130) (pool [led .settled] (moveB 5)) (fun t => t.dev.read (a3 + 64) = 5 && okCmd 130 t && entryIs t (fun l => l.laddr = a3 + 64)) = true
    ∧ after (.poolFree 130) (pool [led .settled] (bareB 6)) (fun t => (t.engine 0).ledger = [] && okCmd 130 t) = true := by decide +kernel

def ask (ty : BitVec 5) (x : W64) : PoolAsk := ⟨20, 7, 1, ty, 9, x⟩
def asking (l : List Ledger) (k : PoolAsk) (runs : List PoolRun) : State :=
  let s := (pool [] []).setEngine 0 { Engine.reset with ledger := l, asks := [k], runs := runs }
  s.setFabric { s.fabric with poolReqs := [⟨7, 0, 0, true, 20⟩] }
def reading : PoolRun := ⟨130, 1, 1, 9, 0, false, .read false [(20, 0, 8), (21, 8, 8)] [] 0 16 (a3 + 64)⟩
def answerP (b : List Byte) : Packet := { sid9 with payload := bytesLE 8 9 ++ b }

theorem witness_RemoteAnswers :
    (tagged (on { sp0 with spad := Memory.zero.write 0x2000 6#8 })).vdOfTag 77 = some 1 ∧ addrSpad 0x800000002000 = some (0, 0x2000)
      ∧ reservedBad ⟨tyRead, { sid9 with tag := 77, len := 1, addr := 0x800000002000 }⟩ = false
      ∧ (((asking [led .settled] (ask tyPread 0) [reading]).poolAnswer (answerP (bytesLE 8 6))).1.map (·.1)) = some 0
    ∧ after (.pdata 0 (answerP (bytesLE 8 6))) (asking [led .settled] (ask tyPread 0) [reading])
        (fun t => t.dev.readN (a3 + 64) 2 = [6, 0] && (t.engine 0).runs.map (·.job) = [.read false [(21, 8, 8)] [(0, bytesLE 8 6)] 0 16 (a3 + 64)]) = true
    ∧ after (.paccept 0 (answerP (bytesLE 8 1 ++ bytesLE 8 64 ++ bytesLE 8 3))) (asking [led .committing] (ask tyPcommit 1) [])
        (fun t => entryIs t (fun l => l.owner = 7 && l.phase = .settled && l.crc = 3)) = true
    ∧ after (.pstatus 0 (answerP (bytesLE 8 1 ++ bytesLE 8 0 ++ bytesLE 8 8))) (asking [led .staging] (ask tyPcopy 1) [])
        (fun t => entryIs t (fun l => l.owner = 0 && l.phase = .staged && l.staged = 8)) = true
    ∧ after (.readPacket 0 { sid9 with tag := 77, len := 1, addr := 0x800000002000 })
        ((tagged (on { sp0 with spad := Memory.zero.write 0x2000 6#8 })).setReg .cnstat 3 (2 + 15 * 8) |>.setReg .cnmbt 7 (8 + 3 * 2 ^ 24))
        (fun t => ((t.link 3).txTail.drop 24).take 2 = [6, 0]) = true := by decide +kernel

theorem witness_PoolTimers :
    let s := asking [{ led .settled with owner := 7 }] (ask tyPread 0) []
    (s.engine 0).asks.find? (fun y => y.id = 20) = some (ask tyPread 0)
    ∧ after (.poolResponseTimeout 0 20) s (fun t => t.fabric.poolReqs = s.fabric.poolReqs && (t.engine 0).asks = [] && (t.engine 0).unreachable = [7]) = true
    ∧ after (.poolProbe 0 7) (s.setEngine 0 { s.engine 0 with unreachable := [7] }) (fun t => (t.engine 0).asks.any (fun k => k.typ = tyPrule && k.sid = 9)) = true
    ∧ after (.poolLoss 0 7) (s.setEngine 0 { s.engine 0 with unreachable := [7] }) (fun t => (t.engine 0).ledger.map (·.phase) = [.lost]) = true := by decide +kernel

/-! ## Power, pins, resets -/

def life (l : Life) (s : State) : State := s.setLife l
def runS : State := life .running State.reset

theorem witness_PowerFaults :
    runS.powered = true ∧ State.reset.powered = true
    ∧ after .v54Removed { runS with dev := Memory.zero.write 5 1#8 } (fun t => t.power.life = .off && t.dev = Memory.zero) = true
    ∧ after .overcurrent runS (fun t => t.power.life = .opened) = true
    ∧ after .undervoltage runS (fun t => t.power.life = .held && t.power.low) = true
    ∧ after (.overvoltage 61000) runS (fun t => t.power.life = .held && t.power.low) = true
    ∧ after (.overvoltage 60000) runS (fun t => t = runS) = true
    ∧ (match exec (.overvoltage 65001) runS with | .fault .absoluteMaximum => true | _ => false) = true
    ∧ after .thermalTrip runS (fun t => t.power.life = .tripped && t.power.therm) = true := by decide +kernel

/-- With nothing in the flash, start-up ends held, without a firmware slot (R473, R474). -/
theorem witness_PinEvents :
    ((State.reset.setReg .cncfg 2 1).setReg .cnstat 2 0).canalState 2 = 0
    ∧ after .modRstAssert runS (fun t => t.power.modRst && t.power.life = .held) = true
    ∧ after (.perstAssert 0) (runS.setPower { runS.power with perst := [true, true], linkUp := [true, true] }) (fun t => t.power.perst = [false, true] && t.power.linkUp = [false, true]) = true
    ∧ after (.perstRelease 1) runS (fun t => t.power.perst = [false, true]) = true
    ∧ after (.hostLinkUp 0) (runS.setPower { runS.power with perst := [true, false] }) (fun t => t.power.linkUp = [true, false]) = true
    ∧ after (.cableSeated 2) ((State.reset.setReg .cncfg 2 1).setPower { State.reset.power with cables := 0 }) (fun t => t.power.cables = 4 && t.canalState 2 = 1) = true
    ∧ after (.cableRemoved 0) (canal 2) (fun t => t.canalState 0 = 0 && t.power.cables = 0xFFFFFE) = true := by decide +kernel

theorem witness_Resets :
    ((vdOne.setVd 1 { vdOne.vd 1 with frozen := true }).vd 1).slice? 4 = some ⟨4, [0], 0, none⟩ ∧ vdOne.bit .rldump 0 0 = false ∧ (life .running vdOne).running = true
    ∧ after (.spireReset 0) (on { Spire.reset 0 with regs := ⟨[(3, 9)]⟩ }) (fun t => t.spire 0 = Spire.reset 0 && t.reg .rlrst 0 = 1) = true
    ∧ after (.clusterReset 0) (on { Spire.reset 0 with regs := ⟨[(3, 9)]⟩ }) (fun t => t.spire 0 = Spire.reset 0 && t.reg .rlrst 1 = 1) = true
    ∧ after (.sliceReset 1 4) ((vdOne.setSpire 0 { sp0 with pc := 64 }).setVd 1 { vdOne.vd 1 with frozen := true }) (fun t => (t.spire 0).run = .free && t.reg .rlrst 2 = 1) = true
    ∧ after (.vdReset 1) vdOne (fun t => (t.vd 1).gen = 1 && t.reg .rlrst 3 = 1) = true
    ∧ after (.towerReset 0) vdOne (fun t => (t.vd 1).gen = 1 && t.reg .rlrst 4 = 1) = true
    ∧ after (.towerReset 1) vdOne (fun t => (t.vd 1).gen = 0) = true
    ∧ after (.sampleAbandon 3) State.reset (fun t => t.unsampled = [3] && t.reg .rldlost = 1) = true := by decide +kernel

def dying : State := (fenced State.reset).setObjs { (fenced State.reset).objs with ctxs := { (fenced State.reset).objs.ctxs with live := ⟨[(0, { ctx0 with dying := true })]⟩ } }
def startedQ : QueueObj := { qobj 1 { cmd [(0, 1, 0x10)] with stage := .started } with cmds := [{ cmd [(0, 1, 0x10)] with stage := .started }] }
def timed : State := (fenced vdOne).setObjs { (fenced vdOne).objs with queues := { (fenced vdOne).objs.queues with live := ⟨[(130, startedQ)]⟩ } }

theorem witness_TimersOfCommands :
    dying.objs.ctxs.live.find? 0 = some { ctx0 with dying := true } ∧ timed.vdOfQueue startedQ = 1 ∧ timed.vdActive 1 = true
    ∧ after (.teardownDrainExpiry 0) dying (fun t => t.objs.ctxs.live.find? 0 = none && t.fence 5 = none) = true
    ∧ after (.commandTimeout (.queue 130 1)) timed (fun t => (t.vd 1).gen = 1 && t.reg .rlto = 1 && stageOf 130 t = some (.done ⟨stTimeout, 0, 0, t.errStatus kindTimeout 0⟩)) = true := by
  decide +kernel

/-- Start-up where MOD_RST_L is low, where the flash cannot be read, where the fuses spell SCRAPPED, and where 54 V comes back into range. -/
theorem witness_StartUp :
    after (.powerUp { bringUp with addr := 3 }) (State.reset.setPower { State.reset.power with modRst := true }) (fun t => t.power.life = .held && t.bmcAddress = 0x43) = true
    ∧ (decodeFuses (logicalFuses State.reset.sec.fuses)).1 ≠ 5
    ∧ after (.powerUp { bringUp with flashOk := false }) State.reset (fun t => t.power.life = .held && t.fld .sustat 0 3 0 = 3) = true
    ∧ after (.v54Restored { bringUp with flashOk := false }) (State.reset.setPower { State.reset.power with low := true }) (fun t => t.power.life = .held && ! t.power.low) = true := by decide +kernel

/-! ## The host's side -/

/-- Control queue 0 of PF 0 with rings of 64 entries at host addresses 0x10000 and 0x20000. -/
def hostQ (cmds : List Cmd) : State :=
  let s := State.reset.setObjs { State.reset.objs with queues := { State.reset.objs.queues with live := ⟨[(0, { qobj 0 (cmd []) with cmds := cmds })]⟩ } }
  ((((s.setReg .qcbase 0 0x10000).setReg .qkbase 0 0x20000).setReg .qcfg 0 (6 + 6 * 32)).setReg .qstat 0 1)
def qempty : QueueObj := { qobj 0 (cmd []) with cmds := [] }
def doneC : Cmd := { cmd [] with seq := 0, stage := .done ⟨4, 0x40000005, 9, 0⟩ }

theorem witness_HostQueues :
    (hostQ []).ownsQueue 0 0 = true ∧ (hostQ []).fnExists 0 = true ∧ (hostQ []).bar4Unlanded 0 = []
      ∧ seqAfter 3 ((hostQ []).reg .qcprod 0) = true ∧ seqAfter 3 ((hostQ []).reg .qccons 0 + BitVec.ofNat 64 (2 ^ (hostQ []).fld .qcfg 0 4 0)) = false
      ∧ seqBehind 3 ((hostQ []).reg .qccons 0) = false ∧ ((hostQ []).setReg .qcprod 0 3).mayFetch 0 qempty = true ∧ (hostQ []).bit .qcbase 0 0 = false
    ∧ after (.doorbell 0 0 0 8 3) (hostQ []) (fun t => t.reg .qcprod 0 = 3) = true
    ∧ after (.doorbell 0 0 0 8 3) ((hostQ []).setNet { State.reset.net with reqs := [{ req 4 (.dev a3) (.write [7]) with agent := .host 0 }] }) (fun t => t.reg .qcprod 0 = 0 && t.bells = [⟨0, 0, 3, [4]⟩]) = true
    ∧ after (.completionConsumerWrite 0 0 8 1) ((hostQ []).setReg .qkprod 0 2) (fun t => t.reg .qkcons 0 = 1) = true
    ∧ after (.completionConsumerWrite 0 0 4 1) ((hostQ []).setReg .qkprod 0 2) (fun t => t.reg .qkcons 0 = 0 && t.reg .fndberr 0 = 1) = true
    ∧ after (.commandFetch 0 (.data (7 :: List.replicate 63 0))) ((hostQ []).setReg .qcprod 0 3)
        (fun t => ((t.objs.queues.live.find? 0).map (fun o => o.cmds.map (·.raw))) = some [7] && t.reg .qccons 0 = 1) = true
    ∧ after (.commandFetch 0 .busError) ((hostQ []).setReg .qcprod 0 3) (fun t => t.reg .qstat 0 = 0x303) = true
    ∧ after (.commandRetire ⟨0, false⟩) (hostQ [doneC])
        (fun t => (t.hostOf 0).readN 0x20010 16 = [5, 0, 0, 0x40, 4, 0, 0, 0, 9, 0, 0, 0, 0, 0, 0, 0] && t.reg .qdone 0 = 1 && t.reg .qkprod 0 = 1) = true
    ∧ after (.msixModerationExpiry 0) (State.reset.setObjs { State.reset.objs with queues := { State.reset.objs.queues with live := ⟨[(0, { qempty with moderating := true, owed := true })]⟩ } })
        (fun t => t.msix.get 0 0 = 1) = true := by decide +kernel

theorem witness_FunctionPage :
    State.reset.fnExists 0 = true ∧ State.reset.fnExists 1 = false
    ∧ after (.statusRingEnable 0 0 0x12345) State.reset (fun t => t.reg .fsbase 0 = 0x12000) = true
    ∧ after (.statusRingEnable 0 8 0x10206) State.reset (fun t => t.reg .fsctl 0 = 0x10206) = true
    ∧ after (.statusRingEnable 0 0 0x12345) (State.reset.setReg .fsctl 0 0x10206) (fun t => t.reg .fsbase 0 = 0 && t.reg .fndberr 0 = 1) = true
    ∧ after (.statusConsumerWrite 0 1) ((State.reset.setReg .fsctl 0 0x10206).setReg .fsprod 0 2) (fun t => t.reg .fscons 0 = 1) = true
    ∧ after (.controlQueueCreate 0 0x28 0x10000) State.reset (fun t => (t.objs.page.get (0, 0) 0).1 = 0x10000) = true
    ∧ after (.controlQueueCreate 0 0x38 (6 + 7 * 32 + 5 * 1024 + 2 ^ 18)) { State.reset with objs := { State.reset.objs with page := ⟨[(0, (0x10000, 0x20000))]⟩ } }
        (fun t => t.reg .qcbase 0 = 0x10000 && t.reg .qkbase 0 = 0x20000 && t.fld .qcfg 0 17 10 = 5 && t.fld .qstat 0 1 0 = 1) = true
    ∧ after (.fwRequestProducer 0 1) State.reset (fun t => t.fw.reqProd.getD 0 0 = 1) = true
    ∧ after (.fwResponseConsumer 0 1) (State.reset.setFw { State.reset.fw with rspProd := [2, 0] }) (fun t => t.fw.rspCons.getD 0 0 = 1) = true := by decide +kernel

/-- A memory object over channel 3 in aperture 0 of PF 0. -/
def mem0 : MemObj := { head := hd, kind := 0, base := a3, len := 0x100000, carve := 0, ownerVd := 0 }
def mapped : State :=
  let s := ch3 (fenced { State.reset with dev := Memory.zero.write (a3 + 8) 6#8 })
  s.setObjs { s.objs with mems := { s.objs.mems with live := ⟨[(0, mem0)]⟩ }, aps := ⟨[(0, ⟨0, a3, 1, 0⟩)]⟩ }

theorem witness_BarAccesses :
    bar0Regs 0x1000000 = [(.pwcap, 0, 0)] ∧ State.reset.writeIgnored .pwcap 0 (mergeWrite .pwcap true (State.reset.reg .pwcap 0) 700 (BitVec.allOnes 64)) = false
      ∧ mapped.bar4Cuts 0 8 1 = [(8, 1)] ∧ (match mapped.bar4At 0 8 false with | .at n p v => decide (n = a3 + 8 ∧ p = a3 + 8 ∧ v = 1) | _ => false) = true
    ∧ latching 0x1000000 = true
    ∧ after (.bar0ReadLatch 0 0x1000000 8) State.reset (fun t => t.shown = bytesLE 8 2000) = true
    ∧ after (.bar0ReadLatch 0 0x1000000 4) State.reset (fun t => t.shown = bytesLE 4 2000) = true
    ∧ after (.registerWrite (.host 0) 0x1000000 700) State.reset (fun t => t.reg .pwcap = 2000 && t.reg .fnwign 0 = 1) = true
    ∧ after (.registerWrite .firmware 0x1000000 700) State.reset (fun t => t.reg .pwcap = 700) = true
    ∧ after (.registerWrite .firmware 0x1000000 500) State.reset (fun t => t.reg .pwcap = 2000) = true
    ∧ after (.bar4Read 0 8 1) mapped (fun t => t.shown = [6]) = true
    ∧ after (.bar4Read 0 8 1) State.reset (fun t => t.shown = [0xFF] && t.reg .fnunmap 0 = 1) = true
    ∧ after (.bar4Write 0 8 [7]) mapped (fun t => t.net.reqs.map (fun r => (r.target, r.kind)) = [(.dev (a3 + 8), .write [7])]) = true := by decide +kernel

def regB : List (Nat × Nat × Nat) := [(0, 1, 0x20), (8, 4, 8 * 8), (16, 8, 5), (24, 8, 0xFF)]
def peerB : List (Nat × Nat × Nat) := [(0, 1, 0x21), (8, 2, 7)]

theorem witness_FunctionsAndModuleCommands :
    strayBits (words regB) (0xFF ||| byteMask [(8, 4), (16, 16)]) = false ∧ functionBlock[8]? = some .fndberr ∧ State.reset.noScheduler = false ∧ State.reset.bindRunning = false
      ∧ (queued 0 0 regB State.reset).turn 0 0 0x20 = some (qobj 0 (cmd regB), cmd regB)
    ∧ after (.regWrite 0) (queued 0 0 regB State.reset) (fun t => okCmd 0 t && t.reg .fndberr 0 = 5) = true
    ∧ after (.peerReset 0) (queued 0 0 peerB (State.reset.setReg .cnpdown 7 1)) (fun t => okCmd 0 t && t.reg .cnpdown 7 = 0 && (t.peer 7).synced) = true
    ∧ (let s := queued 0 0 [(0, 1, 0x22)] ((State.reset.setFld .fwproc 2 1 0 1).setFld .fwproc 3 1 0 1)
       s.turn 0 0 0x22 = some (qobj 0 (cmd [(0, 1, 0x22)]), cmd [(0, 1, 0x22)]) ∧ s.bit .chg 0 1 = false ∧ s.procState 2 = 1)
    ∧ after (.functionLevelReset 1) ((queued 1 0 [] State.reset).setReg .fnwign 1 4 |>.setFw { State.reset.fw with vfs := [2, 0] })
        (fun t => t.objs.queues.live.find? 1 = none && t.reg .fnwign 1 = 0) = true
    ∧ after (.functionLevelReset 0) ((queued 1 0 [] State.reset).setFw { State.reset.fw with vfs := [2, 0] }) (fun t => t.objs.queues.live.find? 1 = none && t.fw.vfs = [0, 0]) = true
    ∧ after (.linkDown 0) ((queued 1 0 [] State.reset).setFw { State.reset.fw with vfs := [2, 0] }) (fun t => t.objs.queues.live.find? 1 = none && t.fw.vfs = [0, 0]) = true
    ∧ after (.vfEnable 0 5) State.reset (fun t => t.fw.vfs = [5, 0]) = true := by decide +kernel

/-! ## Objects -/

/-- Control queue 0 with one command, context 0 of virtual device 1, the fence of slot 5, queue 130, memory object 0 and event source 0, channel 3. -/
def event0 : EventObj := ⟨hd, 2, 0, 0⟩
def objsS : State :=
  let s := ch3 (fenced vdOne)
  s.setObjs { s.objs with mems := { s.objs.mems with live := ⟨[(0, mem0)]⟩, next := 1 }, events := { s.objs.events with live := ⟨[(0, event0)]⟩, next := 1 }, ctxs := { s.objs.ctxs with next := 1 }, queues := { s.objs.queues with live := ⟨[(130, { qobj 1 (cmd []) with cmds := [] })]⟩ } }
def ask0 (l : List (Nat × Nat × Nat)) : State := queued 0 0 l (objsS.setReg .qstat 130 1)
def stop0 (l : List (Nat × Nat × Nat)) : State := queued 0 0 l (objsS.setReg .qstat 130 2)
/-- The command is next at its queue and names nothing it may not. -/
def may (l : List (Nat × Nat × Nat)) (op mask : Nat) (s : State) : Bool :=
  decide (s.turn 0 0 op = some (qobj 0 (cmd l), cmd l)) && ! strayBits (words l) (0xFF ||| mask)
/-- The handle that the command of queue 0 has answered with. -/
def gave (t : State) : Nat := match stageOf 0 t with | some (.done d) => if d.status = 0 then d.handle.toNat else 1 | _ => 0

def hCtx : Nat := 0x10000000
def hQueue : Nat := 0x20000082
def hMem : Nat := 0x30000000
def hFence : Nat := 0x40000005
def hEvent : Nat := 0x50000000
def ctxB : List (Nat × Nat × Nat) := [(0, 1, 0x40), (8, 1, 1), (10, 2, 100)]
def ctxDB : List (Nat × Nat × Nat) := [(0, 1, 0x41), (8, 4, hCtx)]
def qB : List (Nat × Nat × Nat) := [(0, 1, 0x42), (8, 4, hCtx), (12, 1, 1), (13, 1, 6), (14, 1, 7), (15, 1, 3), (16, 8, 0x10000), (24, 8, 0x20001), (32, 2, 5)]
def memB : List (Nat × Nat × Nat) := [(0, 1, 0x46), (8, 4, hCtx), (16, 8, a3), (24, 8, 4096)]
def farB : List (Nat × Nat × Nat) := [(0, 1, 0x46), (8, 4, hCtx), (16, 8, a3 + 2 ^ 32), (24, 8, 4096)]
def fenceB : List (Nat × Nat × Nat) := [(0, 1, 0x49), (8, 4, hCtx), (16, 8, 9)]
def eventB : List (Nat × Nat × Nat) := [(0, 1, 0x4C), (8, 4, hCtx), (12, 1, 3)]
def exportB : List (Nat × Nat × Nat) := [(0, 1, 0x4E), (8, 4, hFence), (12, 4, 0xABCD)]
def importB : List (Nat × Nat × Nat) := [(0, 1, 0x4F), (8, 4, hCtx + 1), (12, 4, hFence), (16, 4, 0xABCD)]
def releaseB : List (Nat × Nat × Nat) := [(0, 1, 0x50), (8, 4, hCtx), (12, 4, hFence)]
/-- Two contexts of virtual device 1, and the fence of slot 5 exported with a key. -/
def twoCtx (l : List (Nat × Nat × Nat)) : State :=
  let s := ask0 l
  s.setObjs { s.objs with ctxs := { s.objs.ctxs with live := ⟨[(0, ctx0), (1, ctx0)]⟩ }, fences := { s.objs.fences with live := ⟨[(5, { fence7 with head := { hd with key := 0xABCD } })]⟩ } }

theorem witness_ObjectsComeAndGo :
    may ctxB 0x40 (byteMask [(8, 1), (10, 2), (16, 8)]) (ask0 ctxB) = true ∧ ((ask0 ctxB).objs.ctxs.take 256).map (·.1) = some 1 ∧ (ask0 ctxB).granted' 0 1 = true
      ∧ (ask0 ctxB).rootOk 0 = true ∧ may ctxDB 0x41 (byteMask [(8, 4)]) (ask0 ctxDB) = true ∧ (ask0 ctxDB).ctxNamed (qobj 0 (cmd ctxDB)) 0x10000000 = some 0
      ∧ may qB 0x42 (byteMask [(8, 8), (32, 2)] ||| ((2 ^ 64 - 0x3F) <<< 128) ||| ((2 ^ 64 - 0x3F) <<< 192)) (ask0 qB) = true ∧ ringsOk 0 6 7 3 = true
      ∧ ((ask0 qB).objs.queues.take 4096).map (·.1) = some 128 ∧ may memB 0x46 (byteMask [(8, 4), (12, 3), (16, 16)]) (ask0 memB) = true
      ∧ (ask0 memB).memRangeOk 1 0 0 0 a3 4096 = true ∧ may fenceB 0x49 (byteMask [(8, 4), (16, 16)]) (ask0 fenceB) = true
      ∧ may eventB 0x4C (byteMask [(8, 4), (12, 1), (16, 8)]) (ask0 eventB) = true ∧ may exportB 0x4E (byteMask [(8, 8)]) (ask0 exportB) = true
      ∧ may importB 0x4F (byteMask [(8, 12)]) (twoCtx importB) = true ∧ (twoCtx importB).ctxNamed (qobj 0 (cmd importB)) 0x10000001 = some 1
      ∧ may releaseB 0x50 (byteMask [(8, 12), (24, 8)]) (ask0 releaseB) = true
    ∧ after (.ctxCreate 0) (ask0 ctxB) (fun t => ((t.objs.ctxs.live.find? 1).map (fun x => (x.vd, x.drain, x.head.href))) = some (1, 100, 1) && gave t = 0x10000001) = true
    ∧ after (.ctxDestroy 0) (ask0 ctxDB) (fun t => t.objs.ctxs.live.find? 0 = none && okCmd 0 t) = true
    ∧ after (.qCreate 0) (ask0 qB) (fun t => ((t.objs.queues.live.find? 128).map (·.kind)) = some 1 && t.reg .qkbase 128 = 0x20001 && gave t = 0x20000080) = true
    ∧ after (.memCreate 0) (ask0 memB) (fun t => ((t.objs.mems.live.find? 1).map (·.base)) = some a3 && gave t = 0x30000001) = true
    ∧ after (.memCreate 0) (ask0 farB) (fun t => t.objs.mems = (ask0 farB).objs.mems) = true ∧ (ask0 farB).ownsRange 1 (a3 + 2 ^ 32) 4096 = false
    ∧ after (.fenceCreate 0) (ask0 fenceB) (fun t => ((t.fence 0).map (·.value)) = some 9 && gave t = 0x40000000) = true
    ∧ after (.eventCreate 0) (ask0 eventB) (fun t => ((t.objs.events.live.find? 1).map (·.vec)) = some 3 && gave t = 0x50000001) = true
    ∧ after (.exportObj 0) (ask0 exportB) (fun t => ((t.fence 5).map (·.head.key)) = some 0xABCD && okCmd 0 t) = true
    ∧ after (.importObj 0) (twoCtx importB) (fun t => ((t.fence 5).map (fun x => (x.head.href, x.head.imports))) = some (2, [1]) && gave t = 0x40000005) = true
    ∧ after (.releaseObj 0) (ask0 releaseB) (fun t => t.fence 5 = none && t.objs.fences.gens.get 0 5 = 1 && okCmd 0 t) = true := by decide +kernel

def qStopB : List (Nat × Nat × Nat) := [(0, 1, 0x43), (8, 4, hQueue), (12, 1, 1)]
def qStartB : List (Nat × Nat × Nat) := [(0, 1, 0x44), (8, 4, hQueue)]
def qResetB : List (Nat × Nat × Nat) := [(0, 1, 0x45), (8, 4, hQueue), (16, 8, 4)]
def mapB : List (Nat × Nat × Nat) := [(0, 1, 0x47), (8, 4, hMem), (12, 2, 2), (14, 2, 1), (16, 8, 0x10000)]
def unmapB : List (Nat × Nat × Nat) := [(0, 1, 0x48), (12, 2, 0), (14, 2, 1)]
def linkB (h : Nat) : List (Nat × Nat × Nat) := [(0, 1, 0x4A), (8, 4, hFence), (12, 2, 9), (16, 4, h), (20, 1, 2)]
def fResetB : List (Nat × Nat × Nat) := [(0, 1, 0x4B), (8, 4, hFence), (16, 8, 12)]
def notifyB (v : Nat) : List (Nat × Nat × Nat) := [(0, 1, 0x4D), (8, 4, hFence), (12, 4, hEvent), (16, 8, v)]
def grantB (off : Nat) : List (Nat × Nat × Nat) := [(0, 1, 0x51), (8, 1, 1), (9, 1, 5), (10, 1, off)]
def freezeB : List (Nat × Nat × Nat) := [(0, 1, 0x52), (8, 1, 1), (10, 2, 100)]
def thawB : List (Nat × Nat × Nat) := [(0, 1, 0x55), (8, 1, 1)]
def peered (s : State) : State := s.setVd 1 { s.vd 1 with peers := [(9, 9)] }
def fwd2 (s : State) : State :=
  s.setObjs { s.objs with fences := { s.objs.fences with live := s.objs.fences.live.set 5 { fence7 with fwd := ⟨[(2, (9, 1))]⟩ } } }
def bound0 (s : State) : State := s.setObjs { s.objs with aps := ⟨[(0, ⟨0, a3, 1, 0⟩)]⟩ }
def granted (s : State) : State := s.setObjs { s.objs with grants := ⟨[(321, ())]⟩ }

theorem witness_ObjectCommands :
    may qStopB 0x43 (byteMask [(8, 4), (12, 1)]) (ask0 qStopB) = true ∧ (ask0 qStopB).objNamed (qobj 0 (cmd qStopB)) tyQueue 0x20000082 = some 130
      ∧ may qStartB 0x44 (byteMask [(8, 4)]) (stop0 qStartB) = true ∧ may qResetB 0x45 (byteMask [(8, 4), (16, 8)]) (stop0 qResetB) = true
      ∧ may mapB 0x47 (byteMask [(8, 4), (12, 4), (16, 8)]) (ask0 mapB) = true ∧ (ask0 mapB).confidential 1 = false ∧ 0x10000 + (ask0 mapB).apertureBytes 0 ≤ mem0.len
      ∧ may unmapB 0x48 (byteMask [(12, 4)]) (bound0 (ask0 unmapB)) = true ∧ may (linkB 1) 0x4A (byteMask [(8, 4), (12, 2), (16, 4), (20, 1)]) (ask0 (linkB 1)) = true
      ∧ (peered (ask0 [])).isPeer 1 9 = true ∧ may fResetB 0x4B (byteMask [(8, 4), (16, 8)]) (ask0 fResetB) = true
      ∧ may (notifyB 8) 0x4D (byteMask [(8, 8), (16, 8)]) (ask0 (notifyB 8)) = true ∧ fence7.answer 8 = none ∧ fence7.answer 7 ≠ none
      ∧ may (grantB 0) 0x51 (byteMask [(8, 2)]) (ask0 (grantB 0)) = true ∧ may freezeB 0x52 (byteMask [(8, 1), (10, 2)]) (ask0 freezeB) = true
      ∧ may thawB 0x55 (byteMask [(8, 1)]) (ask0 thawB) = true ∧ ((ask0 thawB).setSpire 0 sp0).freeSpires 1 = []
    ∧ after (.qStop 0) (ask0 qStopB) (fun t => t.fld .qstat 130 1 0 = 2 && okCmd 0 t) = true
    ∧ after (.qStart 0) (stop0 qStartB) (fun t => t.fld .qstat 130 1 0 = 1 && okCmd 0 t) = true
    ∧ after (.qReset 0) (stop0 qResetB) (fun t => t.reg .qcprod 130 = 4 && t.reg .qccons 130 = 4 && t.reg .qdone 130 = 4 && okCmd 0 t) = true
    ∧ after (.memMap 0) (ask0 mapB) (fun t => t.objs.aps.find? 2 = some ⟨0, a3 + 0x10000, 1, 0⟩ && okCmd 0 t) = true
    ∧ after (.memUnmap 0) (bound0 (ask0 unmapB)) (fun t => t.objs.aps.cells = [] && okCmd 0 t) = true
    ∧ after (.fenceLink 0) (peered (ask0 (linkB 0x40000001))) (fun t => ((t.fence 5).map (fun g => g.fwd.find? 2)) = some (some (9, 0x40000001)) && okCmd 0 t) = true
    ∧ after (.fenceLink 0) (fwd2 (ask0 (linkB 0))) (fun t => ((t.fence 5).map (·.fwd.cells)) = some [] && okCmd 0 t) = true
    ∧ after (.fenceReset 0) (ask0 fResetB) (fun t => ((t.fence 5).map (·.value)) = some 12 && okCmd 0 t) = true
    ∧ after (.fenceNotify 0) (ask0 (notifyB 8)) (fun t => t.objs.notes = [⟨5, 0, 8⟩] && okCmd 0 t) = true
    ∧ after (.fenceNotify 0) (ask0 (notifyB 7)) (fun t => ((t.objs.events.live.find? 0).map (·.count)) = some 1 && okCmd 0 t) = true
    ∧ after (.vdGrant 0) (ask0 (grantB 0)) (fun t => t.objs.grants.find? (64 * 5 + 1) = some () && okCmd 0 t) = true
    ∧ after (.vdGrant 0) (granted (ask0 (grantB 1))) (fun t => t.objs.grants.cells = [] && okCmd 0 t) = true
    ∧ after (.vdFreeze 0) (ask0 freezeB) (fun t => (t.vd 1).freezer = some (0, 1) && (t.vd 1).frozen) = true
    ∧ after (.vdThaw 0) ((ask0 thawB).setSpire 0 sp0 |>.setVd 1 { (ask0 thawB).vd 1 with frozen := true }) (fun t => ! (t.vd 1).frozen && okCmd 0 t) = true := by decide +kernel

/-! ## Virtual devices -/

/-- Virtual device 1 has spire 0 in slice 4, channel 3 in carve-out 0, its save area of two slots at the channel's start. -/
def carve3 : Carve := { extents := [(.channel 3, 4)], enc := false, key := 0, sealed := false }
def vdB (s : State) : State :=
  ((ch3 s).setReg .vdsave 1 (BitVec.ofNat 64 a3)).setVd 1 { s.vd 1 with carves := ⟨[(0, carve3)]⟩, slots := 2 }
def bindB (l : List (Nat × Nat × Nat)) : State := queued 0 0 l (vdB vdOne)
def retake (t : State) (v : Nat) (p : VdState → Bool) : Bool := p (t.vd v)

def createB : List (Nat × Nat × Nat) := [(0, 1, 1), (1, 1, 2), (10, 1, 20), (11, 1, 5), (12, 2, 0x1234), (14, 2, 0xFFFF), (20, 2, 3), (24, 8, 0x10000)]
def setB : List (Nat × Nat × Nat) := [(0, 1, 2), (1, 1, 1), (9, 1, 1), (10, 1, 20), (14, 2, 70)]
def destroyB : List (Nat × Nat × Nat) := [(0, 1, 3), (1, 1, 1)]
def sliceB : List (Nat × Nat × Nat) := [(0, 1, 4), (1, 1, 1), (2, 1, 9), (8, 3, 2), (16, 8, 0x20)]
def unsliceB : List (Nat × Nat × Nat) := [(0, 1, 5), (1, 1, 1), (2, 1, 4), (8, 2, 10)]
def peerVB : List (Nat × Nat × Nat) := [(0, 1, 0xA), (1, 1, 1), (9, 1, 1), (12, 2, 3), (14, 2, 5)]
def barB (n : Nat) : List (Nat × Nat × Nat) := [(0, 1, 0xB), (1, 1, 1), (8, 1, 6), (10, 2, n)]
def busy1 (l : List (Nat × Nat × Nat)) : State := (bindB l).setSpire 0 { sp0 with kernel := some { kern with ctx := 0 } }
/-- Entry 0 of the barrier table counts 4 for barrier 6 of virtual device 1. -/
def bar6 (l : List (Nat × Nat × Nat)) : State := (bindB l).setReg .nbar 0 (BitVec.ofNat 64 (1 + 2 + 6 * 128 + 4 * 2 ^ 15))

theorem witness_VirtualDevicesAndSlices :
    may createB 1 (byteMask [(1, 1), (8, 8), (20, 2), (24, 8)]) (bindB createB) = true ∧ (bindB createB).noScheduler = false ∧ (bindB createB).bindRunning = false
      ∧ (bindB createB).bit .sustat 0 8 = false ∧ (bindB createB).vdState 2 = 0 ∧ (cmd createB).settingsOk = true ∧ (bindB createB).shares 2 + 20 ≤ 256
      ∧ may setB 2 (byteMask [(1, 1), (9, 7)]) (bindB setB) = true ∧ may destroyB 3 (byteMask [(1, 1)]) (queued 0 0 destroyB vdOne) = true
      ∧ (queued 0 0 destroyB vdOne).ctxOpen 1 = false ∧ may sliceB 4 (byteMask [(1, 2), (8, 3), (16, 32)]) (bindB sliceB) = true
      ∧ (bindB sliceB).saveCarve 1 = some carve3 ∧ (bindB sliceB).saveLoad 1 + 1 ≤ 2 ∧ (bindB sliceB).sliceTaken 9 = false ∧ (bindB sliceB).bit .chg 0 1 = false
      ∧ may unsliceB 5 (byteMask [(1, 2), (8, 2)]) (bindB unsliceB) = true ∧ may peerVB 0xA (byteMask [(1, 1), (9, 1), (12, 48)]) (bindB peerVB) = true
      ∧ may (barB 8) 0xB (byteMask [(1, 1), (8, 1), (10, 2)]) (bindB (barB 8)) = true
    ∧ after (.vdCreate 0) (bindB createB) (fun t => t.vdState 2 = 1 && (t.vd 2).slots = 3 && t.reg .vdsave 2 = 0x10000 && t.fld .nvdcfg 2 7 0 = 20 && t.fld .vdcfg 2 19 4 = 50 && okCmd 0 t) = true
    ∧ after (.vdSet 0) (bindB setB) (fun t => t.fld .vdcfg 1 3 3 = 1 && t.fld .vdcfg 1 19 4 = 70 && okCmd 0 t) = true
    ∧ after (.vdDestroy 0) (queued 0 0 destroyB vdOne) (fun t => t.vdState 1 = 0 && (t.vd 1).gen = 1 && (t.spire 0).vdid = 0x3F && okCmd 0 t) = true
    ∧ after (.sliceBind 0) (bindB sliceB) (fun t => (t.spire 5).vdid = 1 && t.fld .cnvdc 1 23 0 = 2 && ((t.vd 1).slices.map (·.num)) = [4, 9] && okCmd 0 t) = true
    ∧ after (.sliceUnbind 0) (bindB unsliceB) (fun t => (t.spire 0).vdid = 0x3F && (t.vd 1).slices = [] && okCmd 0 t) = true
    ∧ after (.sliceUnbind 0) (busy1 unsliceB) (fun t => (t.spire 0).run = .running && ((t.vd 1).slice? 4).map (·.leaving) = some (some (0, 1, false)) && stageOf 0 t = some .started) = true
    ∧ after (.graceExpiry 1 4) ((busy1 []).setVd 1 { (busy1 []).vd 1 with slices := [⟨4, [0], 0, some (0, 1, false)⟩] }) (fun t => (t.spire 0).run = .preempted) = true
    ∧ after (.graceExpiry 1 9) ((busy1 []).setVd 1 { (busy1 []).vd 1 with freezer := some (0, 1) }) (fun t => (t.spire 0).run = .preempted && t.vds = ((busy1 []).setVd 1 { (busy1 []).vd 1 with freezer := some (0, 1) }).vds) = true
    ∧ after (.vdPeer 0) (bindB peerVB) (fun t => (t.vd 1).peers = [(3, 5)] && okCmd 0 t) = true
    ∧ after (.vdBarrier 0) (bindB (barB 8)) (fun t => t.reg .nbar 0 = BitVec.ofNat 64 (1 + 2 + 6 * 128 + 8 * 2 ^ 15) && okCmd 0 t) = true
    ∧ after (.vdBarrier 0) (bar6 (barB 0)) (fun t => t.bit .nbar 0 0 = false && okCmd 0 t) = true := by decide +kernel

def carveB (cf : Nat) : List (Nat × Nat × Nat) := [(0, 1, 6), (1, 1, 1), (3, 1, 2), (8, 1, cf), (11, 1, 4), (16, 8, 0x40), (48, 8, if cf = 0 then 2 else 0)]
def sealB : List (Nat × Nat × Nat) := [(0, 1, 7), (1, 1, 1), (3, 1, 1)]
def evacB : List (Nat × Nat × Nat) := [(0, 1, 8), (1, 1, 1), (8, 1, 0), (9, 1, 3), (10, 1, 40)]
def abortEB : List (Nat × Nat × Nat) := [(0, 1, 9), (1, 1, 1), (8, 1, 0), (9, 1, 3)]
/-- The evacuation of channel 3 to channel 40 that command 1 of queue 0 has started. -/
def evac3 : Evac := ⟨1, .channel 3, false, [3], [40], 2304, ⟨[(0, .copying)]⟩, false, 7, 5⟩
def evacS (l : List (Nat × Nat × Nat)) (e : Evac) : State := { bindB l with evacs := ⟨[(0, e)]⟩ }
def sealable : State := (bindB sealB).setVd 1 { (bindB sealB).vd 1 with carves := ⟨[(0, carve3), (1, { carve3 with extents := [(.segment 2, 4)] })]⟩ }
/-- Segment 1 to segment 9, one chunk of which is copied and the only one. -/
def evacF : Evac := ⟨1, .segment 1, true, [1], [9], 1, ⟨[(0, .done)]⟩, false, 7, 5⟩

theorem witness_CarveOutsAndEvacuation :
    may (carveB 0) 6 (byteMask [(1, 1), (9, 3), (16, 40)] ||| (7 <<< 24) ||| (1 <<< 64)) (bindB (carveB 0)) = true ∧ (bindB (carveB 0)).unitsRefused 1 [6, 257] = 0
      ∧ (bindB (carveB 0)).filling 6 = false ∧ (bindB (carveB 1)).freeKey = some 1 ∧ may sealB 7 (byteMask [(1, 1)] ||| (7 <<< 24)) sealable = true
      ∧ sealable.saveCarve 1 = some carve3 ∧ may evacB 8 (byteMask [(1, 1), (8, 8)]) (bindB evacB) = true ∧ (cmd evacB).evacStray = false
      ∧ (bindB evacB).evacSource 1 0 3 = some (.channel 3, [3]) ∧ (cmd evacB).evacDest [3] = some [40] ∧ (bindB evacB).unitsRefused 1 [40] = 0 ∧ (bindB evacB).freeEvac = some 0
      ∧ (evacS abortEB evac3).turn 0 0 9 = some (qobj 0 (cmd abortEB), cmd abortEB)
    ∧ after (.carveBind 0) (bindB (carveB 0)) (fun t => t.fld .chcfg 6 7 0 = 5 && t.fld .fscfg 1 7 0 = 5 && ((t.vd 1).carves.find? 2).map (fun k => k.extents.length) = some 2 && okCmd 0 t) = true
    ∧ after (.carveBind 0) (bindB (carveB 1)) (fun t => t.filling 6 && t.fld .chcfg 6 23 17 = 1 && (t.sec.keys.find? 1).isSome && stageOf 0 t = some .started) = true
    ∧ after (.carveSeal 0) sealable (fun t => t.bit .fscfg 2 15 && ((t.vd 1).carves.find? 1).map (·.sealed) = some true && okCmd 0 t) = true
    ∧ after (.evac 0) (bindB evacB) (fun t => t.evacs.cells.map (·.1) = [0] && ((t.evacs.find? 0).map (·.total)) = some 2304 && stageOf 0 t = some .started) = true
    ∧ after (.evacAbort 0) (evacS abortEB evac3) (fun t => t.evacs.cells = [] && t.filling 40 && okCmd 0 t) = true
    ∧ after (.evacChunkDone 0 0) { evacS [] evac3 with dev := Memory.zero.write (a3 + 70) 7#8 }
        (fun t => t.dev.read (40 * 2 ^ 32 + 70) = 7 && ((t.evacs.find? 0).map (·.chunks.cells)) = some [(0, .done), (1, .copying)]) = true
    ∧ (let s := (evacS [] evac3).setPort 3 { (evacS [] evac3).port 3 with window := true }
       (evac3.piecesOf 0).all (fun p => ! s.portHeld (portOf p.1) && ! s.portHeld (portOf p.2.1)) = false)
    ∧ after (.evacSwitch 0) (evacS [] evacF) (fun t => ((t.evacs.find? 0).map (·.switched)) = some true && (t.vd 1).relocs = [.segment 1 9] && t.filling 257) = true := by decide +kernel

/-! ## Work, images, translation -/

/-- Work queue 130 of context 0 in virtual device 1 with spire 0 bound and a job open. -/
def work (l : List (Nat × Nat × Nat)) (s : State) : State := queued 130 1 l ((ch3 (fenced s)).setReg .scvd 1 1)
def nopB : List (Nat × Nat × Nat) := [(0, 1, 0)]
def jobB : List (Nat × Nat × Nat) := [(0, 1, 0x11), (32, 8, 77)]
def endB : List (Nat × Nat × Nat) := [(0, 1, 0x12)]
def epochB : List (Nat × Nat × Nat) := [(0, 1, 0x13), (32, 8, 6)]
def dispB : List (Nat × Nat × Nat) := [(0, 1, 0x10), (32, 8, a3 + 128), (40, 8, 0x1234), (56, 4, 3), (60, 4, 5)]
/-- A kernel descriptor: code at channel 3's first byte, 64 bytes, to the scratchpad's address 0x40. -/
def kdescB : List Byte := bytesLE 8 a3 ++ bytesLE 4 64 ++ bytesLE 4 0x40 ++ List.replicate 48 0#8
def disp : State := work dispB { vdOne with dev := (Memory.zero.writeN (a3 + 128) kdescB).write a3 9#8 }
def takes (s : State) (k : Nat) (l : List (Nat × Nat × Nat)) : Bool := (s.acceptCmd 130 (qobj k (cmd l)) (cmd l) none none).1

theorem witness_WorkCommands :
    (work nopB vdOne).turn 130 1 0 = some (qobj 1 (cmd nopB), cmd nopB) ∧ takes (work nopB vdOne) 1 nopB = true
      ∧ (cmd nopB).headerBad = false ∧ (work nopB vdOne).cmdWait (cmd nopB) = some 0 ∧ (work nopB vdOne).vdOfQueue (qobj 1 (cmd nopB)) = 1
      ∧ strayBits (words jobB) (byteMask [(0, 32)] ||| byteMask [(32, 8)]) = false ∧ takes (work jobB vdOne) 1 jobB = true ∧ (work jobB vdOne).meterFull = false
      ∧ takes (work endB vdOne) 1 endB = true ∧ (work endB vdOne).hasJob 1 = true ∧ ((work endB vdOne).acceptedBefore 1 130 1) = []
      ∧ takes (work epochB vdOne) 1 epochB = true ∧ seqAfter 6 0 = true ∧ takes disp 1 dispB = true ∧ strayBits (words dispB) (byteMask [(0, 32)] ||| dispatchMask) = false
      ∧ (kdescOf kdescB).ok = true ∧ disp.rangeIn 1 (a3 + 128) 64 false = true ∧ (disp.readBytes 1 (a3 + 128) 64).1 = kdescB ∧ disp.freeSpires 1 = [0] ∧ disp.mayFill 1 = true
    ∧ after (.workNop 130) (work nopB vdOne) (okCmd 130) = true
    ∧ after (.workNop 130) (queued 130 2 nopB (fenced vdOne)) (okCmd 130) = true
    ∧ after (.jobBegin 130) ((work jobB vdOne).setReg .scvd 1 0) (fun t => okCmd 130 t && t.hasJob 1 && t.reg .scjob 1 = 77 && (t.meter.jobs.map (·.jobid)) = [77]) = true
    ∧ after (.jobEnd 130) (work endB vdOne) (fun t => okCmd 130 t && ! t.hasJob 1) = true
    ∧ after (.queueEpoch 130) (work epochB vdOne) (fun t => okCmd 130 t && ((t.objs.queues.live.find? 130).map (·.epoch)) = some 6) = true
    ∧ after (.dispatch 130) disp (fun t => (t.spire 0).run = .running && (t.spire 0).pc = 0x40 && (t.spire 0).getS 2 = 3 && (t.spire 0).getS 3 = 0x1234 && (t.spire 0).spad.read 0x40 = 9
        && t.dispatches.map (·.next) = [1] && stageOf 130 t = some .started) = true := by decide +kernel

def saveB (n : Nat) : List (Nat × Nat × Nat) := [(0, 1, 0x53), (8, 1, 1), (16, 8, 0x9000), (24, 8, n)]
def restoreB (n : Nat) : List (Nat × Nat × Nat) := [(0, 1, 0x54), (8, 1, 1), (16, 8, 0x9000), (24, 8, n)]
def cold1 (l : List (Nat × Nat × Nat)) : State := queued 0 0 l (vdOne.setVd 1 { vdOne.vd 1 with frozen := true, gen := 6 })
/-- The header of the image of virtual device 1 in generation 6, with no object, no saved kernel and no extent (R352). -/
def image0 : List Byte := [1, 0, 1, 0, 0, 0, 0, 0, 6] ++ List.replicate 55 0
def imageOf3 : List Byte := [1, 0, 1, 0, 0, 0, 0, 0, 6] ++ List.replicate 15 0 ++ [1] ++ List.replicate 39 0

theorem witness_SaveAndRestore :
    (cold1 (saveB 64)).vdActive 1 = true ∧ may (saveB 64) 0x53 (byteMask [(8, 1), (16, 16)]) (cold1 (saveB 64)) = true ∧ (cold1 (saveB 64)).hasLedger 1 = false
      ∧ may (restoreB 64) 0x54 (byteMask [(8, 2), (16, 16)]) (cold1 (restoreB 64)) = true ∧ (cold1 (restoreB 64)).fnExists 0 = true
    ∧ after (.vdSave 0) (cold1 (saveB 64)) (fun t => okCmd 0 t && (t.hostOf 0).readN 0x9000 64 = image0) = true
    ∧ after (.vdSave 0) (cold1 (saveB 63)) (fun t => stageOf 0 t = some (.done (t.failed stOperand kindCommand 64)) && (t.hostOf 0).cells = []) = true
    ∧ after (.vdRestore 0 (.data ([1, 0, 1, 0, 0, 0, 0, 0, 5] ++ List.replicate 55 0))) (cold1 (restoreB 64)) (fun t => okCmd 0 t && (t.vd 1).gen = 7 && (t.vd 1).frozen) = true := by decide +kernel

def want9 : Want := ⟨.barge 3, 19, 0, 0, 0, 0x123, false, none, []⟩
/-- Context 0 translates by the three-level RISC-V table at host address 0x5000. -/
def trS (f : Trans → Trans) : State :=
  let s := fenced vdOne
  let s := s.setObjs { s.objs with ctxs := { s.objs.ctxs with live := ⟨[(0, { ctx0 with root := 0x5001 })]⟩ } }
  s.setTrans (f s.trans)
def walk1 (level : Nat) : Walk := ⟨0, 0, 0, 0x123, level, 0x5000, true, false⟩
def atWalk (level : Nat) (st : Bool) : State := trS (fun t => { t with wants := [want9], walks := ⟨[(2, { walk1 level with stale := st })]⟩ })
def invalB : List (Nat × Nat × Nat) := [(0, 1, 0x56), (8, 4, hCtx), (16, 8, 0x122000), (24, 8, 2)]
def inval1 : Inval := ⟨40, 0, 1, 0, false, 0x122, 2, 0⟩
def invS (w : List Nat) : State := (queued 0 0 invalB (trS (fun t => { t with invals := [inval1], wants := [{ want9 with old := w }] }))).updCmd 0 1 (fun y => { y with stage := .started })
def foundIs (t : State) (f : Option Found) : Bool := t.trans.wants.map (·.found) = [f]

theorem witness_TranslationAndInvalidation :
    (trS (fun t => { t with wants := [want9] })).nextMiss 0 = some (want9, 0) ∧ ((trS id).trans.geometry ((trS id).ctxRoot 0)) = some ⟨[9, 9, 9], none⟩
      ∧ may invalB 0x56 (byteMask [(8, 5), (16, 16)]) (queued 0 0 invalB (trS id)) = true ∧ (queued 0 0 invalB (trS id)).ctxNamed (qobj 0 (cmd invalB)) 0x10000000 = some 0
    ∧ after (.translationWalk 0) (trS (fun t => { t with wants := [want9] })) (fun t => t.trans.walks.cells = [(0, walk1 0)] && t.reg .trwalk 0 = 1) = true
    ∧ after (.walkReadReturn 2 (.data (bytesLE 8 1))) (atWalk 0 true) (fun t => t.trans.walks.cells = [] && foundIs t none) = true
    -- a pointer to the table at page 7; a leaf of page 8 that may be read; a leaf at an upper level; an entry that is not valid
    ∧ after (.walkReadReturn 2 (.data (bytesLE 8 (1 + 7 * 1024)))) (atWalk 0 false) (fun t => t.trans.walks.find? 2 = some { walk1 1 with table := 0x7000 }) = true
    ∧ after (.walkReadReturn 2 (.data (bytesLE 8 (0x53 + 8 * 1024)))) (atWalk 2 false) (fun t => t.trans.walks.cells = [] && foundIs t (some (.page 8))) = true
    ∧ after (.walkReadReturn 2 (.data (bytesLE 8 (0x53 + 8 * 1024)))) (atWalk 1 false) (fun t => foundIs t (some (.bad trSuper))) = true
    ∧ after (.walkReadReturn 2 (.data (bytesLE 8 0))) (atWalk 1 false) (fun t => foundIs t (some (.bad trNotValid))) = true
    ∧ after (.walkReadReturn 2 .busError) (atWalk 0 false) (fun t => foundIs t (some (.bad trWalkErr)) && t.reg .trwerr 0 = 1) = true
    ∧ after (.hostReadTimeout 2) (atWalk 0 false) (fun t => foundIs t (some (.bad trWalkErr)) && t.reg .trwerr 0 = 1) = true
    ∧ after (.inval 0) (queued 0 0 invalB (trS (fun t => { t with leaves := [⟨19, 0, 0, 0x123, 8, true, true⟩, ⟨19, 0, 0, 0x124, 9, true, true⟩] })))
        (fun t => t.trans.leaves.map (·.page) = [0x124] && t.trans.invals.map (fun i => (i.page, i.pages)) = [(0x122, 2)] && stageOf 0 t = some .started) = true
    ∧ after (.invalAbort 0) (invS [40]) (fun t => t.trans.wants.all (fun w => w.old = []) && t.trans.invals.map (·.aborted) = [1]) = true
    ∧ after (.invalComplete 0) (invS [40]) (fun t => t = invS [40]) = true
    ∧ after (.invalComplete 0) (invS []) (fun t => okCmd 0 t && t.trans.invals = []) = true := by decide +kernel

/-! ## Barges -/

def brunB : List (Nat × Nat × Nat) := [(0, 1, 0x20), (32, 8, a3 + 0x1001), (40, 8, a3 + 0x2001), (48, 4, 1)]
def copyQ (l : List (Nat × Nat × Nat)) (s : State) : State := queued 130 2 l ((ch3 (fenced s)).setReg .scvd 1 1)
/-- A descriptor (R378): OP, SPACES, SRC, DST and LEN. -/
def dsc (op sp src dst len red : Nat) : W512 := words [(0, 1, op), (2, 1, red * 8), (3, 1, sp), (8, 8, src), (16, 8, dst), (24, 4, len)]
/-- Channel 7 of the barge engines runs a BRUN of one descriptor `d`. -/
def run7 : BargeRun := ⟨130, 1, 0, 1, BitVec.ofNat 64 (a3 + 0x1001), BitVec.ofNat 64 (a3 + 0x2001), 1, false, 0, 0, [], 0, 0, [], false, false, none⟩
def bargeAt (d : W512) (r : BargeRun) : State :=
  let s := (copyQ brunB vdOne).updCmd 130 1 (fun y => { y with stage := .started })
  ({ s with dev := s.dev.writeN (a3 + 0x1000) (bytesLE 64 d.toNat) }.setSpire 0 { s.spire 0 with spad := Memory.zero.write 0x43 9#8 }).setBarge 7 r
def fetched (d : W512) : Bool := match (bargeAt d run7).dscFetch 7 run7 [] with | (.got raw rest, a) => decide (raw = d ∧ rest = [] ∧ a = bargeAt d run7) | _ => false
def flying (t : State) (p : BDesc → Bool) : Bool := match t.barges.find? 7 with | some r => r.flight.all p && r.flight.length = 1 && r.next = 1 | none => false
def ended7 : BDesc := ⟨0, dsc 0 0 0 0 0 0, [], [], 0, 0, 64, 0, true⟩
def copyD : W512 := dsc 1 0xA 0x40 0x400 8 0
def reduceD : W512 := dsc 2 0xA 0x40 0x400 8 1
def basinD : W512 := dsc 3 0 (a3 + 0x1000) 3 64 0
def badD : W512 := dsc 1 0xA 0x40 (2 ^ 22) 8 0

theorem witness_BargeChannels :
    (copyQ brunB vdOne).turn 130 2 0x20 = some (qobj 2 (cmd brunB), cmd brunB) ∧ takes (copyQ brunB vdOne) 2 brunB = true ∧ (copyQ brunB vdOne).hasJob 1 = true
      ∧ (copyQ brunB vdOne).awaitsChannel 130 (qobj 2 (cmd brunB)) = false ∧ strayBits (words brunB) (byteMask [(0, 32)] ||| brunMask) = false
      ∧ (copyQ brunB vdOne).rangeIn 1 (a3 + 0x1000) 64 false = true ∧ (copyQ brunB vdOne).rangeIn 1 (a3 + 0x2000) 32 true = true
      ∧ fetched copyD = true ∧ fetched reduceD = true ∧ fetched basinD = true ∧ run7.mayStart = true ∧ (bargeAt copyD run7).dscCheck 1 copyD = none
      ∧ (bargeAt reduceD run7).dscCheck 1 reduceD = none ∧ ((bargeAt basinD run7).setReg .chcfg 3 5).dscCheck 1 basinD = none ∧ (bargeAt badD run7).dscCheck 1 badD = some (rsRange, 2 ^ 22)
      ∧ (bargeAt basinD run7).readAt 1 (a3 + 0x1000) = some (a3 + 0x1000)
      ∧ (bargeAt 0 { run7 with flight := [ended7], next := 1 }).rangeCheck 1 (a3 + 0x2000) true = .at (a3 + 0x2000) ∧ { run7 with flight := [ended7], next := 1 }.ended = some ended7
    ∧ after (.brun 130) (copyQ brunB vdOne) (fun t => stageOf 130 t = some .started) = true
    ∧ after (.bargeChannelAssign 130 .busError) { bargeAt (dsc 1 0xA 0x40 0x400 8 0) run7 with barges := .empty }
        (fun t => t.barges.cells.map (fun k => (k.2.queue, k.2.n, k.2.dlist)) = [(130, 1, BitVec.ofNat 64 (a3 + 0x1001))]) = true
    ∧ after (.bargeCopy 7 []) (bargeAt copyD run7)
        (fun t => flying t (fun y => y.status = 0 && y.bytes = 8) && t.net.reqs.map (fun r => (r.target, r.kind)) = [(.spad 0 0x400, .write [0, 0, 0, 9, 0, 0, 0, 0])]) = true
    ∧ after (.bargeReduce 7 []) (bargeAt reduceD run7)
        (fun t => flying t (fun y => y.status = 0) && t.net.reqs.map (fun r => (r.target, match r.kind with | .reduce e => e.elems | _ => [])) = [(.spad 0 0x400, [0x9000000, 0])]) = true
    ∧ after (.bargeBasin 7 []) (bargeAt basinD run7) (fun t => flying t (fun y => y.status = 0) && t.net.appends.map (fun p => (p.basin, p.cmds)) = [(3, [basinD])]) = true
    ∧ after (.bargeNop 7 []) (bargeAt (dsc 0 0 0 0 0 0) run7) (fun t => flying t (fun y => y.status = 0) && t.net.reqs = []) = true
    ∧ after (.bargeCopy 7 []) (bargeAt badD run7) (fun t => flying t (fun y => y.status = rsRange && y.value = 0x400000) && t.net.reqs = []) = true
    ∧ after (.descriptorRecord 7) (bargeAt 0 { run7 with flight := [ended7], next := 1 })
        (fun t => t.dev.readN (a3 + 0x2000) 32 = bytesLE 8 1 ++ bytesLE 8 64 ++ List.replicate 16 0 && stageOf 130 t = some (.done ⟨0, 0, BitVec.ofNat 64 (7 * 2 ^ 32), 0⟩)) = true := by
  decide +kernel

/-- Chapter 15's example descriptor. -/
theorem test_barge_descriptor :
    (let d := dscOf (words [(0, 8, 0x000900050C020201), (8, 8, 0x2500400000), (16, 8, 0x2C00100000), (24, 4, 0x8000)])
     d.op = 1 ∧ d.fin = false ∧ d.crc = true ∧ d.cls = 2 ∧ d.ssp = 0 ∧ d.dsp = 3 ∧ d.grp = 5 ∧ d.node = 9 ∧ d.len = 0x8000 ∧ dscRules d = true)
    ∧ (let d := dscOf (words [(0, 8, 0x000900050C020101), (8, 8, 0x2500000000), (16, 8, 0x2C00000040), (24, 4, 8)])
       d.fin = true ∧ d.crc = false ∧ d.grp = 5 ∧ dscRules d = true) := by decide +kernel

/-! ## Security -/

/-- Virtual device 1 is confidential: carve-out 0 is encrypted channel 3, and it is sealed to a tenant. Session 0 is open. -/
def sess0 : Session := { keyIn := List.replicate 32 7, keyOut := List.replicate 32 8, confirm := List.replicate 32 0, lastIn := 3, nextOut := 6 }
def secS (l : List (Nat × Nat × Nat)) (f : VdState → VdState) : State :=
  let s := bindB l
  let s := (s.setReg .vdcfg 1 5).setReg .chcfg 3 (5 + 2 ^ 17)
  let s := s.setVd 1 (f { s.vd 1 with carves := ⟨[(0, { carve3 with enc := true, key := 1 })]⟩, sessions := ⟨[(0, sess0)]⟩, isSealed := true, ek := some 0 })
  s.setObjs { (fenced s).objs with queues := s.objs.queues, mems := { s.objs.mems with live := ⟨[(0, { mem0 with kind := 1, base := 0x40000, len := 0x2000 })]⟩ } }
/-- Page 0x40 of the record, read or written, is at bus page 0x77. -/
def paged (w : Bool) (s : State) : State := s.setTrans { s.trans with wants := [⟨.ring 0, 80, 0, 0, 0, 0x40, w, some (.page 0x77), []⟩] }
def certB (which : Nat) : List (Nat × Nat × Nat) := [(0, 1, 0x60), (8, 1, which), (16, 8, 0x9000)]
def attB (v : Nat) : List (Nat × Nat × Nat) := [(0, 1, 0x61), (8, 1, v), (16, 8, 0x9000), (24, 32, 0x55)]
def openB : List (Nat × Nat × Nat) := [(0, 1, 0x62), (8, 4, hCtx), (12, 1, 1), (16, 8, 0x9000)]
def closeB : List (Nat × Nat × Nat) := [(0, 1, 0x63), (8, 4, hCtx), (12, 1, 0)]
def inB : List (Nat × Nat × Nat) := [(0, 1, 0x64), (8, 4, hMem), (12, 1, 0), (16, 8, 64), (24, 8, a3 + 128), (32, 4, 64), (40, 8, 5)]
def outB : List (Nat × Nat × Nat) := [(0, 1, 0x65), (8, 4, hMem), (12, 1, 0), (16, 8, 64), (24, 8, a3 + 128), (32, 4, 64)]
def migB : List (Nat × Nat × Nat) := [(0, 1, 0x66), (8, 1, 1), (16, 8, 0x9000), (24, 32, 1)]
theorem witness_ConfidentialComputing :
    State.reset.procState 0 ≠ 2 ∧ State.reset.procState 0 ≠ 3 ∧ may (certB 1) 0x60 (byteMask [(8, 1), (16, 8)]) (secS (certB 1) id) = true
      ∧ may (attB 0x3F) 0x61 (byteMask [(8, 1), (16, 8), (24, 32)]) (secS (attB 0x3F) id) = true ∧ may (attB 1) 0x61 (byteMask [(8, 1), (16, 8), (24, 32)]) (secS (attB 1) id) = true
      ∧ (secS (attB 1) id).vdActive 1 = true ∧ (secS (attB 1) id).granted' 0 1 = true
      ∧ may openB 0x62 (byteMask [(8, 4), (12, 1), (16, 8)]) (secS openB id) = true ∧ (secS openB id).ctxNamed (qobj 0 (cmd openB)) 0x10000000 = some 0 ∧ (secS openB id).vdOfCtx 0 = 1
      ∧ (secS openB id).confidential 1 = true ∧ (secS openB id).sealing 1 = false ∧ may closeB 0x63 (byteMask [(8, 4), (12, 1)]) (secS closeB id) = true
      ∧ may inB 0x64 (byteMask [(8, 4), (12, 1), (16, 16), (32, 4), (40, 8)]) (secS inB id) = true ∧ (secS inB id).objNamed (qobj 0 (cmd inB)) tyMem 0x30000000 = some 0
      ∧ (secS inB id).inEncrypted 1 (a3 + 128) 64 = true ∧ (((paged false (secS inB id)).bouncePages 0 0 0 0x40040 80 false).1.map (·.2)) = some true
      ∧ may outB 0x65 (byteMask [(8, 4), (12, 1), (16, 16), (32, 4)]) (secS outB id) = true ∧ (((paged true (secS outB id)).bouncePages 0 0 0 0x40040 80 true).1.map (·.2)) = some true
      ∧ (secS outB id).rangeIn 1 (a3 + 128) 64 false = true ∧ (secS outB id).cleanPart 1 (a3 + 128) 64 = none
      ∧ may migB 0x66 (byteMask [(8, 1), (16, 8), (24, 32)]) (secS migB id) = true := by decide +kernel

theorem test_certRead : after (.certRead 0) (secS (certB 2) id) (okCmd 0) = true := by decide +kernel

theorem test_attest : after (.attest 0) (secS (attB 0x3F) id) (okCmd 0) = true := by decide +kernel

theorem test_sessionOpen : after (.sessionOpen 0 (.data (List.replicate 1568 1))) (secS openB id) (fun t => ((t.vd 1).sessions.find? 1).isSome) = true := by decide +kernel

theorem test_sessionReopen : after (.sessionOpen 0 (.data (List.replicate 1568 1))) (secS openB (fun x => { x with isSealed := false })) (fun t => (t.vd 1).gen = 1 && t.filling 3) = true := by decide +kernel

theorem test_sessionClose : after (.sessionClose 0) (secS closeB id) (fun t => (t.vd 1).sessions.cells = [] && okCmd 0 t) = true := by decide +kernel

/-- IEEE 1619, vector 10: the first two blocks of its data unit. -/
def xtsKey : List Byte :=
  (bytesLE 32 0x2718281828459045235360287471352662497757247093699959574966967627).reverse ++ (bytesLE 32 0x3141592653589793238462643383279502884197169399375105820974944592).reverse
theorem test_xts :
    xtsEncrypt xtsKey 0xFF ((upFrom 0 32).map (BitVec.ofNat 8)) = (bytesLE 32 0x1C3B3A102F770386E4836C99E370CF9BEA00803F5E482357A4AE12D414A3E63B).reverse := by decide +kernel
theorem test_xts_back : xtsDecrypt xtsKey 0xFF (bytesLE 16 0x1C3B3A102F770386E4836C99E370CF9B).reverse = (upFrom 0 16).map (BitVec.ofNat 8) := by decide +kernel

/-- FIPS 202: SHAKE256 of the empty message. -/
theorem test_shake256 : shake256 [] 8 = [0x46, 0xB9, 0xDD, 0x2B, 0x0B, 0xA8, 0x8D, 0x13] := by decide +kernel

/-- The second AES-256 test case of the GCM specification: a zero key, a zero IV and one zero block. -/
theorem test_gcm : gcmTag (List.replicate 32 0) (List.replicate 12 0) [] [0xCE, 0xA7, 0x40, 0x3D, 0x4D, 0x60, 0x6B, 0x6E, 0x07, 0x4E, 0xC5, 0xD3, 0xBA, 0xF3, 0x9D, 0x18]
    = [0xD0, 0xD1, 0xC8, 0xA7, 0x99, 0x99, 0x6B, 0xF0, 0x26, 0x5B, 0x98, 0xB5, 0xD4, 0x8A, 0xB9, 0x19] := by decide +kernel

theorem reportOk_kind (s : State) (v : Nat) (r auth : List Byte) (h : certKind (partOf r 1856 3200) ≠ 4) : s.reportOk v r auth = false := by
  simp [State.reportOk, h]

/-- A report whose certificate is of no attestation key is refused, whatever its chain. -/
theorem witness_MigrateTarget : (secS migB id).reportOk 1 (List.replicate 6336 0) (bytesLE 32 1) = false :=
  reportOk_kind _ _ _ _ (by decide +kernel)

def chalB : List (Nat × Nat × Nat) := [(0, 1, 0x67), (16, 8, 0x9000)]
def dbgB : List (Nat × Nat × Nat) := [(0, 1, 0x68), (16, 8, 0x9000)]
def advB (st : Nat) : List (Nat × Nat × Nat) := [(0, 1, 0x69), (8, 1, st), (16, 8, 0x9000)]
def ownB : List (Nat × Nat × Nat) := [(0, 1, 0x6A), (16, 8, 0x9000)]
/-- In INTEGRATOR, with the owner's key all zeros and a challenge outstanding. -/
def lcS (l : List (Nat × Nat × Nat)) : State :=
  let s := (queued 0 0 l State.reset).setReg .lcstat 0 2
  s.setSec { s.sec with ownerd := digest (List.replicate 1793 0), challenge := some (List.replicate 32 0) }
/-- The owner's certificate for register reads and for the transitions T2 and T4 in INTEGRATOR (R413, R433). -/
def cert2 (kind : Byte) : List Byte := [1, 0, kind, 2, 4] ++ List.replicate 43 0 ++ [1, 0, 10] ++ List.replicate 3149 0

theorem witness_DebugAndLifeCycle :
    may chalB 0x67 (byteMask [(16, 8)]) (lcS chalB) = true ∧ may dbgB 0x68 (byteMask [(16, 8)]) (lcS dbgB) = true ∧ may (advB 3) 0x69 (byteMask [(8, 1), (16, 8)]) (lcS (advB 3)) = true
      ∧ (cert2 6).length = 3200 ∧ certRights (cert2 6) = 0xA0001 ∧ (lcS []).debugSignerOk (certSigner (cert2 6)) = true ∧ (lcS []).lcState = 2 ∧ nextState 2 3 = true ∧ nextState 2 5 = true
      ∧ (lcS []).advanceSignerOk 2 2 = true ∧ (lcS []).activeVds = [] ∧ (lcS []).powered = true
      ∧ may ownB 0x6A (byteMask [(16, 8)]) ((queued 0 0 ownB State.reset).setReg .lcstat 0 2) = true ∧ (State.reset.ownerless) = true
    ∧ after (.debugChallenge 0) (lcS chalB) (fun t => okCmd 0 t && (t.sec.challenge.map (·.length)) = some 32) = true
    ∧ after (.debugOpen 0 (.data (cert2 5))) (lcS dbgB) (fun t => failed 0 stAuth t && t.reg .scauth 0 = 1 && t.reg .dbgrights 0 = 0) = true
    ∧ after (.ownerSet 0 (.data (List.replicate 1793 0))) ((queued 0 0 ownB State.reset).setReg .lcstat 0 2)
        (fun t => okCmd 0 t && t.sec.ownerd.length = 32) = true := by decide +kernel

/-- All that R433 asks of the certificate but its signature is so. -/
theorem witness_DebugCertificate :
    fieldOf (cert2 6) 0 2 = 1 ∧ certKind (cert2 6) = 6 ∧ certSerial (cert2 6) = 0 ∧ (lcS []).sec.challenge = some (certIssuer (cert2 6)) ∧ (certStates (cert2 6)).testBit 2 = true
    ∧ certRights (cert2 6) &&& rightsMask = certRights (cert2 6) := by decide +kernel

/-! ## Power and the meter -/

def telem (w : Nat) (die : Int) : Telemetry :=
  { inputW := w, railW := List.replicate 7 0, warn := [], railOff := [], die := die, dieTowerN := die, dieTowerS := die, hbm := 40, car := 40, statusWord := 5, vin := 54000, iin := 20000 }
/-- The Litutar image has made PWCAP dynamic (R469). -/
def capS : State := runS.setFw { runS.fw with dyn := [0x1000000] }
def at1000 : State := State.reset.setFld .pwstat 0 10 0 1000
/-- Everything moored, and the module's deep mooring enabled. -/
def allAsleep : State :=
  let s := State.reset.setReg .pwmoor 0 (1 <<< 32)
  let s := { s with spires := ⟨(upFrom 0 256).map (fun n => (n, { Spire.reset n with moored := true }))⟩ }
  let s := { s with basins := ⟨(upFrom 0 256).map (fun n => (n, { s.basin n with moored := true }))⟩ }
  { s with ports := ⟨(upFrom 0 264).map (fun n => (n, { s.port n with moored := true }))⟩ }

theorem witness_PowerManagement :
    State.reset.procState 1 < 2 ∧ at1000.fld .pwstat 0 10 0 = 1000 ∧ at1000.fld .pwcap 0 11 0 = 2000 ∧ (at1000.fld .thlim 0 7 0 : Int) ≤ 100 ∧ runS.running = true
      ∧ capS.dynamic 0x1000000 .pwcap = true ∧ allAsleep.bit .pwmoor 0 32 = true ∧ allAsleep.allMoored = true ∧ State.reset.meterUp = true
    ∧ after (.powerControlTick (telem 1900 60) bringUp) (at1000.setFld .pwstat 0 10 0 1750) (fun t => t.power.vin = 54000 && t.fld .pwstat 0 28 13 = 1900 && t.fld .pwstat 0 10 0 = 1750) = true
    ∧ after (.droopStretch 1 3) State.reset (fun t => t.power.stretch = [false, true] && t.reg .pwdroop 0 = 3) = true
    ∧ after (.droopRecover 1) (State.reset.setPower { State.reset.power with stretch := [true, true] }) (fun t => t.power.stretch = [true, false]) = true
    ∧ after (.hintExpiry 4) { State.reset with hints := State.reset.hints.set 4 (1, 1) } (fun t => t.hints.find? 4 = none) = true
    ∧ after .moduleMoor allAsleep (fun t => t.power.moored) = true
    ∧ after (.moduleWake .timer) (State.reset.setPower { State.reset.power with moored := true }) (fun t => ! t.power.moored) = true
    ∧ after (.meterCalibrationWrite 2 9) (State.reset.setReg .lcstat 0 1) (fun t => t.reg .mtrcal 2 = 9 && t.sec.cal = [0, 0, 9, 0, 0, 0, 0]) = true
    ∧ after (.meterCalibrationWrite 2 9) (State.reset.setReg .lcstat 0 3) (fun t => t.reg .mtrcal 2 = 0) = true := by decide +kernel

/-- What PMBus shows of a value is open; these reads answer while the module does not run with nothing, and MFR_POWER_CAP takes a cap while it runs. -/
theorem test_pmbus :
    after .statusWord State.reset (fun t => t.shown = []) = true ∧ after .readEin State.reset (fun t => t.shown = []) = true ∧ after .readVin State.reset (fun t => t.shown = []) = true
    ∧ after .readIin State.reset (fun t => t.shown = []) = true ∧ after .readPin State.reset (fun t => t.shown = []) = true ∧ after .readTemperature1 State.reset (fun t => t.shown = []) = true
    ∧ after .readTemperature2 State.reset (fun t => t.shown = []) = true ∧ after .readTemperature3 State.reset (fun t => t.shown = []) = true
    ∧ after (.mfrPowerCap (some 700)) capS (fun t => t.fld .pwcap 0 11 0 = 700 && t.shown = [0]) = true ∧ after (.mfrPowerCap (some 500)) capS (fun t => t.fld .pwcap 0 11 0 = 2000) = true
    ∧ after (.meterInspectRead 0 4) (life .off State.reset) (fun t => t.shown = []) = true := by decide +kernel

theorem test_unchanged : after .sensorCalibration runS (fun t => t = runS) = true ∧ after .wearLevelling runS (fun t => t = runS) = true := by decide +kernel

def job (vd : Nat) : Job :=
  { vd := vd, ctx := 0, fn := 0, jobid := 5, gen := 0, tBegin := some 0, tEnd := 0, core := 0, mem := 0, io := 0, ovh := 0, gap := false, sat := false, closed := none, lastRec := 0 }
def metering (js : List Job) (ring : List MRec) : State := State.reset.setMeter { State.reset.meter with jobs := js, ring := ring }
/-- Chapter 18's interval, with group energies of 400,000, 200,000, 360,000 and 120,000 µJ and 30,000 µJ of VBELL; cycles, MB and MB of payload. -/
def interval : MeterReading :=
  { railUJ := [400000, 200000, 360000, 0, 120000, 0, 30000], inputUJ := 1110000, silent := List.replicate 7 false,
    activity := [(0, 3, 150000000), (0, 7, 50000000), (1, 7, 10), (2, 3, 6000), (2, 7, 3000), (2, 63, 100), (3, 3, 1200), (3, 7, 400)] }

/-- R454 and the interval worked in chapter 18: VD 3 is charged 627,362 µJ and 19,797 µJ of overhead, VD 7 448,681 and 14,159; one microjoule is carried. -/
theorem test_meter_interval :
    after (.meterInterval interval) (metering [job 3, job 7] [])
      (fun t => t.meter.jobs.map (fun j => (j.core, j.mem, j.io, j.ovh)) = [(300000, 237362, 90000, 19797), (300000, 118681, 30000, 14159)] && t.meter.carry = 1
        && t.reg .mtrmod 0 = 1110000) = true := by decide +kernel

def rec9 (sig : Option (List Byte)) : MRec := ⟨9, List.replicate 128 3, sig⟩
def readB : List (Nat × Nat × Nat) := [(0, 1, 0x70), (8, 8, 9), (16, 8, 0x9000)]
def ackB : List (Nat × Nat × Nat) := [(0, 1, 0x71), (8, 8, 4)]
def mtr (l : List (Nat × Nat × Nat)) : State := queued 0 0 l (metering [] [rec9 (some (List.replicate 4 6))])

theorem witness_EnergyMeter :
    (metering [job 3] []).meterFull = false ∧ (metering [job 3] []).lcState ≠ 5 ∧ may readB 0x70 (byteMask [(8, 16)]) (mtr readB) = true
      ∧ may ackB 0x71 (byteMask [(8, 8)]) ((mtr ackB).setReg .mtrseq 0 10) = true ∧ seqAfter 4 0 = true ∧ seqAfter 4 9 = false
    ∧ after (.meterInterval interval) State.reset (fun t => t.reg .mtridle 0 = 1110000 && t.meter.jobs = []) = true
    ∧ after (.meterInterval { interval with activity := [(0, 3, 5), (1, 3, 5), (2, 3, 5), (3, 3, 5)] }) (metering [job 3] [])
        (fun t => t.meter.jobs.map (fun j => (j.core, j.mem, j.io, j.ovh)) = [(600000, 360000, 120000, 30000)]) = true
    ∧ after (.meterInterim 3) ((metering [job 3] []).setReg .lcstat 0 3) (fun t => t.meter.ring.map (fun r => (r.seq, r.body.length)) = [(State.reset.reg .mtrseq 0, 128)]
        && t.reg .mtrseq 0 = State.reset.reg .mtrseq 0 + 1) = true
    ∧ after .meterSign (metering [] [rec9 none]) (fun t => t.meter.ring.map (fun r => r.sig.isSome) = [true]) = true
    ∧ after .meterSign (metering [] [rec9 (some [])]) (fun t => t = metering [] [rec9 (some [])]) = true
    ∧ after (.meterRead 0) (mtr readB) (fun t => okCmd 0 t && (t.hostOf 0).readN 0x907F 6 = [3, 6, 6, 6, 6, 0]) = true
    ∧ after (.meterAck 0) ((mtr ackB).setReg .mtrseq 0 10) (fun t => okCmd 0 t && t.reg .mtrack 0 = 4 && t.fld .mtrstat 0 12 0 = 5) = true := by decide +kernel

/-! ## Firmware and connectors -/

/-- A request of 64 bytes in the ring of port N: ID 5, OP, body. -/
def fwReq (op : Nat) (body : List Byte) : List Byte := bytesLE 8 5 ++ bytesLE 1 op ++ List.replicate 7 0 ++ body ++ List.replicate (48 - body.length) 0
def fwS (req : List Byte) : State :=
  let s := State.reset.setFw { State.reset.fw with reqProd := [1, 0], rings := ⟨[(0, Memory.zero.writeN 0 req)]⟩ }
  s.setFld .fwproc 0 1 0 1
/-- What stands in the response ring of port N. -/
def fwAns (t : State) (req : List Byte) (st : Nat) (v : Nat) : Bool :=
  t.fw.rspProd = [1, 0] && t.fw.reqCons = [1, 0]
    && decide ((t.fw.rings.get .zero 0).readN 0x4000 64 = req.take 8 ++ bytesLE 1 st ++ List.replicate 7 0 ++ bytesLE 8 v ++ List.replicate 40 0)
def fwGoes (op n : Nat) (body : List Byte) : Bool :=
  let r := fwReq op body
  (fwS r).fwRequest 0 = some r && fieldOf r 8 1 = op && (fwS r).fwRoom 0 && ! fwStray r n

theorem witness_FirmwareRequests :
    fwGoes 1 8 (bytesLE 8 0x9000) = true ∧ fwGoes 9 8 [] = true ∧ fwGoes 2 16 (bytesLE 4 (slotBase 1) ++ bytesLE 4 4096 ++ bytesLE 8 0x9000) = true
      ∧ (fwS []).flashOpen (slotBase 1) 4096 = true ∧ slotBase 1 % 4096 = 0 ∧ fwGoes 3 1 [1] = true ∧ (fwS []).slotCheck 1 ≠ 0 ∧ fwGoes 6 2 [0xFF, 2] = true ∧ fwGoes 5 1 [17] = true
      ∧ fwGoes 4 0 [] = true ∧ (fwS []).procState 0 = 1
    ∧ after (.fwInfo 0) ((fwS (fwReq 1 (bytesLE 8 0x9000))).setFw { (fwS (fwReq 1 (bytesLE 8 0x9000))).fw with slotSeq := 7 })
        (fun t => fwAns t (fwReq 1 []) 0 7 && (t.hostOf 0).read 0x9000 = 7) = true
    ∧ after (.fwInfo 0) (fwS (fwReq 9 [])) (fun t => fwAns t (fwReq 9 []) stReserved 0) = true
    ∧ after (.flashActivate 0) (fwS (fwReq 3 [1])) (fun t => fwAns t (fwReq 3 []) stAuth 0 && t.fw.flash = Memory.zero) = true
    ∧ after (.logLevel 0) (fwS (fwReq 6 [17, 4])) (fun t => fwAns t (fwReq 6 []) stOperand 0) = true
    ∧ after (.procRestart 0) (fwS (fwReq 5 [17])) (fun t => fwAns t (fwReq 5 []) 0 0 && t.procState 17 = 2 && t.reg .fwrest 17 = 1) = true
    ∧ after (.fwUpdate 0) (fwS (fwReq 4 [])) (fun t => t.fw.rspProd = [1, 0] && t.reg .fwslot 0 = State.reset.reg .fwslot 0) = true := by decide +kernel

theorem test_flashWrite : after (.flashWrite 0 (.data []) true) (fwS (fwReq 2 (bytesLE 4 (slotBase 1)))) (fun t => fwAns t (fwReq 2 []) 0 0) = true
    ∧ after (.flashWrite 0 (.data []) true) (fwS (fwReq 2 (bytesLE 4 (slotBase 0)))) (fun t => fwAns t (fwReq 2 []) stOperand 0) = true := by decide +kernel

def procS (n st : Nat) (past : List W64) : State :=
  let s := State.reset.setFld .fwproc n 1 0 st
  s.setFw { s.fw with expiries := ⟨[(n, past)]⟩ }
def flashS : State := State.reset.setPower { State.reset.power with flToJ12 := true }
/-- A device that no debug right opens. -/
def mute : State := State.reset.setReg .lcstat 0 2
/-- In MAKER the TAP has every right. -/
def tapS (x : Spire) : State := (on x).setReg .lcstat 0 1

theorem witness_ProcessorsAndConnectors :
    (procS 17 2 []).procState 17 = 2 ∧ flashS.flashAtJ12 = true ∧ State.reset.flashAtJ12 = false ∧ (tapS sp0).tapRight 4 = true ∧ (tapS sp0).confidential 1 = false
      ∧ (tapS sp0).tapRight 5 = true ∧ (tapS sp0).tapMemory a3 8 = true ∧ mute.tapRight 5 = false
    ∧ after (.watchdogWrite 17) (procS 17 1 []) (fun t => t = procS 17 1 []) = true
    ∧ after (.restartAlone 17) (procS 17 3 []) (fun t => t = procS 17 3 []) = true
    ∧ after (.watchdogExpiry 17) (procS 17 1 []) (fun t => t.procState 17 = 2 && t.reg .fwrest 17 = 1) = true
    ∧ after (.watchdogExpiry 1) (procS 1 1 [0, 0]) (fun t => t.procState 1 = 3 && t.fld .pwstat 0 10 0 = 700) = true
    ∧ after (.flashProgrammerAccess (.write 5 [6, 7])) flashS (fun t => t.fw.flash.readN 4 4 = [0, 6, 7, 0]) = true
    ∧ after (.flashProgrammerAccess (.read 5 2)) (flashS.setFw { flashS.fw with flash := Memory.zero.writeN 5 [6, 7] }) (fun t => t.shown = [6, 7]) = true
    ∧ after (.flashProgrammerAccess (.read 5 2)) State.reset (fun t => t.shown = []) = true
    ∧ after (.debugTapAccess (.halt 0)) (tapS sp0) (fun t => (t.spire 0).run = .debug) = true
    ∧ after (.debugTapAccess (.resume 0)) (tapS { sp0 with run := .debug }) (fun t => (t.spire 0).run = .running) = true
    ∧ after (.debugTapAccess (.readReg 0 3)) (tapS { sp0 with regs := ⟨[(3, 9)]⟩ }) (fun t => t.shown = bytesLE 8 9) = true
    ∧ after (.debugTapAccess (.readMem a3 2)) { tapS sp0 with dev := Memory.zero.write a3 4#8 } (fun t => t.shown = [4, 0]) = true
    ∧ after (.debugTapAccess (.readMem a3 2)) { mute with dev := Memory.zero.write a3 4#8 } (fun t => t.shown = []) = true
    ∧ after (.debugTapAccess (.writeMem a3 [1])) mute (fun t => t.dev = Memory.zero) = true := by decide +kernel

/-! ## Words, the queue, the clock -/

/-- Chapter 4's fused expression. -/
def vslot0 : W128 := 0x00000000000000000000358B57CD07060#128
def vslot1 : W128 := 0x0000000000008030E0A181AA020211FF#128

theorem test_vexpr_words :
    (match decodeSpire 3 vslot0 vslot1 with
      | some (.vexpr sp f) => sp = 3 && f.ext = 0xFF && decide (encodeSpire (.vexpr sp f) = some (vslot0, vslot1))
      | _ => false) = true := by decide +kernel

theorem witness_InstructionWordsRoundTrip :
    (Instr.add 3 fab).onSpire = some 3 ∧ (encodeSpire (.add 3 fab)).isSome = true
    ∧ (match encodeSpire (.add 3 fab) with | some w => decodeSpire 3 w.1 w.2 = some (.add 3 fab) | none => false) = true := by decide +kernel

theorem test_guardedOff :
    sp0.issuing = true ∧ sp0.fetchFault 16 = false ∧ sp0.fetchFault 32 = false ∧ anyPoison sp0.poison sp0.pc 32 = false ∧ sp0.guard 2 0 = false ∧ sp0.guard 0 1 = false
    ∧ then0 (.add 0 { fab with gp := 2 }) { sp0 with regs := (regs3 5 6 7).regs } (fun x => x.getS 4 = 0 && x.pc = 16) = true
    ∧ then0 (.eok 0 { f0 with gp := 2 }) sp0 (fun x => x.run = .running && x.pc = 16) = true := by decide +kernel

def idle3 : State := { State.reset with pending := [.commandRetire ⟨1, false⟩, .workNop 3] }

theorem witness_StepRunsTheFrontCommand :
    idle3.pending = .commandRetire ⟨1, false⟩ :: [.workNop 3] ∧ (match step idle3 with | .next t => t.pending = [.workNop 3] | _ => false) = true := by decide +kernel

theorem witness_IdleClock :
    (match step State.reset with | .next t => t.reg .btime = 1 && t.pending = [] | _ => false) = true
    ∧ (match step (life .off State.reset) with | .next t => t = life .off State.reset | _ => false) = true := by decide +kernel

/-- A certificate-free transition of the fuses cannot be commanded at reset; the invariant holds there. -/
theorem witness_MemoriesStayCanonical :
    State.reset.dev.wf = true ∧ State.reset.devPoison.wf = true ∧ (Memory.zero.write 5 1#8).wf = true ∧ ((Memory.zero.write 5 1#8).write 5 0#8) = Memory.zero := by decide +kernel

theorem witness_FusesStayBlown :
    (match step { State.reset with pending := [.droopRecover 1], sec := { Sec.reset with fuses := 7, svn := 2 } } with
      | .next t => t.sec.fuses = 7 && t.sec.svn = 2 | _ => false) = true := by decide +kernel

/-- R335 and chapter 13's example: handle 0x400C1234 is a fence of generation 3 in slot 0x1234. -/
theorem test_handle : handleType 0x400C1234 = tyFence ∧ handleGen 0x400C1234 = 3 ∧ handleIndex 0x400C1234 = 0x1234 ∧ handleOf tyFence 3 0x1234 = 0x400C1234 := by decide +kernel

/-- R345 and chapter 13's example: a poisoned line of module 0x0C05 gives the error status 0x0C05_0D05. -/
theorem test_errStatus : (State.reset.setReg .cnnode 0 0x0C05).errStatus kindFault 0x0D = 0x0C050D05 := by decide +kernel

/-- R360: chapter 14's descriptor of four levels of 9 bits keeps the rules of its table. -/
theorem test_pdesc : parOk 0x741804004CCCC = true ∧ parWidths 0x741804004CCCC = [9, 9, 9, 9] := by decide +kernel

/-- R169, R171: chapter 6's decoded address: window slot 3 over channels 40 to 47. -/
theorem test_window : ((State.reset.setReg .iset 3 (1 + 2 + 16)).setReg .isetm 3 0xFF00).rangeCheck 1 0x106000012345 false = .at 0x2C00002345 := by decide +kernel

/-- R430: the states that fuses show, and the transitions that they resume. -/
theorem test_fuses :
    decodeFuses 0 = (1, 0) ∧ decodeFuses 0x7 = (2, 2) ∧ decodeFuses 0x3F = (4, 0) ∧ decodeFuses 0x40 = (5, 4) ∧ decodeFuses 0xC3 = (5, 0) ∧ (decodeFuses 0x0C).2 = 4
    ∧ logicalFuses (blowFuse 0 3) = 8 ∧ logicalFuses 1 = 0 ∧ mendFuses 3 = 7 := by decide +kernel

end Sys2Proof.Tests
end

section
/-! SUPPORT. An instruction whose guard is false, and the one place where the model lets it have an effect: TDW ends the holds of the readers of
its register (R35, log 25) before its guard is looked at. -/

open Sys2Proof Sys2Proof.Machine Sys2Proof.Claims

namespace Sys2Proof.GuardedOff

/-! ## What a guard that is false does -/

/-- R92, R93: an instruction that may issue and whose guard is false only moves on. -/
theorem issue_guardedOff (s : State) (n size : Nat) (gp : BitVec 3) (gn : BitVec 1) (stall : Spire → Bool) (body : Spire → State) (q : Nat)
    (hi : (s.spire n).issuing = true) (hf : (s.spire n).fetchFault size = false)
    (hp : anyPoison (s.spire n).poison (s.spire n).pc size = false) (hg : (s.spire n).guard gp gn = false) :
    issue s n size false gp gn stall body q = .next ((s.advance n (s.spire n) size).stepped n) := by
  simp [issue, hi, hf, hp, hg]

/-- While RLCFG.OVFEV is 0, an instruction that retires takes no free value. -/
theorem ctr_of_retires {s t : State} {n size : Nat} {x : Spire} (h : Retires s t n x size) (hq : s.bit .rlcfg 0 0 = false) : t.ctr = s.ctr := by
  obtain ⟨-, -, -, quiet⟩ := h
  rw [quiet hq]

theorem ctr_stepped (s : State) (n : Nat) : (s.stepped n).ctr = s.ctr := by
  obtain ⟨t, e⟩ := s.stepped_eq n
  rw [e]

theorem ctr_advance_quiet (s : State) (n : Nat) (x : Spire) (size : Nat) (hq : s.bit .rlcfg 0 0 = false) : (s.advance n x size).ctr = s.ctr := by
  obtain ⟨t, e⟩ := s.advance_quiet n x size hq
  rw [e]

/-! ## What the end of a hold does (R35) -/

/-- The scratchpad of a tile instruction that no write has met, while no other in flight writes it, is the one of its start. -/
theorem tileView_unmet (s : State) (n : Nat) (e : QEntry) (hm : e.met = []) (hf : (s.spire n).inFlight e.seq = []) :
    s.tileView n e = (e.snap, s) := by
  simp [State.tileView, State.looseSpad, hm, hf]

/-- Asking whether such an instruction's reads are done takes one free value; of the rest, only the queues of its spire may change. -/
theorem endReads_unmet (s : State) (n : Nat) (e : QEntry) (hm : e.met = []) (hf : (s.spire n).inFlight e.seq = []) :
    (s.endReads n e).ctr = s.ctr + 1 ∧ (s.endReads n e).regs = s.regs
      ∧ ∃ m v t, (s.endReads n e).spire n = { s.spire n with mq := m, vq := v, tq := t } := by
  have hview : s.free.2.tileView n e = (e.snap, s.free.2) := tileView_unmet s.free.2 n e hm hf
  unfold State.endReads
  dsimp only
  rw [hview]
  split
  · exact ⟨rfl, rfl, _, _, _, rfl⟩
  · exact ⟨rfl, rfl, _, _, _, State.spire_setSpire_same ..⟩

/-- A guarded-off TDW moves on from the state in which the holds of its register's readers have been ended. -/
theorem execTdw_guardedOff (sp : Sp) (f : FmtS) (s u : State)
    (hu : u = s.endHolds sp.val (fun e => e.op.names (f.aux.extractLsb' 0 4).toNat && ! e.op.writes.contains (f.aux.extractLsb' 0 4).toNat))
    (hq : ∃ m v t, u.spire sp.val = { s.spire sp.val with mq := m, vq := v, tq := t })
    (hi : (s.spire sp.val).issuing = true) (hf : (s.spire sp.val).fetchFault 16 = false)
    (hp : anyPoison (s.spire sp.val).poison (s.spire sp.val).pc 16 = false)
    (hl : (illegalS { rs1 := true, aux := 0x3F } f || f.aux.extractLsb' 4 2 = 3) = false)
    (hg : (s.spire sp.val).guard f.gp f.gn = false) :
    exec (.tdw sp f) s = .next ((u.advance sp.val (u.spire sp.val) 16).stepped sp.val) := by
  obtain ⟨m, v, t, hx⟩ := hq
  change execTdw sp f s = _
  simp only [execTdw, hi, if_true, hl, ← hu]
  exact issue_guardedOff u sp.val 16 f.gp f.gn _ _ 0 (by rw [hx]; exact hi) (by rw [hx]; exact hf) (by rw [hx]; exact hp) (by rw [hx]; exact hg)

/-! ## The counterexample: TDW t0 behind an MMA that reads t0 -/

/-- INT8 panels of one K-step at 0x2000 and 0x3000 of the scratchpad (R41). -/
def panelA : TDesc := ⟨0x9000000000002000#64, 0x0000010000200001#64, 0x2000#64⟩
def panelB : TDesc := ⟨0x9000000000003000#64, 0x0000010000200001#64, 0x2000#64⟩

/-- MMA of t0 and t1 into a0, from zero, K = 1. -/
def mmaT0T1 : FmtM := { gp := 0, gn := 0, acc := 0, init := 1, ta := 0, tb := 1, tp := 0, ks := 0, ki := 1, frame := 0, rsv := 0 }

/-- Spire 0 with a kernel at the start of its code, and the panels in t0 and t1. -/
def kernelStart : Spire :=
  { Spire.reset 0 with run := .running, kernel := some { queue := 0, cseq := 0, ctx := 0, inst := 0, epoch := 0, code := 0 }, codeLen := 0x1000, vdid := 1,
                       tds := ⟨[(0, panelA), (1, panelB)]⟩ }

/-- The MMA at PC 0, entered into MQ and started. -/
def startedMma : QEntry := (kernelStart.entry (.mma mmaT0T1) [panelA, panelB] [1]).begin kernelStart

/-- The spire at its second instruction, with the MMA in flight. -/
def readerInFlight : State := State.reset.setSpire 0 { kernelStart with pc := 16, seq := 1, mq := [startedMma], a0 := { Accum.reset with cls := .wide, frame := 56 } }

/-- TDW of word d0 of t0, guarded by p1. -/
def tdwT0IfP1 : FmtS := { gp := 1, gn := 0, rd := 0, rs1 := 2, rs2 := 0, rs3 := 0, rm := 0, pd := 0, sz := 0, im := 0, x := 0, aux := 0, rsv := 0, imm := 0 }

/-- The TDW may issue, its encoding is legal, and its guard, p1, is false. -/
theorem tdwT0IfP1_isOff :
    (readerInFlight.spire 0).issuing = true ∧ (readerInFlight.spire 0).fetchFault 16 = false
      ∧ anyPoison (readerInFlight.spire 0).poison (readerInFlight.spire 0).pc 16 = false
      ∧ (illegalS { rs1 := true, aux := 0x3F } tdwT0IfP1 || tdwT0IfP1.aux.extractLsb' 4 2 = 3) = false
      ∧ (readerInFlight.spire 0).guard tdwT0IfP1.gp tdwT0IfP1.gn = false := by
  decide

/-- The MMA reads t0 and its hold on it may end. -/
theorem endHolds_readerInFlight :
    readerInFlight.endHolds 0 (fun e => e.op.names (tdwT0IfP1.aux.extractLsb' 0 4).toNat && ! e.op.writes.contains (tdwT0IfP1.aux.extractLsb' 0 4).toNat)
      = readerInFlight.endReads 0 startedMma := by
  rfl

/-- The guarded-off TDW takes a free value: whether the reads of the MMA are done. -/
theorem exec_tdwT0IfP1 : ∃ t, exec (.tdw 0 tdwT0IfP1) readerInFlight = .next t ∧ t.ctr = readerInFlight.ctr + 1 := by
  obtain ⟨hctr, hregs, hqueues⟩ := endReads_unmet readerInFlight 0 startedMma rfl rfl
  obtain ⟨hi, hf, hp, hl, hg⟩ := tdwT0IfP1_isOff
  have quiet : (readerInFlight.endReads 0 startedMma).bit .rlcfg 0 0 = false := by
    simp only [State.bit, State.reg, hregs]
    decide
  refine ⟨_, execTdw_guardedOff 0 tdwT0IfP1 readerInFlight _ endHolds_readerInFlight.symm hqueues hi hf hp hl hg, ?_⟩
  rw [ctr_stepped, ctr_advance_quiet _ _ _ _ quiet]
  exact hctr

/-- R26: not every instruction whose guard is false retires with no effect, and this one raises no ILLEGAL either. -/
theorem not_guardedOff : ¬ Claims.GuardedOff := by
  intro h
  obtain ⟨hi, hf, hp, -, hg⟩ := tdwT0IfP1_isOff
  obtain ⟨allInstrs, -⟩ := h readerInFlight 0 hi
  obtain ⟨t, ht, taken⟩ := exec_tdwT0IfP1
  have untaken : t.ctr = readerInFlight.ctr := by
    rcases allInstrs (.tdw 0 tdwT0IfP1) _ _ rfl rfl ⟨hf, hp, hg⟩ with ⟨u, hu, retires⟩ | ⟨q, illegal⟩
    · obtain rfl : t = u := Host.Outcome.next.inj (ht.symm.trans hu)
      exact ctr_of_retires retires (by decide)
    · obtain rfl := Host.Outcome.next.inj (ht.symm.trans illegal)
      rw [ctr_stepped, State.ctr_setSpire]
  omega

end Sys2Proof.GuardedOff

/-- Refutes O4: TDW ends the holds of started readers (R35, log 25) before its guard is looked at, and so does APUT. In `readerInFlight` a TDW of t0
whose guard p1 is false asks of the MMA in flight whether its reads of t0 are done: that takes a free value, and where the value says yes the MMA works
from what it has read so far. -/
theorem not_registersAndGuards : ¬ Obligations.RegistersAndGuards :=
  fun ⟨_, guards⟩ => GuardedOff.not_guardedOff guards
end

section
/-! SUPPORT. The integer instructions (R98, R100): what an instruction that retires leaves unchanged, the operations on words, and the
19 rows assembled from them. -/

open Sys2Proof Sys2Proof.Machine Sys2Proof.Claims

namespace Sys2Proof.Integers

/-! ## What retiring leaves (R91) -/

/-- An instruction whose own work is to make its spire `x` retires as `x`. -/
theorem retires_stepped_advance (s : State) (n : Nat) (x : Spire) (size : Nat) : Retires s ((s.advance n x size).stepped n) n x size := by
  obtain ⟨⟨t, c, r, h, l, m, hall⟩, ⟨v, hspire⟩, hothers⟩ := s.advance_eq n x size
  obtain ⟨u, hstepped⟩ := (s.advance n x size).stepped_eq n
  refine ⟨⟨v, ?_⟩, fun j hj => ?_, ?_, fun quiet => ?_⟩
  · rw [State.stepped_spire, hspire]
  · rw [State.stepped_spire_ne _ hj, hothers j hj]
  · rw [hstepped, hall]
    rfl
  · obtain ⟨w, hquiet⟩ := s.advance_quiet n x size quiet
    rw [hstepped, hquiet]

/-- R93, R99: rd ← g s1 op2 of an instruction that may issue runs: it moves on with that value in rd. -/
theorem alu_runs (s : State) (sp : Sp) (f : FmtS) (g : W64 → W64 → W64) (ready : Ready (s.spire sp.val) 16 f.gp f.gn)
    (legal : illegalS usesAlu f = false) (free : stallS usesAlu f (s.spire sp.val) = false) (unheld : (s.spire sp.val).vexprHolds f.rd = false) :
    alu s sp f g
      = .next ((s.advance sp.val ((s.spire sp.val).setS f.rd (g ((s.spire sp.val).getS f.rs1) ((s.spire sp.val).op2 f)))).stepped sp.val) := by
  obtain ⟨issuing, fetched, sound, guarded⟩ := ready
  unfold alu issueS
  exact issue_runs s sp.val 16 _ f.gp f.gn _ _ 0 issuing fetched sound guarded (by simp [legal]) (by simp [free, unheld])

/-! ## The operations on words (R100) -/

/-- Only bits 5:0 of a shift amount count. -/
theorem shamt_eq_mod (b : W64) : shamt b = b.toNat % 64 := by
  simp [shamt, W64.get, bitsOf]

/-- A product wraps modulo 2⁶⁴. -/
theorem mul_eq_ofNat (a b : W64) : a * b = BitVec.ofNat 64 (a.toNat * b.toNat) := by
  simp [BitVec.ofNat_mul]

/-- The quotient of a zero divisor, in DIV's words and in DIVU's. -/
theorem allOnes_eq_neg_one : BitVec.allOnes 64 = BitVec.ofInt 64 (-1) := by decide

/-! ## The rows of R98 -/

theorem alu_congr {s : State} {sp : Sp} {f : FmtS} {g h : W64 → W64 → W64} (same : ∀ a b, g a b = h a b) : alu s sp f g = alu s sp f h := by
  rw [funext fun a => funext (same a)]

/-- Each integer instruction is rd ← s1 op op2 with the operation of its row. -/
theorem exec_integerRow (s : State) (sp : Sp) (f : FmtS) : ∀ row ∈ integerRows, exec (row.1 sp f) s = alu s sp f row.2 := by
  simp only [integerRows, List.forall_mem_cons]
  exact
    ⟨(rfl : execAdd sp f s = _), (rfl : execSub sp f s = _), (rfl : execAnd sp f s = _), (rfl : execOr sp f s = _), (rfl : execXor sp f s = _),
     (alu_congr fun _ _ => by rw [shamt_eq_mod] : execSll sp f s = _),
     (alu_congr fun _ _ => by rw [shamt_eq_mod] : execSrl sp f s = _),
     (alu_congr fun _ _ => by rw [shamt_eq_mod] : execSra sp f s = _),
     (alu_congr fun _ _ => by simp only [BitVec.slt_iff_toInt_lt] : execMin sp f s = _),
     (alu_congr fun _ _ => by simp only [BitVec.slt_iff_toInt_lt] : execMax sp f s = _),
     (alu_congr fun _ _ => by simp only [BitVec.ult_iff_lt, BitVec.lt_def] : execMinu sp f s = _),
     (alu_congr fun _ _ => by simp only [BitVec.ult_iff_lt, BitVec.lt_def] : execMaxu sp f s = _),
     (alu_congr mul_eq_ofNat : execMul sp f s = _),
     (rfl : execMulh sp f s = _), (rfl : execMulhu sp f s = _),
     (alu_congr fun _ _ => by rw [allOnes_eq_neg_one] : execDiv sp f s = _),
     (alu_congr fun _ _ => by rw [allOnes_eq_neg_one] : execDivu sp f s = _),
     (alu_congr fun _ _ => by rw [Int.tmod_def] : execRem sp f s = _),
     (rfl : execRemu sp f s = _), List.forall_mem_nil _⟩

end Sys2Proof.Integers

/-- Settles O5: each row of R98 is `alu` with its operation, and `alu` retires with its value in rd (R91, R100). -/
theorem integerInstructions : Obligations.IntegerInstructions := by
  intro s sp f row hrow ready legal free unheld
  rw [Integers.exec_integerRow s sp f row hrow]
  exact ⟨_, Integers.alu_runs s sp f row.2 ready legal free unheld, Integers.retires_stepped_advance ..⟩
end
